-- ==== Sys2Proof/Word.lean ====
section
/-! DEFINITION. Numbers, identifiers and enumerations of the N2408 (00 "Numbering", 11 R181), and the argument blocks of its long requests (11 R180). -/

namespace Sys2Proof

/-- One byte of the host link (R172). -/
abbrev Byte := BitVec 8
/-- Bay n of the manual is `n − 1` here; bays 1 to 8 (00 "Numbering"). -/
abbrev BayId := Fin 8
/-- Zone n of the manual is `n − 1` here; zones 1 to 12. -/
abbrev ZoneId := Fin 12
/-- Chemistry class n of the manual is `n − 1` here; classes 1 to 8. -/
abbrev ClassId := Fin 8
/-- Head address n of the manual is `n − 1` here; addresses 1 to 32. -/
abbrev HeadAddr := Fin 32
/-- A pack tag or a lot number: 32 bits, 0 is no pack and no lot. -/
abbrev Tag := BitVec 32

/-- The two detector loops. -/
inductive LoopId | a | b
  deriving DecidableEq, Repr
/-- The two oxygen channels (R117). -/
inductive OxyChan | a | b
  deriving DecidableEq, Repr
/-- Line modes (R144), in the code order of R181. -/
inductive LineMode | standby | production | drain | safeHold | maintenance
  deriving DecidableEq, Repr
/-- SAFE_HOLD causes (R147). -/
inductive HoldCause | estop | door | lineHold | supply
  deriving DecidableEq, Repr
/-- Pack states (R2). -/
inductive PackState | intake | inBay | released | staged | feeding | quarantined
  deriving DecidableEq, Repr
/-- Lot states; FINAL stands in records and replies only (R19, R154). -/
inductive LotState | opened | closing | final
  deriving DecidableEq, Repr
/-- Bay states (R23). -/
inductive BayState | empty | placed | discharging | held | tripped | resting | ready | locked
  deriving DecidableEq, Repr
/-- Quarantine reasons (R2). -/
inductive QuarReason
  | packThermal | tripLimit | retryLimit | reboundLimit | timeLimit | recordLimit | placeFault | requested
  deriving DecidableEq, Repr
/-- Trip kinds in the order of the tests (R36). -/
inductive TripKind | packThermal | sense | overcurrent | reverse | heatsink | sustained
  deriving DecidableEq, Repr
/-- The 15 record kinds (R154), in the code order of R181. -/
inductive RecordKind
  | admitted | placed | trip | rebound | ready | stage | expose | exposeClear | confirm | quarantine
  | fed | removed | lotOpen | lotClose | lotFinal
  deriving DecidableEq, Repr
/-- Main states of a zone (R86). -/
inductive ZoneMain | normal | preAlarm | alarm | released
  deriving DecidableEq, Repr
/-- Columns of the Action Matrix (R106). -/
inductive Column | preAlarm | alarm | released | fault
  deriving DecidableEq, Repr
/-- Head kinds (R67). -/
inductive HeadKind | heat | flame | spark | gas
  deriving DecidableEq, Repr
/-- Levels a Head Table entry holds (R67). -/
inductive HeadLevel | normal | pre | alarm | fault | missing
  deriving DecidableEq, Repr
/-- Levels a head reports of itself (R69). -/
inductive FrameLevel | normal | pre | alarm | fault
  deriving DecidableEq, Repr
/-- Atmosphere states (R117). -/
inductive AtmState | air | purging | inert | drift | breach | fault
  deriving DecidableEq, Repr
/-- Atmosphere fault causes (R126). -/
inductive AtmCause | purgeTimeout | sensorFail
  deriving DecidableEq, Repr
/-- Valve commands (R117). -/
inductive Valve | closed | trim | purge
  deriving DecidableEq, Repr
/-- Shredder interlock states (R132). -/
inductive InterlockState | stopped | starting | running | stopping | fault
  deriving DecidableEq, Repr
/-- Interlock fault causes (R132). -/
inductive InterlockCause | startTimeout | rundownTimeout | feedbackLost
  deriving DecidableEq, Repr
/-- Feeder states (R137). -/
inductive FeederState | blocked | ready | feeding | jammed
  deriving DecidableEq, Repr
/-- Outcomes of FEED_CLEAR (R140). -/
inductive FeedOutcome | fed | removed
  deriving DecidableEq, Repr
/-- The nine settings sections (R153), in the code order of R181. -/
inductive Section | cls | bay | budget | zone | action | head | atmosphere | feed | exported
  deriving DecidableEq, Repr
/-- Loop controller states (R70). -/
inductive LoopState | idle | polling | receiving | short
  deriving DecidableEq, Repr
/-- Broadcast commands of a loop (R69). -/
inductive Broadcast | testStart | testEnd | resync
  deriving DecidableEq, Repr
/-- Bay sense (R28). -/
inductive Sense | good | lost
  deriving DecidableEq, Repr
/-- Validity marks of a bay sample record (R27). -/
inductive SampleMark | valid | saturated | invalid
  deriving DecidableEq, Repr
/-- Validity marks of an oxygen sample record, and validity of a channel (R118, R119). -/
inductive OxyMark | valid | invalid
  deriving DecidableEq, Repr
/-- Supply monitor states (R151). -/
inductive Monitor | normal | warning
  deriving DecidableEq, Repr
/-- The five conditioned inputs (R149). -/
inductive InputId | estop | doorClosed | coolingOk | shredRunning | packPassed
  deriving DecidableEq, Repr
/-- Roles of a zone (R87). -/
inductive Role | none | staging | infeed
  deriving DecidableEq, Repr
/-- The seven notice classes, in their order (R176). -/
inductive NoticeClass | zone | bay | pack | atmosphere | feed | line | journal
  deriving DecidableEq, Repr
/-- The statuses of a reply (00 "Statuses"), in the code order of R181. -/
inductive Status
  | ok | clamped | busy | badLength | unknownKind | outOfRange | notFound | duplicate | wrongState
  | wrongMode | full | noLot | noReserve | notConfigured
  deriving DecidableEq, Repr

/-- Fields of CONFIG_CLASS in the widths of R180; `limit` is two's complement. -/
structure ClassArgs where
  cls : Byte
  endMv : BitVec 16
  relMv : BitVec 16
  rate : BitVec 16
  limit : BitVec 16
  rest : BitVec 16
  deriving DecidableEq, Repr

/-- Fields of CONFIG_BAY in the widths of R180; the three temperatures are two's complement. -/
structure BayArgs where
  bay : Byte
  zone : Byte
  currentMax : BitVec 16
  powerMax : BitVec 16
  tripCurrent : BitVec 16
  derate : BitVec 16
  tripTemp : BitVec 16
  restartTemp : BitVec 16
  retryDelay : BitVec 16
  retryLimit : Byte
  clearPeriod : BitVec 16
  maxTime : BitVec 32
  deriving DecidableEq, Repr

/-- Fields of CONFIG_ZONE in the widths of R180. -/
structure ZoneArgs where
  zone : Byte
  coincidence : Byte
  releaseDelay : Byte
  holdTime : Byte
  window : BitVec 16
  preThreshold : BitVec 16
  alarmThreshold : BitVec 16
  windowsForAlarm : Byte
  quenchEnable : Byte
  quenchPulse : BitVec 16
  role : Byte
  deriving DecidableEq, Repr

/-- Fields of CONFIG_ATMOSPHERE in the widths of R180. -/
structure AtmArgs where
  permit : BitVec 16
  hysteresis : BitVec 16
  breach : BitVec 16
  settle : BitVec 16
  resettle : Byte
  maxPurge : BitVec 16
  exponent : Byte
  disagree : BitVec 16
  purgeFlow : BitVec 16
  trimFlow : BitVec 16
  deriving DecidableEq, Repr

/-- Fields of ADMIT in the widths of R180. -/
structure AdmitArgs where
  tag : Tag
  cls : Byte
  cells : Byte
  capacity : BitVec 16
  mass : BitVec 16
  ocv : BitVec 32
  deriving DecidableEq, Repr

/-- `x` brought to the nearest limit of `lo … hi` (R175). -/
def clampNat (lo hi x : Nat) : Nat := if x < lo then lo else if hi < x then hi else x

/-- `x` brought to the nearest limit of `lo … hi`, signed (R175). -/
def clampInt (lo hi x : Int) : Int := if x < lo then lo else if hi < x then hi else x

/-- `x + n` saturating at `top`. -/
def satAdd (top x n : Nat) : Nat := min top (x + n)

end Sys2Proof
end

