-- ==== Sys2Proof/Syntax.lean ====
section
/-! DEFINITION. The commands of the N2408: one constructor for each of the 103 rows of spec/opcode_table.json, in the table's order. -/

namespace Sys2Proof

/-- A command of the part.
A request row carries its message tag `m` and the payload fields of R180 in their widths; it stands for the arrival of
that request in a good frame and its taking (log 1).
A field event carries what the field equipment or the part's own time base brings (log 2). -/
inductive Instr
  -- host link (R173, R174, R176)
  | hostByteReceived (byte : Byte)
  | interByteTimeout
  | requestTaken
  | transmitComplete
  -- line and link requests (R177 to R179, R145, R148, R176)
  | readStatus (m : Byte)
  | setClock (m : Byte) (seconds : BitVec 32)
  | restart (m : Byte)
  | setMode (m mode : Byte)
  | resume (m : Byte)
  | subscribe (m set : Byte)
  -- configuration (R24, R26, R60, R68, R87, R107, R122, R142, R166)
  | configClass (m : Byte) (args : ClassArgs)
  | configBay (m : Byte) (args : BayArgs)
  | configBudget (m : Byte) (budget : BitVec 16) (exponent : Byte)
  | configZone (m : Byte) (args : ZoneArgs)
  | configAction (m zone column actions pct : Byte)
  | configHead (m loop addr enrolled kind zone : Byte)
  | configAtmosphere (m : Byte) (args : AtmArgs)
  | configFeed (m feedTime step : Byte)
  | readConfig (m sect : Byte)
  -- custody and lots (chapter 1)
  | openLot (m : Byte) (lot : Tag)
  | closeLot (m : Byte) (lot : Tag)
  | admitPack (m : Byte) (args : AdmitArgs)
  | place (m : Byte) (tag : Tag) (bay : Byte)
  | stage (m : Byte) (tag : Tag)
  | quarantine (m : Byte) (tag : Tag)
  | remove (m : Byte) (tag : Tag)
  | clearExposure (m : Byte) (tag : Tag)
  | readPack (m : Byte) (tag : Tag)
  | readLot (m : Byte) (lot : Tag)
  | readQueue (m : Byte)
  -- bays (R30, R44, R46 to R48)
  | pauseBay (m bay : Byte)
  | continueBay (m bay : Byte)
  | confirmBay (m bay : Byte)
  | unlockBay (m bay : Byte)
  | readBay (m bay : Byte)
  | clearPeaks (m target : Byte)
  -- zones, heads and loops (R79, R82, R85, R99, R100, R105)
  | resetZone (m zone : Byte)
  | holdRelease (m zone : Byte)
  | isolateHead (m loop addr : Byte)
  | restoreHead (m loop addr : Byte)
  | loopTest (m loop : Byte)
  | readZone (m zone : Byte)
  | readHead (m loop addr : Byte)
  -- atmosphere, shredder and feed (R125, R131, R134, R136, R140, R143)
  | inertStart (m : Byte)
  | shredStart (m : Byte)
  | shredStop (m : Byte)
  | feedClear (m outcome : Byte)
  | readAtmosphere (m : Byte)
  | readFeed (m : Byte)
  -- journal (R160, R163, R165)
  | readJournal (m : Byte) (start : BitVec 32) (count : Byte)
  | exportMark (m : Byte) (seq : BitVec 32)
  | readIncident (m : Byte) (number : BitVec 16)
  -- bays, field events (R27, R35, R38 to R40, R155)
  | heldPackEventTaken
  | baySampleArrival (bay : BayId) (voltage current heatsink packTemp : Int) (mark : SampleMark)
  | baySampleMiss (bay : BayId)
  | retryTimerExpiry (bay : BayId)
  | restTimerExpiry (bay : BayId)
  | maxDischargeTime (bay : BayId)
  | clearPeriod (bay : BayId)
  -- detector loops (chapter 4)
  | loopGapExpiry (loop : LoopId) (loopFree : Bool)
  | loopSeized (loop : LoopId)
  | pollSent (loop : LoopId)
  | broadcastSent (loop : LoopId)
  | answerReceived (loop : LoopId) (addr : HeadAddr) (level : FrameLevel) (value : Int) (test : Bool)
  | answerWindowExpiry (loop : LoopId)
  | reportReceived (loop : LoopId) (addr : HeadAddr) (level : FrameLevel) (value : Int) (test : Bool)
  | loopFrameError (loop : LoopId)
  | loopShort (loop : LoopId)
  | loopRecessive (loop : LoopId)
  | testWindowExpiry (loop : LoopId)
  -- zone timers (chapter 5)
  | preClearTimerExpiry (zone : ZoneId)
  | windowTimerExpiry (zone : ZoneId)
  | releaseTimerExpiry (zone : ZoneId)
  | holdTimerExpiry (zone : ZoneId)
  | quenchTimerExpiry (zone : ZoneId)
  -- atmosphere (chapter 7)
  | oxygenSampleArrival (chan : OxyChan) (value : Nat) (mark : OxyMark)
  | oxygenSampleMiss (chan : OxyChan)
  | settleTimerExpiry
  | maxPurgeTimerExpiry
  | gasCounterSecond
  -- shredder and feed (chapter 8)
  | startTimerExpiry
  | rundownTimerExpiry
  | feedTimerExpiry
  | resettleTimerExpiry
  -- inputs and supply (R149, R151); the supply voltage in 10 mV
  | rawInputChange (input : InputId) (level : Bool)
  | inputConditioned (input : InputId)
  | supplyWarning (volts : Nat)
  | supplyNormal (volts : Nat)
  -- resets (R151, R168, R171)
  | powerReset
  | powerResetRelease (volts : Nat)
  | pinReset
  | commandResetTaken
  | rebuildComplete
  -- NV array (R156, R158, R161 to R166)
  | journalProgramDone
  | incidentProgramDone
  | settingsEraseDone
  | settingsProgramDone
  | nvEraseDone
  | eraseSuspendAck
  | nvReadDone
  | clockSecond
  | goodAnswerNotTaken (loop : LoopId) (addr : HeadAddr)
  | pinResetRelease
  deriving DecidableEq, Repr

end Sys2Proof
end

