-- ==== Sys2Proof/Decode.lean ====
section
/-! DEFINITION. The command a word spells by the table's bits: no row of spec/opcode_table.json gives bits, so no word spells one. -/

namespace Sys2Proof

/-- The command that `w` spells in `nbits` bits of spec/opcode_table.json: none, since no row of the table gives bits. -/
def decodeTableWord (_nbits _w : Nat) : Option Instr := none

end Sys2Proof
end

