-- ==== Sys2Proof/Config.lean ====
section
/-! DEFINITION. The values the manual leaves open, as constants without a body: nothing in Lean can evaluate them (logs 10, 11, 28, 35, 45). -/

namespace Sys2Proof.Config

/-- Free value: whether the zone takes a bay's pack-over-limit report before the bay acts on it (R29, R41, R90; log 10).
The argument is the counter of free values taken. -/
opaque zoneFirst : Nat → Bool

/-- Free value: whether the interlock and the line mode take their parts of a changed effect set before the feeder does (R109; log 11). -/
opaque holdFirst : Nat → Bool

/-- Free value: which of several candidate slots the scan takes as the most recent incident (R169; log 28).
The first argument is the number of candidates. -/
opaque scanPick : Nat → Nat → Nat

/-- Free value: the settings of an unconfigured class, in the order of CONFIG_CLASS (R26; log 35).
The first argument is the class. -/
opaque unstatedClass : Nat → Nat → Nat

/-- Free value: whether the Budget Arbiter takes a changed budget percentage before the bays take the changed HOLD_BAYS marks (R111; log 45). -/
opaque pctFirst : Nat → Bool

end Sys2Proof.Config
end

