-- ==== Sys2Proof/Machine/State.lean ====
section
/-! DEFINITION. Everything the manual gives the part, as plain data, and its value right after reset. -/

namespace Sys2Proof.Machine

/-! ### Faults and refusals -/

/-- No command of the part ends in a fault: every row of the table has an effect the manual gives, and no constructor is needed. -/
inductive Fault
  deriving DecidableEq, Repr

/-- Why a step gives no state. -/
inductive Refusal
  /-- Raised by an arm of `exec` that has no meaning yet; safe: the command changes nothing. -/
  | notModelled (mnemonic : String)
  deriving DecidableEq, Repr

/-! ### Time, packs, lots and records -/

/-- The line clock, or a time stamp taken from it: seconds and the clock-unset mark (R177). -/
structure Stamp where
  seconds : BitVec 32
  unset : Bool
  deriving DecidableEq, Repr

/-- Exposure of a pack: the incident and whether it has been cleared (R2, R10, R16). -/
structure Exposure where
  incident : BitVec 16
  cleared : Bool
  deriving DecidableEq, Repr

/-- A custody entry (R2). -/
structure Pack where
  tag : Tag
  lot : Tag
  cls : ClassId
  cells : Nat
  capacity : Nat
  mass : Nat
  ocv : Nat
  state : PackState
  bay : Option BayId
  energy : Nat
  gap : Bool
  trips : Nat
  rebounds : Nat
  charge : Nat
  firstRecord : Nat
  exposure : Option Exposure
  reason : Option QuarReason
  deriving DecidableEq, Repr

/-- A lot entry (R18, R20). -/
structure Lot where
  number : Tag
  state : LotState
  admitted : Nat
  fed : Nat
  removed : Nat
  energy : Nat
  massFed : Nat
  massRemoved : Nat
  written : Nat
  opening : Nat
  deriving DecidableEq, Repr

/-- Detail of a record, by kind (R154). -/
inductive Detail
  | none
  | admitted (cls : ClassId) (cells capacity mass ocv : Nat) (bypass : Bool)
  | trip (kind : TripKind)
  | incident (number : BitVec 16)
  | quarantine (reason : QuarReason)
  | fed (late : Bool)
  | lotFinal (admitted fed removed energy massFed massRemoved gas : Nat)
  deriving DecidableEq, Repr

/-- The state after a record: the pack's, or the lot's (R154). -/
inductive AfterState
  | pack (s : PackState)
  | lot (s : LotState)
  deriving DecidableEq, Repr

/-- A journal record (R154). -/
structure Record where
  seq : Nat
  kind : RecordKind
  stamp : Stamp
  subject : Tag
  lot : Tag
  after : AfterState
  bay : Option BayId
  energy : Nat
  trips : Nat
  rebounds : Nat
  charge : Nat
  detail : Detail
  deriving DecidableEq, Repr

/-- A pack event on its way to the Custody Table (R13 to R16). -/
inductive PackEvent
  | trip (bay : BayId) (tag : Tag) (kind : TripKind)
  | rebound (bay : BayId) (tag : Tag)
  | ready (bay : BayId) (tag : Tag)
  | bayQuarantine (bay : BayId) (tag : Tag) (reason : QuarReason)
  | feeding (tag : Tag)
  | fed (tag : Tag) (late : Bool)
  | feedRemoved (tag : Tag)
  | expose (tag : Tag) (incident : BitVec 16)
  deriving DecidableEq, Repr

/-! ### Settings (R24, R26, R60, R68, R87, R106, R122, R142) -/

/-- Settings of a chemistry class (R26). -/
structure ClassSettings where
  endMv : Nat
  relMv : Nat
  rate : Nat
  limit : Int
  rest : Nat
  deriving DecidableEq, Repr

/-- Settings of a bay (R24). -/
structure BaySettings where
  zone : ZoneId
  currentMax : Nat
  powerMax : Nat
  tripCurrent : Nat
  derate : Int
  tripTemp : Int
  restartTemp : Int
  retryDelay : Nat
  retryLimit : Nat
  clearPeriod : Nat
  maxTime : Nat
  deriving DecidableEq, Repr

/-- The configured budget and the bay average exponent (R59, R60). -/
structure Budget where
  watts : Nat
  exponent : Nat
  deriving DecidableEq, Repr

/-- Settings of a zone (R87). -/
structure ZoneSettings where
  coincidence : Bool
  releaseDelay : Nat
  holdTime : Nat
  window : Nat
  preThreshold : Nat
  alarmThreshold : Nat
  windowsForAlarm : Nat
  quenchEnable : Bool
  quenchPulse : Nat
  role : Role
  deriving DecidableEq, Repr

/-- An action set (R106). -/
structure Actions where
  holdBays : Bool
  blockFeed : Bool
  stopShredder : Bool
  inertBoost : Bool
  lineHold : Bool
  deriving DecidableEq, Repr

/-- An action cell (R106). -/
structure ActionCell where
  actions : Actions
  pct : Nat
  deriving DecidableEq, Repr

/-- The four cells of one zone (R106). -/
structure ZoneCells where
  preAlarm : ActionCell
  alarm : ActionCell
  released : ActionCell
  fault : ActionCell
  deriving DecidableEq, Repr

/-- Enrollment of a head: kind and zone (R67). -/
structure Enrollment where
  kind : HeadKind
  zone : ZoneId
  deriving DecidableEq, Repr

/-- Settings of the chamber (R122). -/
structure AtmSettings where
  permit : Nat
  hysteresis : Nat
  breach : Nat
  settle : Nat
  resettle : Nat
  maxPurge : Nat
  exponent : Nat
  disagree : Nat
  purgeFlow : Nat
  trimFlow : Nat
  deriving DecidableEq, Repr

/-- Settings of the feed (R142). -/
structure FeedSettings where
  feedTime : Nat
  step : Nat
  deriving DecidableEq, Repr

/-- Content of a settings section (R166). -/
inductive SectionData
  | cls (v : Vector (Option ClassSettings) 8)
  | bay (v : Vector (Option BaySettings) 8)
  | budget (v : Budget)
  | zone (v : Vector ZoneSettings 12)
  | action (v : Vector ZoneCells 12)
  | head (a b : Vector (Option Enrollment) 32)
  | atmosphere (v : AtmSettings)
  | feed (v : FeedSettings)
  | exported (mark : Nat)
  deriving DecidableEq, Repr

/-! ### Bays and budget (chapters 2 and 3) -/

/-- The four measured values of a sample (R27). -/
structure Sample where
  voltage : Int
  current : Int
  heatsink : Int
  packTemp : Int
  deriving DecidableEq, Repr

/-- A block in progress: its length and what it has taken so far (R50). -/
structure Block where
  length : Nat
  count : Nat
  voltage : Int
  current : Int
  heatsink : Int
  deriving DecidableEq, Repr

/-- The latest averages (R50). -/
structure Averages where
  voltage : Int
  current : Int
  heatsink : Int
  deriving DecidableEq, Repr

/-- The three peaks (R30). -/
structure Peaks where
  current : Int
  heatsink : Int
  packTemp : Int
  deriving DecidableEq, Repr

/-- The hold-reason set (R42). -/
structure Holds where
  line : Bool
  zone : Bool
  cooling : Bool
  requested : Bool
  restart : Bool
  deriving DecidableEq, Repr

/-- A bay channel (R23, R42, R61, R66). Timers in ms. -/
structure Bay where
  state : BayState
  pack : Option Tag
  settings : Option BaySettings
  lastValid : Option Sample
  lastMark : Option SampleMark
  invalidRun : Nat
  sense : Sense
  averages : Option Averages
  block : Option Block
  blockWaitsValid : Bool
  reversalDue : Bool
  command : Nat
  dischargeMs : Nat
  clearMs : Nat
  retryCount : Nat
  sustained : Nat
  retryTimer : Option Nat
  restTimer : Option Nat
  residue : Nat
  holds : Holds
  overLimit : Bool
  peaks : Option Peaks
  missTimer : Nat
  rateLimit : Nat
  thermalLimit : Nat
  wanted : Nat
  participant : Bool
  request : Nat
  grant : Nat
  deriving DecidableEq, Repr

/-! ### Heads and loops (chapter 4) -/

/-- The entry of an enrolled head (R67). -/
structure Head where
  kind : HeadKind
  zone : ZoneId
  isolated : Bool
  level : HeadLevel
  value : Int
  missed : Nat
  tested : Bool
  deriving DecidableEq, Repr

/-- A frame the controller has begun (R69, R70). -/
inductive LoopFrame
  | poll (addr : HeadAddr)
  | broadcast (b : Broadcast)
  deriving DecidableEq, Repr

/-- A Loop Controller and its 32 head entries (R67, R69 to R83). `ack` is the level it gave the last acknowledge slot: `some true` driven
dominant, `some false` left recessive, `none` before the first (R76, log 68). -/
structure Loop where
  state : LoopState
  sending : Option LoopFrame
  gap : Option Nat
  cursor : Option HeadAddr
  polled : Option HeadAddr
  orphan : Bool
  answer : Option Nat
  waiting : List Broadcast
  testing : Bool
  testTimer : Option Nat
  frameErrors : Nat
  stranger : Bool
  lastStranger : Option HeadAddr
  strangerCount : Nat
  ack : Option Bool
  heads : Vector (Option Head) 32
  deriving DecidableEq, Repr

/-! ### Zones and incidents (chapter 5) -/

/-- Head counts of a zone (R88). -/
structure HeadCounts where
  counted : Nat
  pre : Nat
  alarm : Nat
  flameAlarm : Nat
  bad : Nat
  isolated : Nat
  deriving DecidableEq, Repr

/-- Cause of an entry into ALARM (R94). -/
inductive AlarmCause
  | head (loop : LoopId) (addr : HeadAddr) (kind : HeadKind) (level : HeadLevel) (value : Int)
  | spark (head : Option (LoopId × HeadAddr)) (counter consecutive : Nat)
  | bayThermal (bay : BayId) (packTemp : Int)
  deriving DecidableEq, Repr

/-- The release timer (R86, R98, R99), with its remaining ms. -/
inductive Release
  | idle
  | running (ms : Nat)
  | paused (ms : Nat)
  deriving DecidableEq, Repr

/-- A zone record (R86). -/
structure Zone where
  main : ZoneMain
  settings : ZoneSettings
  counts : HeadCounts
  fault : Bool
  thermal : Bool
  sparks : Nat
  window : Option Nat
  consecutive : Nat
  lastSpark : Option (LoopId × HeadAddr)
  preClear : Option Nat
  release : Release
  holdUsed : Bool
  holdTimer : Option Nat
  cause : Option AlarmCause
  quench : Bool
  quenchTimer : Option Nat
  quenchCount : Nat
  suppression : Bool
  releaseCount : Nat
  deriving DecidableEq, Repr

/-- The line effects in force (R109). -/
structure EffectSet where
  blockFeed : Bool
  stopShredder : Bool
  inertBoost : Bool
  lineHold : Bool
  marks : Vector Bool 12
  pct : Nat
  deriving DecidableEq, Repr

/-- What the open snapshot shows of one bay (R102). -/
structure BayShot where
  state : BayState
  pack : Option Tag
  overLimit : Bool
  deriving DecidableEq, Repr

/-- The open part of an incident record (R102). -/
structure OpenPart where
  number : BitVec 16
  opened : Stamp
  firstZone : ZoneId
  cause : Option AlarmCause
  zones : Vector ZoneMain 12
  mode : LineMode
  effect : EffectSet
  bays : Vector BayShot 8
  queueLength : Nat
  queueHead : Option Tag
  headFeeding : Bool
  atmosphere : AtmState
  control : Option Nat
  interlock : InterlockState
  feeder : FeederState
  exposed : Nat
  quarantined : Nat
  deriving DecidableEq, Repr

/-- The close part of an incident record (R103). -/
structure ClosePart where
  number : BitVec 16
  closed : Stamp
  seconds : Nat
  zones : Vector Bool 12
  releases : Nat
  exposed : Nat
  quarantined : Nat
  deriving DecidableEq, Repr

/-- The open incident's close part in the making (R101, R103). -/
structure Progress where
  openedAt : Nat
  zones : Vector Bool 12
  releases : Nat
  exposed : Nat
  quarantined : Nat
  deriving DecidableEq, Repr

/-- The incident number and, while an incident is open, its close part in the making (R101). -/
structure Incident where
  number : BitVec 16
  progress : Option Progress
  deriving DecidableEq, Repr

/-! ### Atmosphere (chapter 7) -/

/-- An oxygen block in progress (R120). -/
structure OxyBlock where
  length : Nat
  count : Nat
  sum : Nat
  deriving DecidableEq, Repr

/-- An oxygen channel (R117). -/
structure Channel where
  valid : Bool
  last : Option Nat
  invalidRun : Nat
  validRun : Nat
  block : Option OxyBlock
  average : Option Nat
  missTimer : Nat
  deriving DecidableEq, Repr

/-- The peak oxygen and when it was set (R130). -/
structure OxyPeak where
  value : Nat
  stamp : Stamp
  deriving DecidableEq, Repr

/-- The Atmosphere Controller (R117). -/
structure Atmosphere where
  chanA : Channel
  chanB : Channel
  control : Option Nat
  disagree : Bool
  degraded : Bool
  sensorFail : Bool
  state : AtmState
  settled : Bool
  cause : Option AtmCause
  valve : Valve
  maxPurge : Option Nat
  settle : Option Nat
  gas : Nat
  openMs : Nat
  peak : Option OxyPeak
  settings : AtmSettings
  deriving DecidableEq, Repr

/-! ### Shredder, feeder and line mode (chapters 8 and 9) -/

/-- The shredder interlock (R132). -/
structure Interlock where
  state : InterlockState
  permission : Bool
  startTimer : Option Nat
  rundownTimer : Option Nat
  cause : Option InterlockCause
  deriving DecidableEq, Repr

/-- The feeder's block-reason set (R137). -/
structure Reasons where
  mode : Bool
  atmosphere : Bool
  settle : Bool
  shredder : Bool
  effect : Bool
  deriving DecidableEq, Repr

/-- The feeder (R137, R139, R141, R142). -/
structure Feeder where
  state : FeederState
  reasons : Reasons
  gate : Bool
  feedTimer : Option Nat
  resettleTimer : Option Nat
  tag : Option Tag
  strays : Nat
  settings : FeedSettings
  resettle : Nat
  resettleNow : Nat
  deriving DecidableEq, Repr

/-- One discrete input (R149); `cond` is none while it is unconditioned. -/
structure Input where
  raw : Bool
  cond : Option Bool
  debounce : Option Nat
  deriving DecidableEq, Repr

/-- The five inputs (R149). -/
structure Inputs where
  estop : Input
  doorClosed : Input
  coolingOk : Input
  shredRunning : Input
  packPassed : Input
  deriving DecidableEq, Repr

/-- The Line Mode Controller (R144, R149, R151). -/
structure Line where
  mode : LineMode
  cause : Option HoldCause
  inputs : Inputs
  supply : Nat
  monitor : Monitor
  flushDone : Bool
  deriving DecidableEq, Repr

/-! ### Journal Writer and NV array (chapter 10) -/

/-- A stored part or section: erased, unreadable, or good (R153). -/
inductive Stored (α : Type)
  | blank
  | failed
  | good (a : α)
  deriving DecidableEq, Repr

/-- A journal slot that is not erased (R153). -/
inductive Slot
  | failed
  | good (r : Record)
  deriving DecidableEq, Repr

/-- An incident slot (R153, R164). -/
structure IncidentSlot where
  opened : Stored OpenPart
  closed : Stored ClosePart
  deriving DecidableEq, Repr

/-- The NV array (R153). `journal` lists the slots that are not erased, slot numbers 0 to 4095 strictly rising; an unlisted slot is erased. -/
structure Nv where
  journal : List (Nat × Slot)
  incidents : Vector IncidentSlot 16
  sections : Vector (Stored SectionData) 9
  deriving DecidableEq, Repr

/-- A record in the record buffer, with its slot or waiting without one (R155, R157). -/
structure Buffered where
  record : Record
  slot : Option Nat
  deriving DecidableEq, Repr

/-- A part in the incident buffer (R164). -/
inductive IncidentPart
  | opened (p : OpenPart)
  | closed (p : ClosePart)
  deriving DecidableEq, Repr

/-- The segment a journal or incident erase blanks (R158, R164). -/
inductive EraseTarget
  | journal (seg : Nat)
  | incident (slot : Nat)
  deriving DecidableEq, Repr

/-- A read at priority 4 (R163, R165). -/
inductive ReadOp
  | journal (start count : Nat)
  | incident (number : BitVec 16)
  deriving DecidableEq, Repr

/-- A waiting operation of a settings rewrite (R161, R166). -/
inductive SettingsOp
  | erase (sec : Section)
  | program (sec : Section)
  deriving DecidableEq, Repr

/-- The operation the array has in hand (R161, R162). -/
inductive NvOp
  | journalProgram (count : Nat)
  | incidentProgram
  | settingsErase (sec : Section)
  | settingsProgram (sec : Section) (content : SectionData)
  | erase (target : EraseTarget) (needed suspending : Bool)
  | read (op : ReadOp)
  deriving DecidableEq, Repr

/-- The Journal Writer's RAM (R154 to R166). -/
structure Writer where
  buffer : List Buffered
  nextSeq : Nat
  current : Nat
  used : Nat
  mark : Nat
  valid : Vector Bool 9
  incidents : List IncidentPart
  droppedOpen : Option (BitVec 16)
  lastIncident : Option (BitVec 16)
  running : Option NvOp
  suspended : Option EraseTarget
  reads : List ReadOp
  settingsOps : List SettingsOp
  aheads : List EraseTarget
  deriving DecidableEq, Repr

/-- The tables the replay has built, until they are put in place (R170, R171). -/
structure Tables where
  packs : List Pack
  lots : List Lot
  queue : List Tag
  deriving DecidableEq, Repr

/-! ### Host link (chapter 11) -/

/-- A request, with its payload fields in the widths of R180. -/
inductive Request
  | readStatus
  | setClock (seconds : BitVec 32)
  | restart
  | setMode (mode : Byte)
  | resume
  | subscribe (set : Byte)
  | configClass (args : ClassArgs)
  | configBay (args : BayArgs)
  | configBudget (budget : BitVec 16) (exponent : Byte)
  | configZone (args : ZoneArgs)
  | configAction (zone column actions pct : Byte)
  | configHead (loop addr enrolled kind zone : Byte)
  | configAtmosphere (args : AtmArgs)
  | configFeed (feedTime step : Byte)
  | readConfig (sect : Byte)
  | openLot (lot : Tag)
  | closeLot (lot : Tag)
  | admitPack (args : AdmitArgs)
  | place (tag : Tag) (bay : Byte)
  | stage (tag : Tag)
  | quarantine (tag : Tag)
  | remove (tag : Tag)
  | clearExposure (tag : Tag)
  | readPack (tag : Tag)
  | readLot (lot : Tag)
  | readQueue
  | pauseBay (bay : Byte)
  | continueBay (bay : Byte)
  | confirmBay (bay : Byte)
  | unlockBay (bay : Byte)
  | readBay (bay : Byte)
  | clearPeaks (target : Byte)
  | resetZone (zone : Byte)
  | holdRelease (zone : Byte)
  | isolateHead (loop addr : Byte)
  | restoreHead (loop addr : Byte)
  | loopTest (loop : Byte)
  | readZone (zone : Byte)
  | readHead (loop addr : Byte)
  | inertStart
  | inertStop
  | shredStart
  | shredStop
  | feedClear (outcome : Byte)
  | readAtmosphere
  | readFeed
  | readJournal (start : BitVec 32) (count : Byte)
  | exportMark (seq : BitVec 32)
  | readIncident (number : BitVec 16)
  deriving DecidableEq, Repr

/-- What a good frame asks (R174): a known request, a kind outside the catalogue, or a known kind with the wrong length. -/
inductive Asked
  | known (r : Request)
  | unknownKind (kind : Byte)
  | badLength (kind : Byte)
  deriving DecidableEq, Repr

/-- READ_STATUS (R178). -/
structure StatusView where
  mode : LineMode
  cause : Option HoldCause
  effect : EffectSet
  incident : BitVec 16
  incidentOpen : Bool
  valid : Vector Bool 9
  free : Nat
  reserve : Nat
  buffered : Nat
  newest : Nat
  mark : Nat
  inputs : List (Option Bool)
  monitor : Monitor
  flushDone : Bool
  packs : Nat
  openLot : Option Tag
  subscribed : BitVec 7
  noticePending : BitVec 7
  discardedRequests : Nat
  discards : Nat
  clock : Stamp
  deriving DecidableEq, Repr

/-- READ_BAY (R48, R66). Times in whole seconds (log 43). -/
structure BayView where
  state : BayState
  configured : Bool
  pack : Option Tag
  holds : Holds
  primary : Option Nat
  command : Nat
  request : Option Nat
  grant : Option Nat
  figures : Option (Nat × Nat × Nat)
  starved : Bool
  lastValid : Option Sample
  averages : Option Averages
  lastMark : Option SampleMark
  invalidRun : Nat
  sense : Sense
  retryCount : Nat
  dischargeSeconds : Nat
  clearSeconds : Nat
  retryTimer : Option Nat
  restTimer : Option Nat
  sustained : Nat
  overLimit : Bool
  peaks : Option Peaks
  residue : Nat
  budget : Nat
  effective : Nat
  participants : Nat
  granted : Nat
  deriving DecidableEq, Repr

/-- READ_ZONE (R105): the conditions clause by clause, counts, sparks, timers, cause and outputs. The spark window, the quench pulse and
the release timer are in ms (R86, R87), the other times in whole seconds (log 43). -/
structure ZoneView where
  main : ZoneMain
  fault : Bool
  alarmClauses : List Bool
  preClauses : List Bool
  counts : HeadCounts
  thermal : Bool
  thermalBay : Option BayId
  sparks : Nat
  consecutive : Nat
  window : Option Nat
  lastSpark : Option (LoopId × HeadAddr)
  preClear : Option Nat
  release : Release
  holdUsed : Bool
  holdTimer : Option Nat
  cause : Option AlarmCause
  quench : Bool
  quenchTimer : Option Nat
  quenchCount : Nat
  suppression : Bool
  releaseCount : Nat
  deriving DecidableEq, Repr

/-- READ_HEAD (R85). Its time is in whole seconds (log 43). -/
structure HeadView where
  loop : LoopId
  addr : HeadAddr
  entry : Option Head
  state : LoopState
  testing : Bool
  testTimer : Option Nat
  cursor : Option HeadAddr
  enrolled : Nat
  missing : Nat
  tested : Nat
  stranger : Bool
  lastStranger : Option HeadAddr
  strangerCount : Nat
  frameErrors : Nat
  deriving DecidableEq, Repr

/-- What READ_ATMOSPHERE shows of a channel (R131). -/
structure ChannelView where
  valid : Bool
  last : Option Nat
  average : Option Nat
  invalidRun : Nat
  validRun : Nat
  deriving DecidableEq, Repr

/-- READ_ATMOSPHERE (R131). Its times are in whole seconds (log 43). -/
structure AtmView where
  chanA : ChannelView
  chanB : ChannelView
  control : Option Nat
  disagree : Bool
  degraded : Bool
  sensorFail : Bool
  state : AtmState
  settled : Bool
  cause : Option AtmCause
  doorClosed : Bool
  valve : Valve
  boost : Bool
  maxPurge : Option Nat
  settle : Option Nat
  runCondition : Bool
  feedCondition : Bool
  litres : Nat
  gas : Nat
  peak : Option OxyPeak
  settings : AtmSettings
  deriving DecidableEq, Repr

/-- The five conditions of run permission as they stand (R133, R134). -/
structure RunConditions where
  atmosphere : Bool
  mode : Bool
  noStop : Bool
  estopClear : Bool
  doorClosed : Bool
  deriving DecidableEq, Repr

/-- The four conditions of RESUME as they stand (R148). -/
structure ResumeConditions where
  estopClear : Bool
  doorClosed : Bool
  noLineHold : Bool
  supplyNormal : Bool
  deriving DecidableEq, Repr

/-- READ_FEED (R143). Its times are in whole seconds (log 43). -/
structure FeedView where
  interlock : InterlockState
  cause : Option InterlockCause
  runOutput : Bool
  feedback : Bool
  permission : Bool
  conditions : RunConditions
  startTimer : Option Nat
  rundownTimer : Option Nat
  feeder : FeederState
  reasons : Reasons
  primary : Option Nat
  gate : Bool
  tag : Option Tag
  feedTimer : Option Nat
  resettleTimer : Option Nat
  strays : Nat
  settings : FeedSettings
  deriving DecidableEq, Repr

/-- An item of a READ_JOURNAL reply: a record, or a sequence marked unreadable (R163, R182). -/
inductive JournalItem
  | record (r : Record)
  | unreadable (seq : Nat)
  deriving DecidableEq, Repr

/-- What a reply carries after its status (R175, R180); CONFIG_HEAD's entry as set is log 54. -/
inductive Body
  | none
  | status (v : StatusView)
  | clock (v : Stamp)
  | mode (v : LineMode)
  | classSet (v : BitVec 7)
  | cls (v : ClassSettings)
  | bay (v : BaySettings)
  | budget (v : Budget)
  | zone (v : ZoneSettings)
  | cell (v : ActionCell)
  | head (l : LoopId) (a : HeadAddr) (v : Option Head)
  | atmosphere (v : AtmSettings)
  | feed (v : FeedSettings)
  | config (valid : Bool) (v : SectionData)
  | lotState (v : LotState)
  | admitted (state : PackState) (first : Nat)
  | packState (v : Option PackState)
  | pack (v : Pack) (position : Option Nat)
  | lot (v : Lot) (inCustody : Nat)
  | queue (tags : List Tag) (head : Option PackState)
  | holds (v : Holds)
  | bayState (v : BayState)
  | bayView (v : BayView)
  | zoneMain (v : ZoneMain)
  | releaseMs (v : Nat)
  | level (v : HeadLevel) (isolated : Bool)
  | window (v : Bool)
  | zoneView (v : ZoneView)
  | headView (v : HeadView)
  | atmState (v : AtmState)
  | interlock (v : InterlockState)
  | atmView (v : AtmView)
  | feedView (v : FeedView)
  | journal (v : List JournalItem)
  | mark (v : Nat)
  | incident (o : OpenPart) (c : Option ClosePart)
  | notValid (v : List Section)
  | notStopped (i : InterlockState) (f : FeederState)
  | resumeConditions (v : ResumeConditions)
  | runConditions (v : RunConditions)
  deriving DecidableEq, Repr

/-- A reply: its status and what follows it (R175). -/
structure Reply where
  status : Status
  body : Body
  deriving DecidableEq, Repr

/-- What a taken request's reply waits for (R82, R140, R163, R165, R166). -/
inductive WaitOn
  | rewrite (sec : Section) (started : Bool) (reply : Reply)
  | read (op : ReadOp)
  | broadcast (loop : LoopId) (start : Bool)
  | feedEvent (tag : Tag)
  deriving DecidableEq, Repr

/-- How far a queued request has come (R174). -/
inductive Stage
  | untaken
  | waiting (w : WaitOn)
  | formed (r : Reply)
  deriving DecidableEq, Repr

/-- An entry of the request queue (R174). -/
structure Entry where
  mtag : Byte
  asked : Asked
  stage : Stage
  deriving DecidableEq, Repr

/-- How a pack in the list of packs changed has left custody (R176). -/
inductive ExitKind | fed | removed
  deriving DecidableEq, Repr

/-- An entry of the list of packs changed (R176). -/
structure PackChange where
  tag : Tag
  exit : Option ExitKind
  deriving DecidableEq, Repr

/-- What the ZONE notice shows of a zone (R176). -/
structure ZoneShot where
  main : ZoneMain
  fault : Bool
  suppression : Bool
  deriving DecidableEq, Repr

/-- What the ZONE notice shows of a loop (R176). -/
structure LoopShot where
  state : LoopState
  testing : Bool
  stranger : Bool
  deriving DecidableEq, Repr

/-- What the BAY notice shows of a bay (R48, R176). -/
structure BayChange where
  bay : BayId
  state : BayState
  primary : Option Nat
  sense : Sense
  starved : Bool
  deriving DecidableEq, Repr

/-- What the PACK notice shows of a pack (R176). -/
structure PackShot where
  tag : Tag
  exit : Option ExitKind
  state : Option PackState
  bay : Option BayId
  exposure : Option Exposure
  reason : Option QuarReason
  deriving DecidableEq, Repr

/-- Content of a notice (R176). -/
inductive Notice
  | zone (zones : Vector ZoneShot 12) (incident : BitVec 16) (incidentOpen : Bool) (loopA loopB : LoopShot)
  | bay (bays : List BayChange)
  | pack (packs : Nat) (openLot : Option Tag) (queueLength : Nat) (queueHead : Option Tag)
      (changes : List PackShot) (overflow : Bool)
  | atmosphere (state : AtmState) (settled : Bool) (valve : Valve) (control : Option Nat)
      (disagree degraded sensorFail : Bool)
  | feed (interlock : InterlockState) (cause : Option InterlockCause) (feeder : FeederState)
      (reasons : Reasons) (gate : Bool) (tag : Option Tag)
  | line (mode : LineMode) (cause : Option HoldCause) (effect : EffectSet) (inputs : List (Option Bool))
      (monitor : Monitor) (flushDone : Bool)
  | journal (free reserve buffered newest mark : Nat) (eraseSuspended : Bool) (lastIncident : Option (BitVec 16))
  deriving DecidableEq, Repr

/-- A frame being sent (R174, R176). -/
inductive OutFrame
  | reply (kind mtag : Byte) (reply : Reply)
  | notice (n : Notice)
  deriving DecidableEq, Repr

/-- The receiver (R173). -/
inductive Receiver
  | hunting
  | length
  | collecting (length : Nat) (bytes : List Byte)
  deriving DecidableEq, Repr

/-- How far a RESTART has come (R179). -/
inductive Restart | none | accepted | flushing
  deriving DecidableEq, Repr

/-- The Link Port (R173 to R176, R179). -/
structure Link where
  rx : Receiver
  gap : Option Nat
  discards : Nat
  discardedRequests : Nat
  queue : List Entry
  tx : Option OutFrame
  subscribed : BitVec 7
  noticePending : BitVec 7
  baysChanged : BitVec 8
  packsChanged : List PackChange
  overflow : Bool
  restart : Restart
  deriving DecidableEq, Repr

/-- Whether the part is held in reset, starting, or running (R1, R151, R168). -/
inductive Phase | inPowerReset | inPinReset | starting | running
  deriving DecidableEq, Repr

/-! ### The machine -/

/-- The state of the part. Timers in ms; `pending` is the queue of commands that wait, first in first out; `gaps` names the packs, by tag
and first record, whose energy-gap mark was set when the last rebuild ended (R2; the model's own field, log 40). -/
structure State where
  pending : List Instr
  phase : Phase
  free : Nat
  now : Nat
  clock : Stamp
  link : Link
  packs : List Pack
  lots : List Lot
  queue : List Tag
  held : List PackEvent
  rebuilt : Option Tables
  gaps : List (Tag × Nat)
  classes : Vector (Option ClassSettings) 8
  bays : Vector Bay 8
  budget : Budget
  loopA : Loop
  loopB : Loop
  zones : Vector Zone 12
  incident : Incident
  cells : Vector ZoneCells 12
  effect : EffectSet
  atm : Atmosphere
  interlock : Interlock
  feeder : Feeder
  line : Line
  writer : Writer
  nv : Nv
  deriving DecidableEq, Repr

/-! ### Values after reset -/

/-- The empty hold-reason set (R42). -/
def Holds.clear : Holds := ⟨false, false, false, false, false⟩

/-- The settings of a bay that is not configured (R24); it has no zone, and no rule reads the one that stands here. -/
def BaySettings.default : BaySettings := ⟨0, 15000, 6000, 18000, 700, 900, 600, 30, 3, 300, 28800⟩

/-- A bay channel after reset (R23), unconfigured, with LINE and COOLING present (R42); the miss timer's 150 ms is log 27, and the absent
mark of a bay that has had no sample event is log 44. -/
def Bay.initial : Bay where
  state := .empty
  pack := none
  settings := none
  lastValid := none
  lastMark := none
  invalidRun := 0
  sense := .good
  averages := none
  block := none
  blockWaitsValid := false
  reversalDue := false
  command := 0
  dischargeMs := 0
  clearMs := 0
  retryCount := 0
  sustained := 0
  retryTimer := none
  restTimer := none
  residue := 0
  holds := ⟨true, false, true, false, false⟩
  overLimit := false
  peaks := none
  missTimer := 150
  rateLimit := 0
  thermalLimit := 0
  wanted := 0
  participant := false
  request := 0
  grant := 0

/-- The default budget and exponent (R59). -/
def Budget.default : Budget := ⟨24000, 3⟩

/-- A loop after reset, as if leaving SHORT: RESYNC begun, no head enrolled (R67, R70, R81), no cursor until RESYNC is sent (R72, log 47). -/
def Loop.initial : Loop where
  state := .idle
  sending := some (.broadcast .resync)
  gap := none
  cursor := none
  polled := none
  orphan := false
  answer := none
  waiting := [.resync]
  testing := false
  testTimer := none
  frameErrors := 0
  stranger := false
  lastStranger := none
  strangerCount := 0
  ack := none
  heads := Vector.replicate 32 none

/-- The default settings of a zone (R87). -/
def ZoneSettings.default : ZoneSettings := ⟨true, 30, 60, 1000, 2, 8, 3, true, 500, .none⟩

/-- A zone record after reset (R86). -/
def Zone.initial : Zone where
  main := .normal
  settings := ZoneSettings.default
  counts := ⟨0, 0, 0, 0, 0, 0⟩
  fault := false
  thermal := false
  sparks := 0
  window := none
  consecutive := 0
  lastSpark := none
  preClear := none
  release := .idle
  holdUsed := false
  holdTimer := none
  cause := none
  quench := false
  quenchTimer := none
  quenchCount := 0
  suppression := false
  releaseCount := 0

/-- The default cells of a zone (R106). -/
def ZoneCells.default : ZoneCells where
  preAlarm := ⟨⟨false, true, false, false, false⟩, 50⟩
  alarm := ⟨⟨true, true, true, true, false⟩, 0⟩
  released := ⟨⟨true, true, true, true, true⟩, 0⟩
  fault := ⟨⟨false, false, false, false, false⟩, 100⟩

/-- The effect set with no active cell (R109). -/
def EffectSet.clear : EffectSet := ⟨false, false, false, false, Vector.replicate 12 false, 100⟩

/-- The default settings of the chamber (R122). -/
def AtmSettings.default : AtmSettings := ⟨400, 50, 800, 30, 10, 900, 2, 150, 400, 40⟩

/-- An oxygen channel after reset (R117); the miss timer's 375 ms is log 27. -/
def Channel.initial : Channel := ⟨false, none, 0, 0, none, none, 375⟩

/-- The Atmosphere Controller after reset (R117). -/
def Atmosphere.initial : Atmosphere where
  chanA := Channel.initial
  chanB := Channel.initial
  control := none
  disagree := false
  degraded := false
  sensorFail := true
  state := .air
  settled := false
  cause := none
  valve := .closed
  maxPurge := none
  settle := none
  gas := 0
  openMs := 0
  peak := none
  settings := AtmSettings.default

/-- The shredder interlock after reset (R132). -/
def Interlock.initial : Interlock := ⟨.stopped, false, none, none, none⟩

/-- The default settings of the feed (R142). -/
def FeedSettings.default : FeedSettings := ⟨20, 4⟩

/-- The feeder after reset (R137). -/
def Feeder.initial : Feeder where
  state := .blocked
  reasons := ⟨true, true, false, true, false⟩
  gate := false
  feedTimer := none
  resettleTimer := none
  tag := none
  strays := 0
  settings := FeedSettings.default
  resettle := AtmSettings.default.resettle
  resettleNow := AtmSettings.default.resettle

/-- An input after reset: not yet conditioned, its 20 ms running (R149); the raw level is log 5. -/
def Input.initial : Input := ⟨false, none, some 20⟩

/-- The Line Mode Controller after reset (R144, R149, R151); the supply of 24.00 V is log 6. -/
def Line.initial : Line where
  mode := .standby
  cause := none
  inputs := ⟨Input.initial, Input.initial, Input.initial, Input.initial, Input.initial⟩
  supply := 2400
  monitor := .normal
  flushDone := false

/-- The Link Port after each of the three resets, no class pending (R173, R174, R176). -/
def Link.initial : Link where
  rx := .hunting
  gap := none
  discards := 0
  discardedRequests := 0
  queue := []
  tx := none
  subscribed := 0x7f#7
  noticePending := 0#7
  baysChanged := 0#8
  packsChanged := []
  overflow := false
  restart := .none

/-- The Journal Writer's RAM after the scan of a blank array (R169); segment 0 with nothing assigned is log 7. -/
def Writer.initial : Writer where
  buffer := []
  nextSeq := 1
  current := 0
  used := 0
  mark := 0
  valid := Vector.replicate 9 false
  incidents := []
  droppedOpen := none
  lastIncident := none
  running := none
  suspended := none
  reads := []
  settingsOps := []
  aheads := []

/-- The blank NV array (log 4). -/
def Nv.blank : Nv where
  journal := []
  incidents := Vector.replicate 16 ⟨.blank, .blank⟩
  sections := Vector.replicate 9 .blank

/-- The JOURNAL notice of a blank array: 4,096 slots free, no reserve, nothing buffered, no record, mark or incident (R157, R169, R176). -/
def Notice.blankJournal : Notice := .journal 4096 0 0 0 0 false none

/-- The machine right after reset: the start-up scan of a blank array has ended, the JOURNAL notice that fell due at its end is being sent,
and the rebuild has not ended (R169, R176, log 4). -/
def State.reset : State where
  pending := []
  phase := .starting
  free := 0
  now := 0
  clock := ⟨0#32, true⟩
  link := { Link.initial with tx := some (.notice Notice.blankJournal) }
  packs := []
  lots := []
  queue := []
  held := []
  rebuilt := some ⟨[], [], []⟩
  gaps := []
  classes := Vector.replicate 8 none
  bays := Vector.replicate 8 Bay.initial
  budget := Budget.default
  loopA := Loop.initial
  loopB := Loop.initial
  zones := Vector.replicate 12 Zone.initial
  incident := ⟨0#16, none⟩
  cells := Vector.replicate 12 ZoneCells.default
  effect := EffectSet.clear
  atm := Atmosphere.initial
  interlock := Interlock.initial
  feeder := Feeder.initial
  line := Line.initial
  writer := Writer.initial
  nv := Nv.blank

end Sys2Proof.Machine
end

