-- ==== Sys2Proof/Machine/Operands.lean ====
section
/-! DEFINITION. Operand forms: what a payload byte names (R181), and a request's settings brought to their limits (R25, R26, R60, R87, R122, R142). -/

namespace Sys2Proof.Machine

/-- The 16-bit two's complement value of a signed field (R181). -/
def signed16 (v : BitVec 16) : Int := v.toInt

/-- A number from 1 to `n` as an index (00 "Numbering"); none outside. -/
def indexOf (n : Nat) (v : Byte) : Option (Fin n) :=
  if h : 1 ≤ v.toNat ∧ v.toNat ≤ n then some ⟨v.toNat - 1, by omega⟩ else none

/-- A bay number, 1 to 8. -/
def bayOf (v : Byte) : Option BayId := indexOf 8 v
/-- A zone number, 1 to 12. -/
def zoneOf (v : Byte) : Option ZoneId := indexOf 12 v
/-- A class number, 1 to 8. -/
def classOf (v : Byte) : Option ClassId := indexOf 8 v
/-- A head address, 1 to 32. -/
def addrOf (v : Byte) : Option HeadAddr := indexOf 32 v

/-- The element of a code list that code `v` names, the codes counting from 1 (R181). -/
def codeIn {α : Type} (l : List α) (v : Byte) : Option α := if v = 0#8 then none else l[v.toNat - 1]?

/-- Loop A is 1 and loop B is 2 (R181). -/
def loopOf (v : Byte) : Option LoopId := codeIn [.a, .b] v
/-- A target mode of SET_MODE (R145, R181). -/
def modeOf (v : Byte) : Option LineMode := codeIn [.standby, .production, .drain, .safeHold, .maintenance] v
/-- A column of the Action Matrix (R107, R181). -/
def columnOf (v : Byte) : Option Column := codeIn [.preAlarm, .alarm, .released, .fault] v
/-- A head kind (R68, R181). -/
def kindOf (v : Byte) : Option HeadKind := codeIn [.heat, .flame, .spark, .gas] v
/-- The nine sections in their order (R153). -/
def allSections : List Section := [.cls, .bay, .budget, .zone, .action, .head, .atmosphere, .feed, .exported]
/-- A settings section (R181). -/
def sectionOf (v : Byte) : Option Section := codeIn allSections v
/-- An outcome of FEED_CLEAR (R140, R181). -/
def outcomeOf (v : Byte) : Option FeedOutcome := codeIn [.fed, .removed] v
/-- The role of a zone: 0 none, 1 STAGING, 2 INFEED (R181). -/
def roleOf (v : Byte) : Option Role :=
  if v = 0#8 then some .none else if v = 1#8 then some .staging else if v = 2#8 then some .infeed else none
/-- A flag field: 0 or 1 (R175, R181). -/
def flagOf (v : Byte) : Option Bool := if v = 0#8 then some false else if v = 1#8 then some true else none
/-- An action set: bits 0 to 4 (R181); a set with another bit names an undefined action (R107). -/
def actionsOf (v : Byte) : Option Actions :=
  if v.toNat < 32 then some ⟨v.getLsbD 0, v.getLsbD 1, v.getLsbD 2, v.getLsbD 3, v.getLsbD 4⟩ else none
/-- A class set: bits 0 to 6; bit 7 is undefined (R176). -/
def classSetOf (v : Byte) : Option (BitVec 7) := if v.getLsbD 7 then none else some (v.setWidth 7)

/-- The targets of CLEAR_PEAKS: one bay, all bays, or the oxygen peak (R30, R181). -/
inductive PeakTarget
  | bay (b : BayId)
  | allBays
  | oxygen
  deriving DecidableEq, Repr

/-- A target of CLEAR_PEAKS: 1 to 8 for a bay, 0 for all bays, 9 for the oxygen peak (R181). -/
def targetOf (v : Byte) : Option PeakTarget :=
  if v = 0#8 then some .allBays else if v = 9#8 then some .oxygen else (bayOf v).map .bay

/-- CONFIG_CLASS: numeric settings to their nearest limits, then the release voltage up to the end voltage (R26). -/
def classApplied (a : ClassArgs) : ClassSettings :=
  let e := clampNat 0 4500 a.endMv.toNat
  { endMv := e
    relMv := max e (clampNat 0 4500 a.relMv.toNat)
    rate := clampNat 1 500 a.rate.toNat
    limit := clampInt 0 1200 (signed16 a.limit)
    rest := clampNat 0 7200 a.rest.toNat }

/-- CONFIG_CLASS as sent. -/
def classSent (a : ClassArgs) : ClassSettings :=
  ⟨a.endMv.toNat, a.relMv.toNat, a.rate.toNat, signed16 a.limit, a.rest.toNat⟩

/-- CONFIG_BAY as sent, for zone `z`. -/
def baySent (a : BayArgs) (z : ZoneId) : BaySettings where
  zone := z
  currentMax := a.currentMax.toNat
  powerMax := a.powerMax.toNat
  tripCurrent := a.tripCurrent.toNat
  derate := signed16 a.derate
  tripTemp := signed16 a.tripTemp
  restartTemp := signed16 a.restartTemp
  retryDelay := a.retryDelay.toNat
  retryLimit := a.retryLimit.toNat
  clearPeriod := a.clearPeriod.toNat
  maxTime := a.maxTime.toNat

/-- The numeric settings of a bay brought to the ranges of R24. The trip current's lower limit is the first dependent limit of R25. -/
def bayClamped (v : BaySettings) : BaySettings :=
  { v with
    currentMax := clampNat 100 30000 v.currentMax
    powerMax := clampNat 100 15000 v.powerMax
    tripCurrent := min 32000 v.tripCurrent
    derate := clampInt (-300) 1400 v.derate
    tripTemp := clampInt (-290) 1500 v.tripTemp
    restartTemp := clampInt (-400) 1400 v.restartTemp
    retryDelay := clampNat 1 600 v.retryDelay
    retryLimit := clampNat 0 7 v.retryLimit
    clearPeriod := clampNat 10 3600 v.clearPeriod
    maxTime := clampNat 600 86400 v.maxTime }

/-- The three dependent limits of R25, in its order. -/
def bayDependent (v : BaySettings) : BaySettings :=
  let v := if v.tripCurrent ≤ v.currentMax then { v with tripCurrent := v.currentMax + 1 } else v
  let v := if v.tripTemp ≤ v.derate then { v with tripTemp := v.derate + 10 } else v
  if v.derate ≤ v.restartTemp then { v with restartTemp := v.derate - 50 } else v

/-- CONFIG_BAY as applied (R25). -/
def bayApplied (a : BayArgs) (z : ZoneId) : BaySettings := bayDependent (bayClamped (baySent a z))

/-- CONFIG_BUDGET as sent. -/
def budgetSent (w : BitVec 16) (e : Byte) : Budget := ⟨w.toNat, e.toNat⟩

/-- CONFIG_BUDGET as applied (R60). -/
def budgetApplied (w : BitVec 16) (e : Byte) : Budget := ⟨clampNat 1000 60000 w.toNat, clampNat 0 4 e.toNat⟩

/-- CONFIG_ZONE as sent, its two flags and its role read. -/
def zoneSent (a : ZoneArgs) (coincidence quench : Bool) (role : Role) : ZoneSettings where
  coincidence := coincidence
  releaseDelay := a.releaseDelay.toNat
  holdTime := a.holdTime.toNat
  window := a.window.toNat
  preThreshold := a.preThreshold.toNat
  alarmThreshold := a.alarmThreshold.toNat
  windowsForAlarm := a.windowsForAlarm.toNat
  quenchEnable := quench
  quenchPulse := a.quenchPulse.toNat
  role := role

/-- CONFIG_ZONE as applied: the ranges of R87, then the ALARM threshold up to the PRE threshold. -/
def zoneApplied (v : ZoneSettings) : ZoneSettings :=
  let p := clampNat 1 65535 v.preThreshold
  { v with
    releaseDelay := clampNat 0 120 v.releaseDelay
    holdTime := clampNat 10 120 v.holdTime
    window := clampNat 200 10000 v.window
    preThreshold := p
    alarmThreshold := max p (min 65535 v.alarmThreshold)
    windowsForAlarm := clampNat 2 10 v.windowsForAlarm
    quenchPulse := clampNat 100 5000 v.quenchPulse }

/-- CONFIG_ATMOSPHERE as sent. -/
def atmSent (a : AtmArgs) : AtmSettings where
  permit := a.permit.toNat
  hysteresis := a.hysteresis.toNat
  breach := a.breach.toNat
  settle := a.settle.toNat
  resettle := a.resettle.toNat
  maxPurge := a.maxPurge.toNat
  exponent := a.exponent.toNat
  disagree := a.disagree.toNat
  purgeFlow := a.purgeFlow.toNat
  trimFlow := a.trimFlow.toNat

/-- CONFIG_ATMOSPHERE as applied: the ranges of R122, then its two dependent limits in order. -/
def atmApplied (v : AtmSettings) : AtmSettings :=
  let v : AtmSettings :=
    { permit := clampNat 100 1500 v.permit
      hysteresis := clampNat 10 500 v.hysteresis
      breach := clampNat 200 2500 v.breach
      settle := clampNat 5 300 v.settle
      resettle := clampNat 0 120 v.resettle
      maxPurge := clampNat 60 3600 v.maxPurge
      exponent := clampNat 0 3 v.exponent
      disagree := clampNat 10 1000 v.disagree
      purgeFlow := clampNat 0 2000 v.purgeFlow
      trimFlow := clampNat 0 500 v.trimFlow }
  let v := if v.breach ≤ v.permit then { v with breach := v.permit + 100 } else v
  if v.permit - 50 < v.hysteresis then { v with hysteresis := v.permit - 50 } else v

/-- CONFIG_FEED as sent. -/
def feedSent (t st : Byte) : FeedSettings := ⟨t.toNat, st.toNat⟩

/-- CONFIG_FEED as applied (R142). -/
def feedApplied (t st : Byte) : FeedSettings := ⟨clampNat 5 120 t.toNat, clampNat 1 8 st.toNat⟩

/-- The status of a CONFIG reply: CLAMPED where the applied values differ from those sent (R175). -/
def clampStatus (changed : Bool) : Status := if changed then .clamped else .ok

end Sys2Proof.Machine
end

