-- ==== Sys2Proof/Machine/Flags.lean ====
section
/-! DEFINITION. The figures and conditions the manual derives from the state: conditioned inputs, bay and budget figures, zone conditions, run permission, journal space. -/

namespace Sys2Proof.Machine

/-! ### Enumerations in their order -/

/-- Bays in ascending order. -/
def allBays : List BayId := [0, 1, 2, 3, 4, 5, 6, 7]
/-- Zones in ascending order. -/
def allZones : List ZoneId := [0, 1, 2, 3, 4, 5, 6, 7, 8, 9, 10, 11]
/-- Head addresses in ascending order. -/
def allAddrs : List HeadAddr :=
  [0, 1, 2, 3, 4, 5, 6, 7, 8, 9, 10, 11, 12, 13, 14, 15] ++ [16, 17, 18, 19, 20, 21, 22, 23, 24, 25, 26, 27, 28, 29, 30, 31]

/-- The index of a section among the nine (R181). -/
def sectionIdx : Section → Fin 9
  | .cls => 0 | .bay => 1 | .budget => 2 | .zone => 3 | .action => 4
  | .head => 5 | .atmosphere => 6 | .feed => 7 | .exported => 8

/-! ### Parts of the state by name -/

/-- Bay `b` (R23). -/
def State.bay (s : State) (b : BayId) : Bay := s.bays[b]
/-- Zone `z` (R86). -/
def State.zone (s : State) (z : ZoneId) : Zone := s.zones[z]
/-- Loop `l` (R70). -/
def State.loop (s : State) : LoopId → Loop
  | .a => s.loopA
  | .b => s.loopB
/-- The head entry at `a` on loop `l` (R67). -/
def State.head (s : State) (l : LoopId) (a : HeadAddr) : Option Head := (s.loop l).heads[a]
/-- The custody entry of `t` (R1). -/
def State.pack (s : State) (t : Tag) : Option Pack := s.packs.find? (fun p => p.tag = t)
/-- The lot entry of number `n` (R18). -/
def State.lot (s : State) (n : Tag) : Option Lot := s.lots.find? (fun l => l.number = n)
/-- The OPEN lot (R18). -/
def State.openLot (s : State) : Option Lot := s.lots.find? (fun l => l.state = .opened)
/-- The lot's in-custody count: admitted minus fed minus removed (R20). -/
def Lot.inCustody (l : Lot) : Nat := l.admitted - l.fed - l.removed
/-- The pack a bay holds, as a custody entry. -/
def State.bayPack (s : State) (b : BayId) : Option Pack := (s.bay b).pack.bind s.pack
/-- Whether the part is held in one of its resets, every output de-energized (00 "Pins"). -/
def State.inReset (s : State) : Bool := s.phase = .inPowerReset || s.phase = .inPinReset

/-! ### Conditioned inputs (R149) -/

/-- The safe value of an input, taken while it is unconditioned (R149). -/
def inputSafe : InputId → Bool
  | .estop => true
  | _ => false
/-- Input `i`. -/
def Inputs.get (x : Inputs) : InputId → Input
  | .estop => x.estop
  | .doorClosed => x.doorClosed
  | .coolingOk => x.coolingOk
  | .shredRunning => x.shredRunning
  | .packPassed => x.packPassed
/-- The inputs with input `i` replaced. -/
def Inputs.put (x : Inputs) (i : InputId) (v : Input) : Inputs :=
  match i with
  | .estop => { x with estop := v }
  | .doorClosed => { x with doorClosed := v }
  | .coolingOk => { x with coolingOk := v }
  | .shredRunning => { x with shredRunning := v }
  | .packPassed => { x with packPassed := v }
/-- The level the receivers take input `i` at: conditioned, or its safe value (R149). -/
def State.level (s : State) (i : InputId) : Bool := ((s.line.inputs.get i).cond).getD (inputSafe i)
/-- The conditioned ESTOP input is active. -/
def State.estopActive (s : State) : Bool := s.level .estop
/-- The conditioned DOOR_CLOSED input is present. -/
def State.doorClosed (s : State) : Bool := s.level .doorClosed
/-- The conditioned COOLING_OK input is present. -/
def State.coolingOk (s : State) : Bool := s.level .coolingOk
/-- The running feedback is present (R132). -/
def State.feedback (s : State) : Bool := s.level .shredRunning

/-! ### Supply levels (R151), in 10 mV -/

/-- The warning level of a step: 19.0 V and 0.5 V a step. -/
def warningLevel (step : Nat) : Nat := 1900 + 50 * (step - 1)
/-- The monitor's state after a comparison at `v` (R151). -/
def monitorAfter (step v : Nat) (old : Monitor) : Monitor :=
  if v < warningLevel step then .warning else if warningLevel step + 50 ≤ v then .normal else old

/-! ### Bay and budget figures (chapter 3) -/

/-- The hold-reason set is empty. -/
def Holds.isEmpty (h : Holds) : Bool := !(h.line || h.zone || h.cooling || h.requested || h.restart)
/-- The lowest-numbered hold reason present (R42). -/
def Holds.primary (h : Holds) : Option Nat :=
  if h.line then some 1 else if h.zone then some 2 else if h.cooling then some 3
  else if h.requested then some 4 else if h.restart then some 5 else none
/-- A participant that commands 0 is starved (R64), one whose request is 0 too (log 63). -/
def Bay.starved (x : Bay) : Bool := x.participant && x.command == 0
/-- The effective budget B × pct / 100 (R59). -/
def State.effective (s : State) : Nat := s.budget.watts * s.effect.pct / 100
/-- The settings of a class that is not configured: free values (log 35). -/
def ClassSettings.unstated (c : ClassId) : ClassSettings :=
  ⟨Config.unstatedClass c 0, Config.unstatedClass c 1, Config.unstatedClass c 2, Config.unstatedClass c 3, Config.unstatedClass c 4⟩
/-- The settings in force of class `c` (R26). -/
def State.classFor (s : State) (c : ClassId) : ClassSettings := (s.classes[c]).getD (ClassSettings.unstated c)
/-- The end voltage of a pack, in 10 mV (R55). -/
def State.endVoltage (s : State) (p : Pack) : Nat := p.cells * (s.classFor p.cls).endMv / 10
/-- The release voltage of a pack, in 10 mV (R55). -/
def State.releaseVoltage (s : State) (p : Pack) : Nat := p.cells * (s.classFor p.cls).relMv / 10
/-- The settings in force of a bay: its own, or the defaults while it is unconfigured (R24, R166). -/
def Bay.settingsFor (x : Bay) : BaySettings := x.settings.getD BaySettings.default
/-- The C-rate limit I_c of a pack (R56). -/
def State.rateLimit (s : State) (p : Pack) : Nat := p.capacity * (s.classFor p.cls).rate / 10
/-- The thermal limit I_t at heatsink average `t` (R57). -/
def thermalLimit (v : BaySettings) (t : Int) : Nat :=
  if t ≤ v.derate then v.currentMax
  else if t < v.tripTemp then ((v.currentMax : Int) * (v.tripTemp - t) / (v.tripTemp - v.derate)).toNat
  else 0
/-- The request R formed from the wanted current and the voltage average (R58). -/
def requestFor (powerMax wanted : Nat) (vAvg : Int) : Nat :=
  if vAvg ≤ 0 then 0 else min powerMax (vAvg.toNat * wanted / 10000)
/-- The command formed from grant, wanted current and voltage average (R64). -/
def commandFor (grant wanted : Nat) (vAvg : Int) : Nat :=
  let c := if vAvg ≤ 0 then 0 else min wanted (grant * 10000 / vAvg.toNat)
  if c < 100 then 0 else c
/-- The figure of the SUSTAINED test (R36). -/
def sustainedFigure (command : Nat) : Nat := command * 125 / 100

/-- The participants with their requests, in bay order (R61). -/
def State.participants (s : State) : List (BayId × Nat) :=
  (allBays.filter (fun b => (s.bay b).participant)).map (fun b => (b, (s.bay b).request))

/-- One bay put in its place by request, then by bay number (R62). -/
def insertRequest (x : BayId × Nat) : List (BayId × Nat) → List (BayId × Nat)
  | [] => [x]
  | y :: t => if x.2 < y.2 ∨ (x.2 = y.2 ∧ x.1 < y.1) then x :: y :: t else y :: insertRequest x t

/-- The participants by request, smallest first, equal requests by bay number (R62). -/
def sortRequests : List (BayId × Nat) → List (BayId × Nat)
  | [] => []
  | x :: t => insertRequest x (sortRequests t)

/-- Serving the participants in order from what remains of the budget (R62). -/
def serve (rem : Nat) : List (BayId × Nat) → List (BayId × Nat)
  | [] => []
  | (b, r) :: t =>
    let g := min r (rem / (t.length + 1))
    (b, g) :: serve (rem - g) t

/-- The water-fill of a recomputation (R62). -/
def waterFill (budget : Nat) (ps : List (BayId × Nat)) : List (BayId × Nat) :=
  if (ps.map Prod.snd).sum ≤ budget then ps else serve budget (sortRequests ps)

/-! ### Zone conditions (R88 to R92) -/

/-- The enrolled heads of zone `z` on loop `l`, in address order. -/
def State.zoneHeadsOn (s : State) (l : LoopId) (z : ZoneId) : List (LoopId × HeadAddr × Head) :=
  allAddrs.filterMap (fun a => match s.head l a with
    | some h => if h.zone = z then some (l, a, h) else none
    | none => none)
/-- The enrolled heads of zone `z`, loop A first, in address order. -/
def State.zoneHeads (s : State) (z : ZoneId) : List (LoopId × HeadAddr × Head) :=
  s.zoneHeadsOn .a z ++ s.zoneHeadsOn .b z
/-- The counted heads of zone `z`: enrolled and not isolated (R88). -/
def State.countedHeads (s : State) (z : ZoneId) : List (LoopId × HeadAddr × Head) :=
  (s.zoneHeads z).filter (fun x => !x.2.2.isolated)
/-- The head counts of zone `z` (R88). -/
def State.headCounts (s : State) (z : ZoneId) : HeadCounts :=
  let c := s.countedHeads z
  { counted := c.length
    pre := (c.filter (fun x => x.2.2.level = .pre)).length
    alarm := (c.filter (fun x => x.2.2.level = .alarm)).length
    flameAlarm := (c.filter (fun x => x.2.2.level = .alarm && x.2.2.kind = .flame)).length
    bad := (c.filter (fun x => x.2.2.level = .missing || x.2.2.level = .fault)).length
    isolated := ((s.zoneHeads z).filter (fun x => x.2.2.isolated)).length }
/-- The fault attribute of zone `z` (R89). -/
def State.zoneFault (s : State) (z : ZoneId) : Bool :=
  let n := s.headCounts z
  decide (0 < n.bad)
    || (s.countedHeads z).any (fun x => (s.loop x.1).state = .short)
    || (decide (0 < n.isolated) && decide (n.counted = 0))
/-- Bay `b` is configured for zone `z`. -/
def State.bayInZone (s : State) (z : ZoneId) (b : BayId) : Bool :=
  match (s.bay b).settings with
  | some v => v.zone = z
  | none => false
/-- The lowest-numbered bay asserting its pack-over-limit report into zone `z` (R90). -/
def State.thermalBay (s : State) (z : ZoneId) : Option BayId :=
  allBays.find? (fun b => s.bayInZone z b && (s.bay b).overLimit)
/-- The bay-thermal input of zone `z` (R90). -/
def State.zoneThermal (s : State) (z : ZoneId) : Bool := (s.thermalBay z).isSome

/-- The effective coincidence of a zone (R91). -/
def Zone.coincidence (x : Zone) : Bool := x.settings.coincidence && !x.fault
/-- The seven clauses of the ALARM condition (R91). -/
def Zone.alarmClauses (x : Zone) : List Bool :=
  [ decide (1 ≤ x.counts.flameAlarm)
  , !x.coincidence && decide (1 ≤ x.counts.alarm)
  , x.coincidence && decide (2 ≤ x.counts.alarm)
  , decide (x.settings.alarmThreshold ≤ x.sparks)
  , decide (x.sparks = 65535)
  , decide (x.settings.windowsForAlarm ≤ x.consecutive)
  , x.thermal && decide (1 ≤ x.counts.pre + x.counts.alarm) ]
/-- The four clauses of the PRE condition (R92). -/
def Zone.preClauses (x : Zone) : List Bool :=
  [ decide (1 ≤ x.counts.pre)
  , decide (x.counts.alarm = 1) && x.coincidence
  , decide (x.settings.preThreshold ≤ x.sparks)
  , x.thermal ]
/-- The ALARM condition (R91). -/
def Zone.alarmHolds (x : Zone) : Bool := x.alarmClauses.any id
/-- The PRE condition (R92). -/
def Zone.preHolds (x : Zone) : Bool := x.preClauses.any id

/-! ### Atmosphere, shredder and feed conditions (R123, R133, R137) -/

/-- The shredder run condition: INERT or DRIFT (R123). -/
def Atmosphere.runCondition (x : Atmosphere) : Bool := x.state = .inert || x.state = .drift
/-- The feed condition: INERT and settled (R123). -/
def Atmosphere.feedCondition (x : Atmosphere) : Bool := x.state = .inert && x.settled
/-- The gas counter in litres (R129). -/
def Atmosphere.litres (x : Atmosphere) : Nat := x.gas / 60
/-- The mode condition of run permission: PRODUCTION or DRAIN (R144). -/
def modeRuns (m : LineMode) : Bool := m = .production || m = .drain
/-- The five conditions of run permission (R133). -/
def State.runConditions (s : State) : RunConditions where
  atmosphere := s.atm.runCondition
  mode := modeRuns s.line.mode
  noStop := !s.effect.stopShredder
  estopClear := !s.estopActive
  doorClosed := s.doorClosed
/-- All five conditions hold (R133). -/
def RunConditions.met (c : RunConditions) : Bool := c.atmosphere && c.mode && c.noStop && c.estopClear && c.doorClosed
/-- The four conditions of RESUME (R148). -/
def State.resumeConditions (s : State) : ResumeConditions where
  estopClear := !s.estopActive
  doorClosed := s.doorClosed
  noLineHold := !s.effect.lineHold
  supplyNormal := s.line.monitor = .normal
/-- All four conditions hold (R148). -/
def ResumeConditions.met (c : ResumeConditions) : Bool := c.estopClear && c.doorClosed && c.noLineHold && c.supplyNormal
/-- The run output: on in STARTING and RUNNING (R132). -/
def Interlock.runOutput (x : Interlock) : Bool := x.state = .starting || x.state = .running
/-- The block reasons as their sources give them (R137). -/
def State.blockReasons (s : State) : Reasons where
  mode := !modeRuns s.line.mode
  atmosphere := !s.atm.feedCondition
  settle := s.feeder.resettleTimer.isSome
  shredder := s.interlock.state ≠ .running
  effect := s.effect.blockFeed
/-- The block-reason set is empty. -/
def Reasons.isEmpty (r : Reasons) : Bool := !(r.mode || r.atmosphere || r.settle || r.shredder || r.effect)
/-- The lowest-numbered block reason present (R137). -/
def Reasons.primary (r : Reasons) : Option Nat :=
  if r.mode then some 1 else if r.atmosphere then some 2 else if r.settle then some 3
  else if r.shredder then some 4 else if r.effect then some 5 else none
/-- Hold reason LINE is present in STANDBY and SAFE_HOLD (R42, R144). -/
def modeHolds (m : LineMode) : Bool := m = .standby || m = .safeHold
/-- The valve command that state, door and INERT_BOOST give (R124, R128). -/
def valveFor (st : AtmState) (doorClosed boost : Bool) : Valve :=
  if !doorClosed then .closed
  else match st with
    | .air => .closed
    | .purging | .drift | .breach | .fault => .purge
    | .inert => if boost then .purge else .trim

/-! ### Journal space (R157, R159) -/

/-- The segment of a slot. -/
def segOf (slot : Nat) : Nat := slot / 16
/-- What a journal slot holds, none where it is erased. -/
def journalAt (j : List (Nat × Slot)) (n : Nat) : Option Slot := (j.find? (fun e => e.1 = n)).map Prod.snd
/-- Every slot of segment `seg` is erased. -/
def segErased (j : List (Nat × Slot)) (seg : Nat) : Bool := j.all (fun e => segOf e.1 ≠ seg)
/-- The records of the journal area with passing checks, in slot order. -/
def journalRecords (j : List (Nat × Slot)) : List Record :=
  j.filterMap (fun e => match e.2 with | .good r => some r | .failed => none)
/-- Every record that segment `seg` holds, programmed or assigned to it, lies at or below the export mark. -/
def State.segExported (s : State) (seg : Nat) : Bool :=
  s.nv.journal.all (fun e => match e.2 with
    | .good r => segOf e.1 ≠ seg || decide (r.seq ≤ s.writer.mark)
    | .failed => true)
  && s.writer.buffer.all (fun b => match b.slot with
    | some n => segOf n ≠ seg || decide (b.record.seq ≤ s.writer.mark)
    | none => true)
/-- A segment other than the current one whose records are all exported is reusable (R157). -/
def State.reusable (s : State) (seg : Nat) : Bool := seg ≠ s.writer.current && s.segExported seg
/-- The segment after the current one in the ring (R157). -/
def Writer.next (w : Writer) : Nat := (w.current + 1) % 256
/-- Journal free space (R157). -/
def State.freeSpace (s : State) : Nat :=
  (16 - s.writer.used) + 16 * (List.range 256).countP (fun g => s.reusable g)
/-- The required reserve (R159). -/
def State.reserve (s : State) : Nat :=
  (s.packs.map (fun p => 16 - p.charge)).sum + (s.lots.map (fun l => 3 - l.written)).sum
/-- Free space minus the reserve minus 16 is not negative: ADMIT is not refused for reserve (R159). -/
def State.reserveLeft (s : State) : Bool := decide (s.reserve + 16 ≤ s.freeSpace)
/-- Fewer than 16 entries of the record buffer are free (R11). -/
def State.bufferShort (s : State) : Bool := decide (48 < s.writer.buffer.length)
/-- The newest sequence number, 0 where no record has ever been written. -/
def State.newest (s : State) : Nat := s.writer.nextSeq - 1
/-- The flush of a COMMAND reset is under way (R168, R179). -/
def State.commandFlush (s : State) : Bool := s.link.restart = .flushing
/-- Journal programs run at priority 1 (R167, R168). -/
def State.flushing (s : State) : Bool := s.line.monitor = .warning || s.commandFlush
/-- A pack event of bay `b`'s pack is held at the Custody Table (R155). -/
def State.awaiting (s : State) (b : BayId) : Bool :=
  s.held.any (fun e => match e with
    | .trip c t _ | .rebound c t | .ready c t | .bayQuarantine c t _ => c = b && (s.bay b).pack = some t
    | _ => false)
/-- A feeder event is held at the Custody Table (R155). -/
def State.feederWaits (s : State) : Bool :=
  s.held.any (fun e => match e with | .feeding _ | .fed _ _ | .feedRemoved _ => true | _ => false)

end Sys2Proof.Machine
end

