-- ==== Sys2Proof/Machine/Ops.lean ====
section
/-! DEFINITION. The named operations on the parts of the state: replacing a bay, zone, loop, head or pack, and the notice classes and change lists that a replacement moves (R176). -/

namespace Sys2Proof.Machine

/-! ### Replacing a part -/

/-- A table with entry `i` replaced. -/
def vput {α : Type} {n : Nat} (v : Vector α n) (i : Fin n) (x : α) : Vector α n := v.set i.val x i.isLt

/-- The state with bay `b` replaced, nothing made pending. -/
def State.setBay (s : State) (b : BayId) (x : Bay) : State := { s with bays := vput s.bays b x }
/-- The state with zone `z` replaced, nothing made pending. -/
def State.setZone (s : State) (z : ZoneId) (x : Zone) : State := { s with zones := vput s.zones z x }
/-- The state with loop `l` replaced, nothing made pending. -/
def State.setLoop (s : State) (l : LoopId) (x : Loop) : State :=
  match l with
  | .a => { s with loopA := x }
  | .b => { s with loopB := x }

/-! ### Notice classes and change lists (R176) -/

/-- The bit of a notice class in a class set (R176). -/
def noticeBit : NoticeClass → BitVec 7
  | .zone => 0x01#7
  | .bay => 0x02#7
  | .pack => 0x04#7
  | .atmosphere => 0x08#7
  | .feed => 0x10#7
  | .line => 0x20#7
  | .journal => 0x40#7

/-- Class `c` becomes pending, where it is subscribed (R176). -/
def Link.mark (x : Link) (c : NoticeClass) : Link :=
  { x with noticePending := x.noticePending ||| (noticeBit c &&& x.subscribed) }

/-- Class `c` becomes pending, where it is subscribed (R176). -/
def State.mark (s : State) (c : NoticeClass) : State := { s with link := s.link.mark c }

/-- Class `c` becomes pending where `due`. -/
def State.markIf (s : State) (due : Bool) (c : NoticeClass) : State := if due then s.mark c else s

/-- Bay `b` joins the set of bays changed (R176). -/
def State.listBay (s : State) (b : BayId) : State :=
  { s with link := { s.link with baysChanged := s.link.baysChanged ||| (1#8 <<< b.val) } }

/-- The list of packs changed once `t` has changed, `exit` saying how it left custody where it has (R176). A change of a listed pack leaves
the overflow mark as it is, with the list full too (log 66). -/
def Link.listPack (x : Link) (t : Tag) (exit : Option ExitKind) : Link :=
  if x.packsChanged.any (fun c => c.tag = t) then
    { x with packsChanged := x.packsChanged.map (fun c => if c.tag = t then { c with exit := exit } else c) }
  else if x.packsChanged.length < 64 then
    { x with packsChanged := x.packsChanged ++ [⟨t, exit⟩] }
  else { x with overflow := true }

/-- Pack `t` has changed: it joins the list and the PACK class becomes pending (R11, R176). -/
def State.listPack (s : State) (t : Tag) (exit : Option ExitKind) : State :=
  { s with link := (s.link.listPack t exit).mark .pack }

/-! ### Replacing a part with its notices -/

/-- Bay `b` becomes `x`; a change of state, set, sense or starvation makes BAY pending, and one of state, primary reason,
sense or starvation puts the bay in the set of bays changed (R28, R42, R45, R64, R176). -/
def putBay (s : State) (b : BayId) (x : Bay) : State :=
  let o := s.bay b
  let flat := o.state = x.state && o.sense = x.sense && o.starved = x.starved
  let s := s.setBay b x
  let s := if flat && o.holds.primary = x.holds.primary then s else s.listBay b
  s.markIf (!(flat && o.holds = x.holds)) .bay

/-- Zone `z` becomes `x`; a change of main state, fault attribute, bay-thermal input, suppression output or release timer
being started, paused or resumed makes ZONE pending (R89, R90, R93, R98, R100). -/
def putZone (s : State) (z : ZoneId) (x : Zone) : State :=
  let o := s.zone z
  (s.setZone z x).markIf
    (!(o.main = x.main && o.fault = x.fault && o.thermal = x.thermal && o.suppression = x.suppression && o.release = x.release))
    .zone

/-- Loop `l` becomes `x`; entering or leaving SHORT, a test window opening or closing, and the stranger flag being set make
ZONE pending (R78, R80 to R82). -/
def putLoop (s : State) (l : LoopId) (x : Loop) : State :=
  let o := s.loop l
  (s.setLoop l x).markIf
    (!(((o.state = .short : Bool) = (x.state = .short : Bool)) && o.testing = x.testing && (o.stranger || !x.stranger))) .zone

/-- The head entry at `a` on loop `l` becomes `h`; a change of an enrolled head's level makes ZONE pending (R84). -/
def putHead (s : State) (l : LoopId) (a : HeadAddr) (h : Option Head) : State :=
  let o := s.head l a
  let x := s.loop l
  (s.setLoop l { x with heads := vput x.heads a h }).markIf
    (o.isSome && h.isSome && o.map Head.level ≠ h.map Head.level) .zone

/-- The custody entry of `p`'s tag becomes `p`. -/
def State.setPack (s : State) (p : Pack) : State :=
  { s with packs := s.packs.map (fun q => if q.tag = p.tag then p else q) }

/-- The custody entry of `p`'s tag becomes `p`, and the pack has changed (R11). -/
def putPack (s : State) (p : Pack) : State := (s.setPack p).listPack p.tag none

/-- The lot entry of `l`'s number becomes `l`. -/
def State.setLot (s : State) (l : Lot) : State :=
  { s with lots := s.lots.map (fun k => if k.number = l.number then l else k) }

/-- The next free value's number, taken (log 31). -/
def State.spendFree (s : State) : State := { s with free := s.free + 1 }

/-- The one result where the two orders agree; otherwise the order that the free value `pick` names, the free value taken. -/
def eitherOrder (pick : Nat → Bool) (n : Nat) (first second : State) : State :=
  if first = second then first else if pick n then second.spendFree else first.spendFree

end Sys2Proof.Machine
end

