-- ==== Sys2Proof/Machine/Journal.lean ====
section
/-! DEFINITION. The Journal Writer: accepting records, free space and erase-ahead, the operation arbiter, incident parts and section rewrites (chapter 10). -/

namespace Sys2Proof.Machine

/-! ### The journal area in its canonical form (R153) -/

/-- Slot `n` holds `c`; the list keeps its slot numbers strictly rising. -/
def journalPut (n : Nat) (c : Slot) : List (Nat × Slot) → List (Nat × Slot)
  | [] => [(n, c)]
  | e :: t => if n < e.1 then (n, c) :: e :: t else if n = e.1 then (n, c) :: t else e :: journalPut n c t

/-- Segment `seg` is blank (R153). -/
def journalErase (seg : Nat) (j : List (Nat × Slot)) : List (Nat × Slot) := j.filter (fun e => segOf e.1 ≠ seg)

/-- The slots `ns` hold nothing readable (R153, R168). -/
def journalFail (ns : List Nat) (j : List (Nat × Slot)) : List (Nat × Slot) :=
  ns.foldl (fun j n => journalPut n .failed j) j

/-- The sixteen slots of a segment. -/
def segSlots (seg : Nat) : List Nat := (List.range 16).map (fun i => 16 * seg + i)

/-- The journal area's canonical form: slot numbers strictly rising and within the ring. -/
def journalWf : List (Nat × Slot) → Bool
  | [] => true
  | [e] => decide (e.1 < 4096)
  | e :: f :: t => decide (e.1 < f.1) && journalWf (f :: t)

/-! ### Erases queued ahead (R158) -/

/-- A journal erase is queued, running or suspended. -/
def Writer.journalEraseDue (w : Writer) : Bool :=
  w.aheads.any (fun t => match t with | .journal _ => true | .incident _ => false)
  || (match w.running with | some (.erase (.journal _) _ _) => true | _ => false)
  || (match w.suspended with | some (.journal _) => true | _ => false)

/-- The erase of journal segment `seg` is queued, unless a journal erase is queued or in progress (R158). -/
def queueJournalErase (s : State) (seg : Nat) : State :=
  if s.writer.journalEraseDue then s
  else { s with writer := { s.writer with aheads := s.writer.aheads ++ [.journal seg] } }

/-- The erase-ahead of the next segment, queued where the current segment holds an assigned slot and the next is reusable and
not erased (R158). -/
def eraseAhead (s : State) : State :=
  let n := s.writer.next
  if decide (0 < s.writer.used) && s.reusable n && !(segErased s.nv.journal n) then queueJournalErase s n else s

/-- The incident slot `n` is erased. -/
def slotErased (x : IncidentSlot) : Bool := x.opened = .blank && x.closed = .blank

/-- The number of an incident slot as an index (R164). -/
def incidentSlotOf (n : Nat) : Fin 16 := ⟨n % 16, Nat.mod_lt _ (by decide)⟩

/-- The erase of an incident slot, queued as an erase-ahead where the slot is not erased and no erase of it is queued or in progress (R164). -/
def queueIncidentErase (s : State) (n : Nat) : State :=
  let t := EraseTarget.incident (n % 16)
  let busy := s.writer.aheads.any (· = t) || s.writer.suspended = some t
    || (match s.writer.running with | some (.erase u _ _) => u = t | _ => false)
  if busy || slotErased s.nv.incidents[incidentSlotOf n] then s
  else { s with writer := { s.writer with aheads := s.writer.aheads ++ [t] } }

/-! ### Accepting records (R154, R155, R157) -/

/-- A record as the Custody Table or the Lot Table forms it, before its sequence number and time stamp (R154). -/
structure Draft where
  kind : RecordKind
  subject : Tag
  lot : Tag
  after : AfterState
  bay : Option BayId
  energy : Nat
  trips : Nat
  rebounds : Nat
  charge : Nat
  detail : Detail
  deriving DecidableEq, Repr

/-- The record of a draft, with its sequence number and time stamp (R154). -/
def Draft.record (d : Draft) (seq : Nat) (stamp : Stamp) : Record :=
  ⟨seq, d.kind, stamp, d.subject, d.lot, d.after, d.bay, d.energy, d.trips, d.rebounds, d.charge, d.detail⟩

/-- The next journal slot, assigned in ring order; none where the next segment is not reusable (R157), with the erases this calls for (R158). -/
def assignSlot (s : State) : State × Option Nat :=
  let w := s.writer
  if w.used < 16 then
    let s' := { s with writer := { w with used := w.used + 1 } }
    (if w.used = 0 then eraseAhead s' else s', some (16 * w.current + w.used))
  else if s.reusable w.next then
    let s' := { s with writer := { w with current := w.next, used := 1 } }
    let s' := if segErased s.nv.journal w.next then s' else queueJournalErase s' w.next
    (eraseAhead s', some (16 * w.next))
  else (s, none)

/-- A record joins the record buffer with the next sequence number, the time stamp and the next slot (R155, R157).
It clears the flush-done mark where the monitor is in WARNING (R152). -/
def accept (s : State) (d : Draft) : State :=
  let r := d.record s.writer.nextSeq s.clock
  let waits := s.writer.buffer.any (fun b => b.slot.isNone)
  let (s, slot) := if waits then (s, none) else assignSlot s
  let s := { s with writer := { s.writer with buffer := s.writer.buffer ++ [⟨r, slot⟩], nextSeq := s.writer.nextSeq + 1 } }
  if s.line.flushDone && s.line.monitor = .warning then
    { s with line := { s.line with flushDone := false } }.mark .line
  else s

/-- Slots for the records that wait without one, oldest first, as far as segments are reusable (R157). -/
def assignList : List Buffered → State → List Buffered × State
  | [], s => ([], s)
  | b :: t, s =>
    match b.slot with
    | some _ => let (t', s') := assignList t s; (b :: t', s')
    | none =>
      match assignSlot s with
      | (s', some n) => let (t', s'') := assignList t s'; ({ b with slot := some n } :: t', s'')
      | (_, none) => (b :: t, s)

/-- Slots are assigned to the waiting records once an EXPORT_MARK makes the next segment reusable (R157). -/
def assignWaiting (s : State) : State :=
  let (l, s') := assignList s.writer.buffer s
  { s' with writer := { s'.writer with buffer := l } }

/-! ### Incident parts (R164) -/

/-- The incident of a part. -/
def IncidentPart.number : IncidentPart → BitVec 16
  | .opened p => p.number
  | .closed p => p.number
/-- The part is a close part. -/
def IncidentPart.isClosed : IncidentPart → Bool
  | .opened _ => false
  | .closed _ => true

/-- The list without its first close part. -/
def dropClosed : List IncidentPart → List IncidentPart
  | [] => []
  | p :: t => if p.isClosed then t else p :: dropClosed t

/-- A part joins the incident buffer; with four parts held it takes the place of the oldest waiting close part, or is dropped,
and a close part of an incident whose open part was dropped is dropped too (R164, log 17). The number of a dropped open part is
remembered until its close part comes or a later open part is taken. -/
def handPart (s : State) (p : IncidentPart) : State :=
  if p.isClosed && s.writer.droppedOpen = some p.number then { s with writer := { s.writer with droppedOpen := none } }
  else
  let w := if p.isClosed then s.writer else { s.writer with droppedOpen := none }
  if w.incidents.length < 4 then { s with writer := { w with incidents := w.incidents ++ [p] } }
  else
    let busy := if w.running = some .incidentProgram then 1 else 0
    let rest := w.incidents.drop busy
    if rest.any IncidentPart.isClosed then
      { s with writer := { w with incidents := w.incidents.take busy ++ dropClosed rest ++ [p] } }
    else if p.isClosed then s
    else { s with writer := { w with droppedOpen := some p.number } }

/-! ### Stored settings (R166) -/

/-- A head entry's enrollment. -/
def enrollmentOf (h : Option Head) : Option Enrollment := h.map (fun x => ⟨x.kind, x.zone⟩)

/-- The RAM settings of a section's block, as its program writes them (R166). -/
def sectionData (s : State) : Section → SectionData
  | .cls => .cls s.classes
  | .bay => .bay (Vector.ofFn fun b => (s.bay b).settings)
  | .budget => .budget s.budget
  | .zone => .zone (Vector.ofFn fun z => (s.zone z).settings)
  | .action => .action s.cells
  | .head => .head (Vector.ofFn fun a => enrollmentOf (s.head .a a)) (Vector.ofFn fun a => enrollmentOf (s.head .b a))
  | .atmosphere => .atmosphere s.atm.settings
  | .feed => .feed s.feeder.settings
  | .exported => .exported s.writer.mark

/-- A rewrite of a section is asked for; one that waits already carries this change too (R166). -/
def askRewrite (s : State) (sec : Section) : State :=
  if s.writer.settingsOps.any (· = .erase sec) then s
  else { s with writer := { s.writer with settingsOps := s.writer.settingsOps ++ [.erase sec] } }

/-! ### The operation arbiter (R161, R162) -/

/-- The slot of the oldest buffered record, where it has one (R156). -/
def Writer.headSlot (w : Writer) : Option Nat :=
  match w.buffer with
  | b :: _ => b.slot
  | [] => none

/-- How many of the oldest buffered records lie in segment `seg` (R156). -/
def headRun (seg : Nat) : List Buffered → Nat
  | [] => 0
  | b :: t =>
    match b.slot with
    | some n => if segOf n = seg then headRun seg t + 1 else 0
    | none => 0

/-- The incident slot of the oldest part in the incident buffer (R164). -/
def Writer.headIncident (w : Writer) : Option Nat := w.incidents.head?.map (fun p => p.number.toNat % 16)

/-- A waiting program needs the erase `t` (R156, R164). -/
def Writer.needs (w : Writer) (t : EraseTarget) : Bool :=
  match t with
  | .journal seg => w.headSlot.map segOf = some seg
  | .incident n => w.headIncident = some n

/-- An operation of priority 1 to 4 waits (R162). -/
def Writer.higherWaits (w : Writer) : Bool := w.headSlot.isSome || !w.incidents.isEmpty || !w.reads.isEmpty

/-- The erase of `t` starts, taken out of the queue where it waited there; its segment holds what it held until the erase completes
(R158, log 9). -/
def startErase (s : State) (t : EraseTarget) (needed : Bool) : State :=
  { s with writer := { s.writer with aheads := s.writer.aheads.erase t, running := some (.erase t needed false) } }

/-- The suspended erase resumes (R162). -/
def resumeErase (s : State) (t : EraseTarget) (needed : Bool) : State :=
  { s with writer := { s.writer with suspended := none, running := some (.erase t needed false) } }.mark .journal

/-- The program of a waiting record or part, or first the erase it needs: resumed, started from the queue, or started of its own (R156, R164, log 16). -/
def eraseThen (s : State) (t : EraseTarget) (erased : Bool) (go : State) : State :=
  if s.writer.suspended = some t then resumeErase s t true
  else if s.writer.aheads.any (· = t) then startErase s t true
  else if erased then go
  else startErase s t true

/-- The journal program of the oldest buffered records of segment `seg` starts (R156). -/
def startJournalProgram (s : State) (seg : Nat) : State :=
  { s with writer := { s.writer with running := some (.journalProgram (headRun seg s.writer.buffer)) } }

/-- The step that the oldest buffered record's program calls for (R156). -/
def journalAction (s : State) (slot : Nat) : State :=
  eraseThen s (.journal (segOf slot)) (journalAt s.nv.journal slot).isNone (startJournalProgram s (segOf slot))

/-- The program of the oldest incident part starts (R164). -/
def startIncidentProgram (s : State) : State := { s with writer := { s.writer with running := some .incidentProgram } }

/-- The step that the oldest incident part's program calls for (R164). -/
def incidentAction (s : State) (p : IncidentPart) : State :=
  let i := incidentSlotOf p.number.toNat
  eraseThen s (.incident i.val) (p.isClosed || slotErased s.nv.incidents[i]) (startIncidentProgram s)

/-- The replies that waited for a rewrite of `sec` to begin now wait for its end (R166). -/
def startedEntry (sec : Section) (e : Entry) : Entry :=
  match e.stage with
  | .waiting (.rewrite c _ r) => if c = sec then { e with stage := .waiting (.rewrite c true r) } else e
  | _ => e

/-- A settings operation starts (R161, R166). -/
def startSettings (s : State) (op : SettingsOp) : State :=
  match op with
  | .erase sec =>
    { s with
      writer := { s.writer with settingsOps := s.writer.settingsOps.erase op, running := some (.settingsErase sec) }
      link := { s.link with queue := s.link.queue.map (startedEntry sec) } }
  | .program sec =>
    { s with
      writer := { s.writer with settingsOps := s.writer.settingsOps.erase op,
                                running := some (.settingsProgram sec (sectionData s sec)) } }

/-- The settings operation that has waited longest, a second rewrite of a section behind the first's program (R161, R166). -/
def Writer.settingsDue (w : Writer) : Option SettingsOp :=
  w.settingsOps.find? (fun op => match op with
    | .program _ => true
    | .erase sec => !(w.settingsOps.any (· = .program sec)))

/-- The free array takes up an operation of priority 5 or 6, a suspended erase before them; none during the flush of a COMMAND reset
(R161, R162, R168). -/
def arbLow (s : State) : State :=
  if s.commandFlush then s
  else match s.writer.reads with
  | r :: t => { s with writer := { s.writer with reads := t, running := some (.read r) } }
  | [] =>
    match s.writer.suspended with
    | some t => resumeErase s t false
    | none =>
      match s.writer.settingsDue with
      | some op => startSettings s op
      | none =>
        match s.writer.aheads with
        | t :: _ => startErase s t false
        | [] => s

/-- The free array takes up the waiting operation of highest priority (R161, R167, R168). -/
def arbFree (s : State) : State :=
  match s.writer.headSlot, s.writer.incidents with
  | some n, p :: _ => if s.flushing then journalAction s n else incidentAction s p
  | some n, [] => journalAction s n
  | none, p :: _ => incidentAction s p
  | none, [] => arbLow s

/-- A running erase: needed by a waiting program it runs to its end; otherwise a waiting operation of priority 1 to 4 suspends it,
where no other erase is suspended (R162). -/
def arbErase (s : State) (t : EraseTarget) (needed suspending : Bool) : State :=
  if needed || suspending then s
  else if s.writer.needs t then { s with writer := { s.writer with running := some (.erase t true false) } }
  else if s.writer.higherWaits && s.writer.suspended.isNone && !s.commandFlush then
    { s with writer := { s.writer with running := some (.erase t false true) } }
  else s

/-- The arbiter, after every step (R161, R162). -/
def arbPump (s : State) : State :=
  match s.writer.running with
  | none => arbFree s
  | some (.erase t needed suspending) => arbErase s t needed suspending
  | some _ => s

/-! ### An operation cut short by a reset (R153, R166, R168) -/

/-- The array with segment `t` neither erased nor readable (R168). -/
def Nv.failTarget (n : Nv) (t : EraseTarget) : Nv :=
  match t with
  | .journal seg => { n with journal := journalFail (segSlots seg) n.journal }
  | .incident i => { n with incidents := vput n.incidents (incidentSlotOf i) ⟨.failed, .failed⟩ }

/-- The slot with the part that was being programmed failing its check (R153, R168). -/
def IncidentSlot.failPart (x : IncidentSlot) (p : IncidentPart) : IncidentSlot :=
  if p.isClosed then { x with closed := .failed } else { x with opened := .failed }

/-- The array once the operation in hand is cut short: a program leaves its slots, its part or its section failing their checks, an
erase its segment or section (R153, R166, R168). -/
def Writer.cutRunning (w : Writer) (n : Nv) : Nv :=
  match w.running with
  | some (.journalProgram k) => { n with journal := journalFail ((w.buffer.take k).filterMap Buffered.slot) n.journal }
  | some .incidentProgram =>
    match w.incidents with
    | p :: _ =>
      let i := incidentSlotOf p.number.toNat
      { n with incidents := vput n.incidents i (n.incidents[i].failPart p) }
    | [] => n
  | some (.settingsErase c) => { n with sections := vput n.sections (sectionIdx c) .failed }
  | some (.settingsProgram c _) => { n with sections := vput n.sections (sectionIdx c) .failed }
  | some (.erase t _ _) => n.failTarget t
  | some (.read _) => n
  | none => n

/-- The array as a reset leaves it: the operation in hand cut short, and a suspended erase with it (R168, log 9). -/
def State.cutNv (s : State) : Nv :=
  let n := s.writer.cutRunning s.nv
  match s.writer.suspended with
  | some t => n.failTarget t
  | none => n

/-- The flush-done mark is set: the record buffer is empty while the monitor is in WARNING (R152, R167). -/
def reportFlushed (s : State) : State :=
  if s.line.monitor = .warning && s.writer.buffer.isEmpty && !s.line.flushDone then
    { s with line := { s.line with flushDone := true } }.mark .line
  else s

end Sys2Proof.Machine
end

