-- ==== Sys2Proof/Machine/Bays.lean ====
section
/-! DEFINITION. The Budget Arbiter and the bay channels: grants and commands, joining and leaving, holds, locking, blocks, energy (chapters 2 and 3). -/

namespace Sys2Proof.Machine

/-! ### Commands and grants (R58, R61 to R64) -/

/-- The bay sends command `c`; the sustained count is set to 0 where the command falls below 1.00 A (R36). -/
def Bay.send (x : Bay) (c : Nat) : Bay := { x with command := c, sustained := if c < 100 then 0 else x.sustained }

/-- The voltage average a figure is formed from; 0 where none has been formed. -/
def Bay.vAvg (x : Bay) : Int := (x.averages.map Averages.voltage).getD 0

/-- The heatsink average a figure is formed from; 0 where none has been formed. -/
def Bay.hAvg (x : Bay) : Int := (x.averages.map Averages.heatsink).getD 0

/-- The bay forms its command from its grant (R64). -/
def Bay.formCommand (x : Bay) : Bay :=
  if x.participant then x.send (commandFor x.grant x.wanted x.vAvg) else x.send 0

/-- The bay forms its C-rate limit, thermal limit, wanted current and request from its latest averages (R56 to R58). -/
def formRequest (s : State) (p : Pack) (x : Bay) : Bay :=
  let v := x.settingsFor
  let ic := s.rateLimit p
  let it := thermalLimit v x.hAvg
  let w := min ic (min v.currentMax it)
  { x with rateLimit := ic, thermalLimit := it, wanted := w, request := requestFor v.powerMax w x.vAvg }

/-- A bay receives a grant: where it has changed, the bay forms its command afresh (R61, R64). -/
def takeGrant (s : State) (g : BayId × Nat) : State :=
  let x := s.bay g.1
  if x.grant = g.2 then s else putBay s g.1 ({ x with grant := g.2 }).formCommand

/-- A recomputation of the grants of all participants (R61). -/
def regrant (s : State) : State := (waterFill s.effective s.participants).foldl takeGrant s

/-- The bay forms its command afresh (R64). -/
def reform (s : State) (b : BayId) : State := putBay s b (s.bay b).formCommand

/-- The bay, out of the arbiter: grant 0, command 0 (R61). -/
def Bay.apart (x : Bay) : Bay := ({ x with participant := false, request := 0, grant := 0 }).send 0

/-- Bay `b` becomes `x`, which takes no part in the arbiter; where it took part before, the grants are recomputed (R33, R61). -/
def putApart (s : State) (b : BayId) (x : Bay) : State :=
  let was := (s.bay b).participant
  let s := putBay s b x.apart
  if was then regrant s else s

/-- The bay enters DISCHARGING: it forms its request on its latest averages and joins the arbiter (R33, R58, R61). -/
def enterDischarging (s : State) (b : BayId) : State :=
  let x := { s.bay b with state := .discharging, sustained := 0, participant := true, grant := 0, command := 0 }
  let x := match s.bayPack b with
    | some p => formRequest s p x
    | none => x
  reform (regrant (putBay s b x)) b

/-- A formed request: passed to the arbiter where it differs from the one held, the command formed again in either case (R58). -/
def renewRequest (s : State) (b : BayId) : State :=
  match s.bayPack b with
  | none => s
  | some p =>
    let old := (s.bay b).request
    let x := formRequest s p (s.bay b)
    let s := putBay s b x
    reform (if x.request = old then s else regrant s) b

/-! ### State changes of a bay -/

/-- The bay enters LOCKED: command 0, out of the arbiter, no timer, REQUESTED and RESTART removed (R42, R45, R46). The block in progress
goes on, from HELD too (R51, log 61). -/
def lockBay (s : State) (b : BayId) : State :=
  let x := s.bay b
  putApart s b { x with
    state := .locked, retryTimer := none, restTimer := none
    holds := { x.holds with requested := false, restart := false } }

/-- The bay enters `st`, a state that does not discharge. -/
def enterApart (s : State) (b : BayId) (st : BayState) : State := putApart s b { s.bay b with state := st }

/-- HELD where the hold-reason set is not empty, DISCHARGING otherwise (R32, R38, R40). -/
def holdOrDischarge (s : State) (b : BayId) : State :=
  if (s.bay b).holds.isEmpty then enterDischarging s b else enterApart s b .held

/-- Bay `b`'s hold-reason set becomes `h`: a DISCHARGING bay that gains a reason goes to HELD, a HELD bay whose set empties while its
sense is GOOD discards its block and returns to DISCHARGING (R43). A bay that waits for a held pack event changes its set alone (R155, log 14). -/
def setHolds (s : State) (b : BayId) (h : Holds) : State :=
  let x := s.bay b
  if x.holds = h then s
  else if s.awaiting b then putBay s b { x with holds := h }
  else if x.state = .discharging && !h.isEmpty then putApart s b { x with holds := h, state := .held }
  else if x.state = .held && h.isEmpty && x.sense = .good then
    enterDischarging (putBay s b { x with holds := h, block := none }) b
  else putBay s b { x with holds := h }

/-- LINE, ZONE and COOLING as their sources give them for bay `b` (R42, R110). -/
def holdsFrom (s : State) (b : BayId) : Holds :=
  { (s.bay b).holds with
    line := modeHolds s.line.mode
    zone := match (s.bay b).settings with
      | some v => s.effect.marks[v.zone]
      | none => false
    cooling := !s.coolingOk }

/-- LINE, ZONE and COOLING of every bay follow their sources (R42). -/
def syncHolds (s : State) : State := allBays.foldl (fun s b => setHolds s b (holdsFrom s b)) s

/-! ### Blocks and energy (R50 to R54) -/

/-- The block in progress takes a sample's used values: the block and, where it completes, the averages (R50, R52). -/
def blockAdd (exponent : Nat) (blk : Option Block) (u : Sample) : Option Block × Option Averages :=
  let k := blk.getD ⟨2 ^ exponent, 0, 0, 0, 0⟩
  let k := { k with count := k.count + 1, voltage := k.voltage + u.voltage,
                    current := k.current + u.current, heatsink := k.heatsink + u.heatsink }
  if k.length ≤ k.count then
    (none, some ⟨k.voltage.tdiv k.length, k.current.tdiv k.length, k.heatsink.tdiv k.length⟩)
  else (some k, none)

/-- The power term of a sample (R53). -/
def powerTerm (u : Sample) : Nat := u.voltage.toNat * u.current.toNat

/-- A sample's energy: the residue takes the power term, and its whole cWh go to the pack, saturating at 2^32 − 1 (R53, R54). -/
def addEnergy (s : State) (b : BayId) (u : Sample) : State :=
  match s.bayPack b with
  | none => s
  | some p =>
    let r := (s.bay b).residue + powerTerm u
    let s := s.setBay b { s.bay b with residue := r % 3600000 }
    s.setPack { p with energy := satAdd 4294967295 p.energy (r / 3600000) }

/-- Energy is accumulated in PLACED, DISCHARGING, HELD, TRIPPED and RESTING (R53). -/
def takesEnergy : BayState → Bool
  | .placed | .discharging | .held | .tripped | .resting => true
  | .empty | .ready | .locked => false

end Sys2Proof.Machine
end

