-- ==== Sys2Proof/Machine/Custody.lean ====
section
/-! DEFINITION. The Custody Table, the Lot Table and the Staging Queue: records of packs and lots, the record-charge limit, exits, and the pack events of the bays, the feeder and the zones (chapter 1). -/

namespace Sys2Proof.Machine

/-! ### Records (R12, R154) -/

/-- The draft of a record of pack `p`, whose charge has been counted (R12, R154). -/
def packDraft (p : Pack) (k : RecordKind) (bay : Option BayId) (d : Detail) : Draft :=
  ⟨k, p.tag, p.lot, .pack p.state, bay, p.energy, p.trips, p.rebounds, p.charge, d⟩

/-- The draft of a lot record; the pack fields are zero (R154). -/
def lotDraft (n : Tag) (k : RecordKind) (after : LotState) (d : Detail) : Draft :=
  ⟨k, n, n, .lot after, none, 0, 0, 0, 0, d⟩

/-- The entry with one more record counted (R12). -/
def Pack.counted (p : Pack) : Pack := { p with charge := p.charge + 1 }

/-- A record of kind `k` is written for the pack: the entry becomes `p` with its charge counted, and the record carries it (R12). -/
def writePack (s : State) (p : Pack) (k : RecordKind) (bay : Option BayId) (d : Detail) : State :=
  let p := p.counted
  putPack (accept s (packDraft p k bay d)) p

/-- A lot record is written (R18, R19). -/
def writeLot (s : State) (n : Tag) (k : RecordKind) (after : LotState) (d : Detail) : State :=
  (accept s (lotDraft n k after d)).mark .pack

/-- The tag leaves the staging queue, the tags behind it moving up (R21). -/
def leaveQueue (s : State) (t : Tag) : State := { s with queue := s.queue.filter (· ≠ t) }

/-- The pack is quarantined with its reason and a QUARANTINE record; it leaves the queue, and the bay that holds it is LOCKED
(R8, R12, R14, R45). `p` is the entry with the counters its event has advanced. -/
def quarantinePack (s : State) (p : Pack) (reason : QuarReason) : State :=
  let q := { p with state := .quarantined, reason := some reason }
  let s := leaveQueue (writePack s q .quarantine q.bay (.quarantine reason)) p.tag
  match p.bay with
  | some b => if (s.bay b).pack = some p.tag then lockBay s b else s
  | none => s

/-- How the Custody Table answers a pack event (R13). -/
inductive Answer | ignored | continued | quarantined
  deriving DecidableEq, Repr

/-- A record of the third group (R12): at charge 14 it is replaced by a RECORD_LIMIT quarantine of `p`, the entry before the change
the record stands for; otherwise the entry becomes `q` and the record is written. -/
def otherRecord (s : State) (p q : Pack) (k : RecordKind) (bay : Option BayId) (d : Detail) : State × Answer :=
  if 14 ≤ p.charge then (quarantinePack s p .recordLimit, .quarantined)
  else (writePack s q k bay d, .continued)

/-! ### Lots and exits (R17, R19, R20) -/

/-- A CLOSING lot with no pack in custody goes final: LOT_FINAL with its six counters and the gas counter, and its entry is freed (R19). -/
def finalizeLot (s : State) (n : Tag) : State :=
  match s.lot n with
  | some l =>
    if l.state = .closing && l.inCustody = 0 then
      let s := writeLot s n .lotFinal .final
        (.lotFinal l.admitted l.fed l.removed l.energy l.massFed l.massRemoved s.atm.litres)
      { s with lots := s.lots.filter (fun k => k.number ≠ n) }
    else s
  | none => s

/-- The lot's counters after the exit of `p` (R20). -/
def Lot.exit (l : Lot) (p : Pack) (kind : ExitKind) : Lot :=
  let l := { l with energy := l.energy + p.energy }
  match kind with
  | .fed => { l with fed := l.fed + 1, massFed := satAdd 4294967295 l.massFed p.mass }
  | .removed => { l with removed := l.removed + 1, massRemoved := satAdd 4294967295 l.massRemoved p.mass }

/-- The exit of a pack: its exit record, its lot's counters, the entry gone, and the lot final where the conditions are met (R17).
The empty-table report is the Line Mode Controller's to take (R1, R146). -/
def exitPack (s : State) (p : Pack) (kind : ExitKind) (late : Bool) : State :=
  let s := match kind with
    | .fed => accept s (packDraft p.counted .fed none (.fed late))
    | .removed => accept s (packDraft p.counted .removed p.bay .none)
  let s := match s.lot p.lot with
    | some l => s.setLot (l.exit p kind)
    | none => s
  let s := leaveQueue { s with packs := s.packs.filter (fun q => q.tag ≠ p.tag) } p.tag
  finalizeLot (s.listPack p.tag (some kind)) p.lot

/-! ### Pack events (R13 to R16) -/

/-- The entry of `t`, where it is IN_BAY in bay `b` (R13). -/
def inBayPack (s : State) (b : BayId) (t : Tag) : Option Pack :=
  (s.pack t).filter (fun p => p.state = .inBay && p.bay = some b)

/-- TRIP: trips rises by 1, up to the 8 of R2 (log 60), and TRIP is written; at 8 the pack is then quarantined TRIP_LIMIT (R13). -/
def takeTrip (s : State) (b : BayId) (t : Tag) (k : TripKind) : State × Answer :=
  match inBayPack s b t with
  | none => (s, .ignored)
  | some p =>
    let q := { p with trips := satAdd 8 p.trips 1 }
    match otherRecord s q q .trip (some b) (.trip k) with
    | (s, .continued) => if 8 ≤ q.trips then (quarantinePack s q.counted .tripLimit, .quarantined) else (s, .continued)
    | r => r

/-- REBOUND: below 3 it is counted and written; the fourth quarantines the pack REBOUND_LIMIT (R13). One that the record-charge limit
replaces (R12) leaves the rebounds as they were (log 50). -/
def takeRebound (s : State) (b : BayId) (t : Tag) : State × Answer :=
  match inBayPack s b t with
  | none => (s, .ignored)
  | some p =>
    if p.rebounds < 3 then
      otherRecord s p { p with rebounds := p.rebounds + 1 } .rebound (some b) .none
    else (quarantinePack s p .reboundLimit, .quarantined)

/-- READY: the pack becomes RELEASED-in-bay (R13). -/
def takeReady (s : State) (b : BayId) (t : Tag) : State × Answer :=
  match inBayPack s b t with
  | none => (s, .ignored)
  | some p => otherRecord s p { p with state := .released } .ready (some b) .none

/-- A bay quarantine event, for a pack IN_BAY or RELEASED-in-bay in that bay (R14). -/
def takeBayQuarantine (s : State) (b : BayId) (t : Tag) (r : QuarReason) : State × Answer :=
  match (s.pack t).filter (fun p => (p.state = .inBay || p.state = .released) && p.bay = some b) with
  | none => (s, .ignored)
  | some p => (quarantinePack s p r, .quarantined)

/-- FEEDING: the STAGED pack at the queue head becomes FEEDING, without a record (R15). -/
def takeFeeding (s : State) (t : Tag) : State × Answer :=
  match (s.pack t).filter (fun p => p.state = .staged && s.queue.head? = some t) with
  | none => (s, .ignored)
  | some p => (putPack s { p with state := .feeding }, .continued)

/-- FED: the FEEDING pack exits by feeding (R15). -/
def takeFed (s : State) (t : Tag) (late : Bool) : State × Answer :=
  match (s.pack t).filter (fun p => p.state = .feeding) with
  | none => (s, .ignored)
  | some p => (exitPack s p .fed late, .continued)

/-- FEED_REMOVED: the FEEDING pack becomes QUARANTINED with reason REQUESTED (R15). -/
def takeFeedRemoved (s : State) (t : Tag) : State × Answer :=
  match (s.pack t).filter (fun p => p.state = .feeding) with
  | none => (s, .ignored)
  | some p => (quarantinePack s p .requested, .quarantined)

/-- The states in which a pack takes EXPOSE (R16). -/
def exposable (p : Pack) : Bool :=
  match p.state with
  | .inBay | .staged | .feeding => true
  | .released => p.bay.isSome
  | .intake | .quarantined => false

/-- EXPOSE: the exposure is set and the record written, or the record-charge limit applied (R16). -/
def takeExpose (s : State) (t : Tag) (n : BitVec 16) : State × Answer :=
  match (s.pack t).filter exposable with
  | none => (s, .ignored)
  | some p =>
    if p.exposure = some ⟨n, false⟩ then (s, .continued)
    else
      let q := { p with exposure := some ⟨n, false⟩ }
      if 14 ≤ p.charge ∧ p.state = .feeding then (putPack s q, .continued)
      else otherRecord s p q .expose p.bay (.incident n)

/-- The Custody Table applies a pack event (R13 to R16). -/
def applyEvent (s : State) : PackEvent → State × Answer
  | .trip b t k => takeTrip s b t k
  | .rebound b t => takeRebound s b t
  | .ready b t => takeReady s b t
  | .bayQuarantine b t r => takeBayQuarantine s b t r
  | .feeding t => takeFeeding s t
  | .fed t late => takeFed s t late
  | .feedRemoved t => takeFeedRemoved s t
  | .expose t n => takeExpose s t n

/-- An event's records fit in the entries still free: the state after it holds at most 64 buffered records (R155). -/
def State.fits (s : State) : Bool := decide (s.writer.buffer.length ≤ 64)

/-- A pack event is submitted: taken at once, or held while the rebuild has not ended, while another event is held, or while its
records do not fit (R1, R155). No answer is given while it is held. -/
def submit (s : State) (e : PackEvent) : State × Option Answer :=
  let r := applyEvent s e
  if s.phase = .running && s.held.isEmpty && r.1.fits then (r.1, some r.2)
  else ({ s with held := s.held ++ [e] }, none)

end Sys2Proof.Machine
end

