-- ==== Sys2Proof/Machine/Feed.lean ====
section
/-! DEFINITION. The shredder interlock, the feeder and the line mode: run permission, block reasons, feeds and their ends, SAFE_HOLD (chapters 8 and 9). -/

namespace Sys2Proof.Machine

/-! ### Feeder (R137 to R141) -/

/-- The feeder becomes `x`; a change of its state, set or gate makes FEED pending (R137). -/
def putFeeder (s : State) (x : Feeder) : State :=
  let o := s.feeder
  { s with feeder := x }.markIf (!(o.state = x.state && o.reasons = x.reasons && o.gate = x.gate)) .feed

/-- The feed starts: the tag is held, the gate opens and the feed timer runs (R138). -/
def openFeed (s : State) (t : Tag) : State :=
  putFeeder s { s.feeder with
    state := .feeding, gate := true, tag := some t
    feedTimer := some (1000 * s.feeder.settings.feedTime), resettleNow := s.feeder.resettle }

/-- A READY feeder with a tag queued submits FEEDING for the head and starts the feed once it is taken (R138).
It submits none while a feeder event is held (R155, log 14). -/
def tryFeed (s : State) : State :=
  match s.queue with
  | [] => s
  | t :: _ =>
    if s.feeder.state = .ready && !s.feederWaits then
      match submit s (.feeding t) with
      | (s, some .continued) => openFeed s t
      | (s, _) => s
    else s

/-- The block-reason set follows its sources, and moves the feeder between BLOCKED and READY; entering READY it looks for a feed (R137, R138). -/
def updateFeeder (s : State) : State :=
  let r := s.blockReasons
  let x := s.feeder
  match x.state with
  | .blocked =>
    if r.isEmpty then tryFeed (putFeeder s { x with reasons := r, state := .ready })
    else putFeeder s { x with reasons := r }
  | .ready =>
    if r.isEmpty then putFeeder s { x with reasons := r }
    else putFeeder s { x with reasons := r, state := .blocked }
  | .feeding | .jammed => putFeeder s { x with reasons := r }

/-- The end of a feed: the tag is cleared, the re-settle timer started where its time is not 0, and the feeder READY or BLOCKED (R139). -/
def endFeed (s : State) : State :=
  let x := s.feeder
  let t := if x.resettleNow = 0 then none else some (1000 * x.resettleNow)
  updateFeeder (putFeeder s { x with state := .blocked, gate := false, feedTimer := none, tag := none, resettleTimer := t })

/-! ### Interlock (R132 to R136) -/

/-- The interlock becomes `x`; a change of state, run output or permission, met or not met, makes FEED pending (R132, log 52). -/
def putInterlock (s : State) (x : Interlock) : State :=
  let o := s.interlock
  { s with interlock := x }.markIf (!(o.state = x.state && o.permission = x.permission)) .feed

/-- The interlock enters STOPPING: run output off, start timer discarded, 60 s of rundown (R133, R136). -/
def Interlock.stop (x : Interlock) : Interlock := { x with state := .stopping, startTimer := none, rundownTimer := some 60000 }

/-- The interlock enters FAULT with a cause; the run output is off (R135, R136). -/
def Interlock.fail (x : Interlock) (c : InterlockCause) : Interlock :=
  { x with state := .fault, startTimer := none, rundownTimer := none, cause := some c }

/-- The interlock is moved, and the feeder follows whether it is RUNNING (R132, R137). -/
def moveInterlock (s : State) (x : Interlock) : State := updateFeeder (putInterlock s x)

/-- Run permission is formed afresh; its loss sends a STARTING or RUNNING interlock to STOPPING (R133). -/
def updatePermission (s : State) : State :=
  let met := s.runConditions.met
  let x := s.interlock
  let y := { x with permission := met }
  if x.permission && !met && x.runOutput then moveInterlock s y.stop
  else putInterlock s y

/-! ### Line mode (R144, R146, R147) -/

/-- The Line Mode Controller's mode and cause; a change makes LINE pending, and the items of R144 go to the bays, the interlock and
the feeder. -/
def setLineMode (s : State) (m : LineMode) (c : Option HoldCause) : State :=
  let o := s.line
  let s := { s with line := { s.line with mode := m, cause := c } }.markIf (!(o.mode = m && o.cause = c)) .line
  updateFeeder (updatePermission (syncHolds s))

/-- A SAFE_HOLD cause arises (R147): nothing in SAFE_HOLD, which keeps the cause it recorded. -/
def enterSafeHold (s : State) (c : HoldCause) : State :=
  if s.line.mode = .safeHold then s else setLineMode s .safeHold (some c)

/-- The Custody Table's report that its table has become empty, taken after a step that may have emptied it: it ends DRAIN (R1, R146).
`s₀` is the state before. -/
def reportEmpty (s₀ s : State) : State :=
  if !s₀.packs.isEmpty && s.packs.isEmpty && s.line.mode = .drain then setLineMode s .standby none else s

/-- The answer to a feeder event that ends a feed (R139, R140). -/
def afterFeedEvent (s₀ s : State) : State := reportEmpty s₀ (endFeed s)

/-- A feed or a jam ends by an event for the held pack: gate and timer at once, the rest when the event is taken (R139, R140, R155). -/
def finishFeed (s : State) (e : PackEvent) : State :=
  let x := s.feeder
  let s₁ := putFeeder s { x with gate := false, feedTimer := none }
  match submit s₁ e with
  | (s₂, some _) => afterFeedEvent s s₂
  | (s₂, none) => s₂

/-- A pass event (R139 to R141): it ends a feed, ends a jam late, or is a stray pass. One that finds the feed's end held changes nothing (log 14). -/
def passEvent (s : State) : State :=
  let x := s.feeder
  match x.state, x.tag with
  | .feeding, some t => if s.feederWaits then s else finishFeed s (.fed t false)
  | .jammed, some t => if s.feederWaits then s else finishFeed s (.fed t true)
  | .feeding, none => s
  | .jammed, none => s
  | _, _ => { s with feeder := { x with strays := satAdd 65535 x.strays 1 } }.mark .feed

/-- A change of the running feedback, taken by the interlock's state (R135). -/
def feedbackChange (s : State) (present : Bool) : State :=
  let x := s.interlock
  match x.state, present with
  | .starting, true => moveInterlock s { x with state := .running, startTimer := none }
  | .running, false => moveInterlock s (x.fail .feedbackLost)
  | .stopping, false => moveInterlock s { x with state := .stopped, rundownTimer := none }
  | _, _ => s

end Sys2Proof.Machine
end

