-- ==== Sys2Proof/Machine/Atmos.lean ====
section
/-! DEFINITION. The Atmosphere Controller: channels, blocks, the control value, the states, the valve and the peak (chapter 7). -/

namespace Sys2Proof.Machine

/-- The chamber with its valve set afresh from state, door and INERT_BOOST (R124). -/
def withValve (s : State) (x : Atmosphere) : Atmosphere :=
  { x with valve := valveFor x.state s.doorClosed s.effect.inertBoost }

/-- The chamber becomes `x`, its valve set afresh; a change of state, settled mark, valve, sensor flag or channel validity makes
ATMOSPHERE pending (R119, R121, R123). -/
def putChamber (s : State) (x : Atmosphere) : State :=
  let o := s.atm
  let x := withValve s x
  let same := o.state = x.state && o.settled = x.settled && o.valve = x.valve && o.disagree = x.disagree
    && o.degraded = x.degraded && o.sensorFail = x.sensorFail && o.chanA.valid = x.chanA.valid && o.chanB.valid = x.chanB.valid
  { s with atm := x }.markIf (!same) .atmosphere

/-- The chamber becomes `x`, and its run and feed conditions go to the interlock and the feeder (R123). -/
def putAtm (s : State) (x : Atmosphere) : State := updateFeeder (updatePermission (putChamber s x))

/-- Entry into FAULT: every running timer discarded, settled cleared, the cause recorded (R126). -/
def Atmosphere.fail (x : Atmosphere) (c : AtmCause) : Atmosphere :=
  { x with state := .fault, settled := false, cause := some c, maxPurge := none, settle := none }

/-- Entry into INERT, not settled, its settle timer started (R126). -/
def Atmosphere.toInert (x : Atmosphere) : Atmosphere :=
  { x with state := .inert, settled := false, maxPurge := none, settle := some (1000 * x.settings.settle) }

/-- A control value taken by DRIFT (R126). -/
def Atmosphere.driftTakes (x : Atmosphere) (v : Nat) : Atmosphere :=
  if x.settings.breach < v then { x with state := .breach, maxPurge := some (1000 * x.settings.maxPurge) }
  else if v ≤ x.settings.permit - x.settings.hysteresis then x.toInert
  else x

/-- A control value taken by the state in force (R126). -/
def Atmosphere.takes (x : Atmosphere) (v : Nat) : Atmosphere :=
  match x.state with
  | .air | .fault => x
  | .purging | .breach => if v ≤ x.settings.permit then x.toInert else x
  | .drift => x.driftTakes v
  | .inert =>
    if v ≤ x.settings.permit then x
    else ({ x with state := .drift, settled := false, settle := none } : Atmosphere).driftTakes v

/-- SENSOR_FAIL taken by the state in force (R126). -/
def Atmosphere.takesFail (x : Atmosphere) : Atmosphere :=
  match x.state with
  | .air | .fault => x
  | .purging | .inert | .drift | .breach => x.fail .sensorFail

/-- A channel usable for the control value: VALID, with a latest average (R119). -/
def Channel.usable (c : Channel) : Option Nat := if c.valid then c.average else none

/-- The peak oxygen raised by a control value formed in INERT or DRIFT (R130). -/
def Atmosphere.raisePeak (x : Atmosphere) (v : Nat) (t : Stamp) : Atmosphere :=
  if x.runCondition && (match x.peak with | some p => decide (p.value < v) | none => true) then
    { x with peak := some ⟨v, t⟩ }
  else x

/-- The control value and the sensor flags, formed from the usable channels and taken by the state (R121, R126, R130). -/
def Atmosphere.form (x : Atmosphere) (t : Stamp) : Atmosphere :=
  let valued (x : Atmosphere) (v : Nat) : Atmosphere := ({ x with control := some v }.raisePeak v t).takes v
  match x.chanA.usable, x.chanB.usable with
  | some a, some b =>
    valued { x with disagree := decide (x.settings.disagree < max a b - min a b), degraded := false, sensorFail := false } (max a b)
  | some a, none => valued { x with disagree := false, degraded := true, sensorFail := false } a
  | none, some b => valued { x with disagree := false, degraded := true, sensorFail := false } b
  | none, none => { x with control := none, disagree := false, degraded := false, sensorFail := true }.takesFail

/-- A block takes a used value (R120). -/
def oxyAdd (exponent : Nat) (blk : Option OxyBlock) (v : Nat) : Option OxyBlock × Option Nat :=
  let k := blk.getD ⟨2 ^ exponent, 0, 0⟩
  let k := { k with count := k.count + 1, sum := k.sum + v }
  if k.length ≤ k.count then (none, some (k.sum / k.length)) else (some k, none)

/-- A channel after a used value, and whether it completed a block (R120). -/
def Channel.use (c : Channel) (exponent v : Nat) : Channel × Bool :=
  match oxyAdd exponent c.block v with
  | (b, some a) => ({ c with block := b, average := some a }, true)
  | (b, none) => ({ c with block := b }, false)

/-- A channel after a valid sample of value `v`, and whether it completed a block (R118 to R120). One that becomes VALID is usable at once
where it has an average, one completed under an earlier exponent included (log 69). -/
def Channel.good (c : Channel) (exponent v : Nat) : Channel × Bool :=
  let c := { c with last := some v, invalidRun := 0, validRun := satAdd 255 c.validRun 1 }
  let r := c.use exponent v
  ({ r.1 with valid := r.1.valid || decide (r.1.validRun = 4) }, r.2)

/-- A channel after an invalid sample, and whether it completed a block (R118 to R120). An average that an INVALID channel has completed
outlasts the sample (log 69). -/
def Channel.bad (c : Channel) (exponent : Nat) : Channel × Bool :=
  let c := { c with validRun := 0, invalidRun := satAdd 255 c.invalidRun 1 }
  if c.valid then
    if c.invalidRun = 4 then ({ c with valid := false, block := none, average := none }, false)
    else match c.last with
      | some v => c.use exponent v
      | none => (c, false)
  else ({ c with block := none }, false)

/-- Channel `k`. -/
def Atmosphere.chan (x : Atmosphere) : OxyChan → Channel
  | .a => x.chanA
  | .b => x.chanB

/-- The chamber with channel `k` replaced. -/
def Atmosphere.setChan (x : Atmosphere) (k : OxyChan) (c : Channel) : Atmosphere :=
  match k with
  | .a => { x with chanA := c }
  | .b => { x with chanB := c }

/-- The chamber after a sample event of channel `k` that leaves `c`: the control value is formed where the event completed a block or
made the channel usable or not usable (R121). -/
def Atmosphere.after (x : Atmosphere) (k : OxyChan) (c : Channel × Bool) (t : Stamp) : Atmosphere :=
  let due := c.2 || (x.chan k).usable.isSome ≠ c.1.usable.isSome
  let y := x.setChan k c.1
  if due then y.form t else y

/-- A valid oxygen sample is a record marked VALID whose value lies within 0 to 2,500 (R118). -/
def oxygenGood (v : Nat) (m : OxyMark) : Bool := m = .valid && decide (v ≤ 2500)

/-- A sample event of channel `k`: valid of value `v`, or invalid; `miss` ms until the next miss falls due (R118, log 27). -/
def oxygenEvent (s : State) (k : OxyChan) (v : Option Nat) (miss : Nat) : State :=
  let c := { s.atm.chan k with missTimer := miss }
  let r := match v with
    | some v => c.good s.atm.settings.exponent v
    | none => c.bad s.atm.settings.exponent
  putAtm s (s.atm.after k r s.clock)

/-- The door opens: every timer discarded and AIR, but FAULT keeps its fault (R128). -/
def Atmosphere.doorOpens (x : Atmosphere) : Atmosphere :=
  match x.state with
  | .air | .fault => x
  | .purging | .inert | .drift | .breach => { x with state := .air, settled := false, maxPurge := none, settle := none }

/-- A change of the conditioned door input reaches the chamber (R128). -/
def doorChange (s : State) (closed : Bool) : State := putAtm s (if closed then s.atm else s.atm.doorOpens)

end Sys2Proof.Machine
end

