-- ==== Sys2Proof/Machine/Zones.lean ====
section
/-! DEFINITION. The Action Matrix and Zone Logic: the effect set and its parts, zone inputs and escalation, sparks, incidents, exposure (chapters 5 and 6). -/

namespace Sys2Proof.Machine

/-! ### The effect set (R108, R109) -/

/-- The active cells of zone `z` (R108). -/
def State.activeCells (s : State) (z : ZoneId) : List ActionCell :=
  let x := s.zone z
  let c := s.cells[z]
  (match x.main with
    | .normal => []
    | .preAlarm => [c.preAlarm]
    | .alarm => [c.alarm]
    | .released => [c.released])
  ++ (if x.fault then [c.fault] else [])

/-- The effect set that the active cells give (R109). -/
def effectOf (s : State) : EffectSet :=
  let all := allZones.flatMap s.activeCells
  { blockFeed := all.any (·.actions.blockFeed)
    stopShredder := all.any (·.actions.stopShredder)
    inertBoost := all.any (·.actions.inertBoost)
    lineHold := all.any (·.actions.lineHold)
    marks := Vector.ofFn fun z => (s.activeCells z).any (·.actions.holdBays)
    pct := all.foldl (fun m c => min m c.pct) 100 }

/-- LINE_HOLD that has entered the line actions is a SAFE_HOLD cause (R115). -/
def lineHoldEnters (o : EffectSet) (s : State) : State :=
  if s.effect.lineHold && !o.lineHold then enterSafeHold s .lineHold else s

/-- The shredder's and the line mode's parts of a changed effect set (R113, R115). -/
def stopParts (o : EffectSet) (s : State) : State := lineHoldEnters o (updatePermission s)

/-- The parts that went to bays, arbiter and chamber have been taken; the feeder, the interlock and the line mode take theirs.
Where BLOCK_FEED leaves as STOP_SHREDDER or LINE_HOLD enters, the manual leaves their order open (log 11). -/
def lateParts (o : EffectSet) (s : State) : State :=
  if o.blockFeed && !s.effect.blockFeed then
    eitherOrder Config.holdFirst s.free (stopParts o (updateFeeder s)) (updateFeeder (stopParts o s))
  else updateFeeder (stopParts o s)

/-- The Budget Arbiter takes the percentage of the effect set `e`, which is then the one in force: a recomputation where it has
changed (R111). -/
def takePct (e : EffectSet) (s : State) : State :=
  let t := { s with effect := e }
  if s.effect.pct = e.pct then t else regrant t

/-- The bays take the HOLD_BAYS marks of `e` on the B_eff that stands, then the arbiter its percentage (R110, R111). -/
def marksThenPct (e : EffectSet) (s : State) : State := takePct e (syncHolds { s with effect := { e with pct := s.effect.pct } })

/-- The arbiter takes the percentage of `e`, then the bays its HOLD_BAYS marks (R110, R111). -/
def pctThenMarks (e : EffectSet) (s : State) : State := syncHolds (takePct e s)

/-- The Action Matrix forms the effect set afresh; where it differs, LINE becomes pending and each part goes to its receiver
(R109 to R115): bays and arbiter in the order of a free value where it matters (R111, log 45), chamber, then feeder, interlock and line
mode (logs 11, 12), so that the bays take their HOLD_BAYS marks before a LINE_HOLD of the same forming (R115, log 57). -/
def formEffects (s : State) : State :=
  let o := s.effect
  let e := effectOf s
  if o = e then s
  else
    let s := s.mark .line
    let s := eitherOrder Config.pctFirst s.free (marksThenPct e s) (pctThenMarks e s)
    let s := if o.inertBoost = e.inertBoost then s else putChamber s s.atm
    lateParts o s

/-! ### Exposure and incidents (R101 to R104) -/

/-- The zone holding a role (R87). -/
def State.hasRole (s : State) (z : ZoneId) (r : Role) : Bool := (s.zone z).settings.role = r

/-- Pack `p` is located in zone `z` (R104). -/
def located (s : State) (z : ZoneId) (p : Pack) : Bool :=
  match p.state with
  | .staged => s.hasRole z .staging
  | .feeding => s.hasRole z .infeed
  | .inBay | .released | .quarantined =>
    match p.bay with
    | some b => s.bayInZone z b && (s.bay b).pack = some p.tag
    | none => false
  | .intake => false

/-- The line as it stands when zone `z` opens incident `n`, the two counts to come (R102). -/
def openSnapshot (s : State) (z : ZoneId) (n : BitVec 16) : OpenPart where
  number := n
  opened := s.clock
  firstZone := z
  cause := (s.zone z).cause
  zones := Vector.ofFn fun w => (s.zone w).main
  mode := s.line.mode
  effect := s.effect
  bays := Vector.ofFn fun b => ⟨(s.bay b).state, (s.bay b).pack, (s.bay b).overLimit⟩
  queueLength := s.queue.length
  queueHead := s.queue.head?
  headFeeding := ((s.queue.head?.bind s.pack).map (fun p => decide (p.state = .feeding))).getD false
  atmosphere := s.atm.state
  control := s.atm.control
  interlock := s.interlock.state
  feeder := s.feeder.state
  exposed := 0
  quarantined := 0

/-- EXPOSE events for the packs with these tags, in order (R104). -/
def exposeAll (s : State) (n : BitVec 16) (ts : List Tag) : State :=
  ts.foldl (fun s t => (submit s (.expose t n)).1) s

/-- Steps 3 and 4 of an entry into ALARM: the incident opened or joined, the packs located in the zone exposed and counted (R94, R101 to R104). -/
def incidentStep (s : State) (z : ZoneId) : State :=
  let here := s.packs.filter (located s z)
  let ex := (here.filter (fun p => p.state ≠ .quarantined)).map Pack.tag
  let q := (here.filter (fun p => p.state = .quarantined)).length
  match s.incident.progress with
  | none =>
    let n := s.incident.number + 1#16
    let shot := openSnapshot s z n
    let p : Progress := ⟨s.now, vput (Vector.replicate 12 false) z true, 0, ex.length, q⟩
    let s := exposeAll { s with incident := ⟨n, some p⟩ } n ex
    handPart s (.opened { shot with exposed := ex.length, quarantined := q })
  | some p =>
    let p := { p with
      zones := vput p.zones z true
      exposed := satAdd 65535 p.exposed ex.length, quarantined := satAdd 65535 p.quarantined q }
    exposeAll { s with incident := ⟨s.incident.number, some p⟩ } s.incident.number ex

/-- The incident closes where no zone is left in ALARM or RELEASED: the close part is completed and handed on (R100, R103). -/
def closeIncident (s : State) : State :=
  match s.incident.progress with
  | none => s
  | some p =>
    if allZones.any (fun z => (s.zone z).main = .alarm || (s.zone z).main = .released) then s
    else
      let c : ClosePart :=
        ⟨s.incident.number, s.clock, (s.now - p.openedAt) / 1000, p.zones, p.releases, p.exposed, p.quarantined⟩
      (handPart { s with incident := ⟨s.incident.number, none⟩ } (.closed c)).mark .zone

/-! ### Escalation (R93, R94) -/

/-- The input change that an evaluation answers (R94). -/
inductive ZoneInput
  | head (l : LoopId) (a : HeadAddr)
  | lost
  | spark (l : LoopId) (a : HeadAddr)
  | window (count : Nat)
  | thermal
  | config
  | other
  deriving DecidableEq, Repr

/-- The cause HEAD for the head at `a` on loop `l` (R94). -/
def headCause (s : State) (l : LoopId) (a : HeadAddr) : Option AlarmCause :=
  (s.head l a).map (fun h => .head l a h.kind h.level h.value)

/-- The cause HEAD for the zone's first counted head at ALARM (R94). -/
def alarmHead (s : State) (z : ZoneId) : Option AlarmCause :=
  ((s.countedHeads z).find? (fun x => x.2.2.level = .alarm)).map (fun x => .head x.1 x.2.1 x.2.2.kind x.2.2.level x.2.2.value)

/-- The cause SPARK with the zone's last spark head and a count (R94). -/
def sparkCause (x : Zone) (count : Nat) : AlarmCause := .spark x.lastSpark count x.consecutive

/-- The cause BAY_THERMAL (R94). -/
def thermalCause (s : State) (z : ZoneId) : Option AlarmCause :=
  (s.thermalBay z).map (fun b => .bayThermal b (((s.bay b).lastValid.map Sample.packTemp).getD 0))

/-- The alarm cause of an entry into ALARM (R94); `faultSet` where the input change set the fault attribute. Cases outside the table of
R94, and the restoration or enrollment of a head at MISSING or FAULT that sets the fault attribute, are log 34. -/
def alarmCause (s : State) (z : ZoneId) (i : ZoneInput) (faultSet : Bool) : Option AlarmCause :=
  let x := s.zone z
  match i with
  | .head l a =>
    if faultSet && ((s.head l a).map Head.level = some .missing || (s.head l a).map Head.level = some .fault) then alarmHead s z
    else headCause s l a
  | .lost => alarmHead s z
  | .spark l a => some (.spark (some (l, a)) x.sparks x.consecutive)
  | .window n => some (sparkCause x n)
  | .thermal => thermalCause s z
  | .config | .other =>
    if (x.alarmClauses.take 3).any id then alarmHead s z else some (sparkCause x x.sparks)

/-- Entry into ALARM (R94, steps 1 to 5). -/
def enterAlarm (s : State) (z : ZoneId) (cause : Option AlarmCause) : State :=
  let x := s.zone z
  let d := x.settings.releaseDelay
  let s := putZone s z { x with
    main := .alarm, preClear := none, cause := cause
    release := if d = 0 then x.release else .running (1000 * d) }
  (formEffects (incidentStep s z)).mark .zone

/-- The zone is evaluated on an input change (R93). -/
def evaluateZone (s : State) (z : ZoneId) (i : ZoneInput) (faultSet : Bool) : State :=
  let x := s.zone z
  match x.main with
  | .alarm | .released => s
  | .normal =>
    if x.alarmHolds then enterAlarm s z (alarmCause s z i faultSet)
    else if x.preHolds then formEffects (putZone s z { x with main := .preAlarm })
    else s
  | .preAlarm =>
    if x.alarmHolds then enterAlarm s z (alarmCause s z i faultSet)
    else if x.preHolds then putZone s z { x with preClear := none }
    else putZone s z { x with preClear := some (x.preClear.getD 10000) }

/-- The zone takes its inputs from the Head Table, the loops and the bays: counts, fault attribute, bay-thermal input (R88 to R90).
A changed fault attribute goes to the Action Matrix, then the zone is evaluated (R89, R93, log 13). -/
def refreshZone (s : State) (z : ZoneId) (i : ZoneInput) : State :=
  let x := s.zone z
  let f := s.zoneFault z
  let s := putZone s z { x with counts := s.headCounts z, fault := f, thermal := s.zoneThermal z }
  let s := if x.fault = f then s else formEffects s
  evaluateZone s z i (f && !x.fault)

/-- Several zones take one input change, in ascending zone number (R88). -/
def refreshZones (s : State) (zs : List ZoneId) (i : ZoneInput) : State := zs.foldl (fun s z => refreshZone s z i) s

/-- The zone of a bay takes a change of the bay's pack-over-limit report (R90). -/
def thermalChange (s : State) (b : BayId) : State :=
  match (s.bay b).settings with
  | some v => refreshZone s v.zone .thermal
  | none => s

/-! ### Sparks and quench (R95, R97) -/

/-- The quench pulse of a spark report (R97). -/
def Zone.pulse (x : Zone) : Zone :=
  if x.settings.quenchEnable then
    { x with quench := true, quenchTimer := some x.settings.quenchPulse, quenchCount := satAdd 65535 x.quenchCount 1 }
  else x

/-- A spark report of `n` sparks from the head at `a` on loop `l` (R95, R97). -/
def sparkReport (s : State) (z : ZoneId) (l : LoopId) (a : HeadAddr) (n : Nat) : State :=
  let x := s.zone z
  let x := { x with
    sparks := satAdd 65535 x.sparks n, lastSpark := some (l, a)
    window := some (x.window.getD x.settings.window) }
  evaluateZone (putZone s z x.pulse) z (.spark l a) false

end Sys2Proof.Machine
end

