-- ==== Sys2Proof/Machine/Loops.lean ====
section
/-! DEFINITION. The Loop Controllers and the Head Table: cursor, gap, frames, reports, shorts and test windows (chapter 4). -/

namespace Sys2Proof.Machine

/-! ### Heads and the poll cursor (R67, R72) -/

/-- The addresses of the enrolled heads of a loop, ascending (R72). -/
def Loop.enrolled (x : Loop) : List HeadAddr := allAddrs.filter (fun a => (x.heads[a]).isSome)
/-- The lowest enrolled address (R72). -/
def Loop.lowest (x : Loop) : Option HeadAddr := x.enrolled.head?
/-- The next enrolled address above `a`, or the lowest after the highest (R72). -/
def Loop.nextAfter (x : Loop) (a : HeadAddr) : Option HeadAddr :=
  match x.enrolled.find? (fun b => a < b) with
  | some b => some b
  | none => x.lowest
/-- The level a frame carries, as an entry holds it (R69). -/
def frameLevel : FrameLevel → HeadLevel
  | .normal => .normal
  | .pre => .pre
  | .alarm => .alarm
  | .fault => .fault
/-- The value a frame may carry for a head's kind (R67, R69, log 24). -/
def valueOk (k : HeadKind) (v : Int) : Bool :=
  match k with
  | .heat => decide (-32768 ≤ v ∧ v ≤ 32767)
  | .gas => decide (0 ≤ v ∧ v ≤ 65535)
  | .spark | .flame => decide (0 ≤ v ∧ v ≤ 255)

/-- IDLE with a new gap: the end of an exchange (R70). -/
def Loop.toGap (x : Loop) : Loop :=
  { x with state := .idle, gap := some 5, sending := none, polled := none, answer := none, orphan := false }
/-- The end of a reception: the acknowledge slot driven dominant for a REPORT taken, left recessive otherwise, and then the gap (R70, R76,
log 68). -/
def Loop.acked (x : Loop) (dominant : Bool) : Loop := { x.toGap with ack := some dominant }
/-- One more frame error (R69). -/
def Loop.countError (x : Loop) : Loop := { x with frameErrors := satAdd 65535 x.frameErrors 1 }

/-- A frame that fails its check, by the controller's state (R69, R70, R76): counted in IDLE and POLLING; counted, not acknowledged and
ended by a gap in RECEIVING; not received in SHORT. -/
def Loop.badFrame (x : Loop) : Loop :=
  match x.state with
  | .idle | .polling => x.countError
  | .receiving => x.countError.acked false
  | .short => x

/-! ### What a head's frame changes (R73, R77, R83, R84) -/

/-- The test mark applies: it is set and the loop's test window is open (R83). -/
def Loop.marked (x : Loop) (test : Bool) : Bool := test && x.testing

/-- The entry after a frame taken from its head (R73, R77, R83). -/
def Head.heard (h : Head) (marked : Bool) (lv : FrameLevel) (v : Int) : Head :=
  if marked then { h with tested := true, missed := 0 }
  else { h with level := frameLevel lv, value := v, missed := 0 }

/-- The entry at `a` becomes `h`; a changed level of a head that is not isolated goes to its zone (R84). -/
def handHead (s : State) (l : LoopId) (a : HeadAddr) (o h : Head) : State :=
  let s := putHead s l a (some h)
  if o.level ≠ h.level && !h.isolated then refreshZone s h.zone (.head l a) else s

/-- A frame taken from the head `o` at `a`: the entry, its zone, and for an unmarked REPORT of a SPARK head its sparks (R73, R77, R83, R84). -/
def hearHead (s : State) (l : LoopId) (a : HeadAddr) (o : Head) (lv : FrameLevel) (v : Int) (test report : Bool) : State :=
  let m := (s.loop l).marked test
  let s := handHead s l a o (o.heard m lv v)
  if report && !m && o.kind = .spark && decide (1 ≤ v) && !o.isolated then sparkReport s o.zone l a v.toNat else s

/-- A stranger report (R78). -/
def Loop.strange (x : Loop) (a : HeadAddr) : Loop :=
  { x with stranger := true, lastStranger := some a, strangerCount := satAdd 65535 x.strangerCount 1 }

/-! ### Frames the controller sends (R70, R75, R81 to R83) -/

/-- The first frame due, begun at gap expiry or, for a RESYNC, at once: a waiting broadcast, else a POLL under the cursor (R70, R81). -/
def Loop.begin (x : Loop) : Loop :=
  match x.waiting, x.cursor with
  | b :: _, _ => { x with sending := some (.broadcast b), gap := none }
  | [], some a => { x with state := .polling, sending := some (.poll a), polled := some a, gap := none }
  | [], none => { x with gap := none }

/-- A controller that has begun a frame, or an IDLE one, is seized by a head: the frame is withdrawn (R70, R75). -/
def Loop.seized (x : Loop) : Loop :=
  { x with state := .receiving, sending := none, gap := none, polled := none, orphan := false }

/-- The heads of a loop once its test window opens: none tested (R82). -/
def untested (v : Vector (Option Head) 32) : Vector (Option Head) 32 :=
  Vector.ofFn fun a => (v[a]).map (fun h => { h with tested := false })

/-- A broadcast has been sent (R72, R81 to R83). -/
def Loop.broadcast (x : Loop) (b : Broadcast) : Loop :=
  let x := { x with waiting := x.waiting.drop 1 }.toGap
  match b with
  | .resync => { x with cursor := x.lowest }
  | .testStart => { x with testing := true, testTimer := some 60000, heads := untested x.heads }
  | .testEnd => { x with testing := false, testTimer := none }

/-- The heads of a loop on entry into SHORT: every one MISSING with missed polls 3 (R80). -/
def allMissing (v : Vector (Option Head) 32) : Vector (Option Head) 32 :=
  Vector.ofFn fun a => (v[a]).map (fun h => { h with level := .missing, missed := 3 })

/-- Entry into SHORT (R80). A BROADCAST cut short in mid-frame stays among those that wait (log 64). -/
def Loop.shorted (x : Loop) : Loop :=
  { x with
    state := .short, sending := none, gap := none, polled := none, orphan := false, answer := none
    testing := false, testTimer := none, heads := allMissing x.heads }

/-- A SHORT loop falls recessive: RESYNC alone waits, once (log 48), begun at once (R81). -/
def Loop.recessive (x : Loop) : Loop :=
  { x with state := .idle, waiting := [.resync], sending := some (.broadcast .resync), gap := none }

/-! ### Replies that wait for a broadcast (R82) -/

/-- An entry's reply is formed. -/
def Entry.form (e : Entry) (r : Reply) : Entry := { e with stage := .formed r }

/-- The replies of the LOOP_TESTs that wait for `start` or TEST_END on loop `l` are formed (R82). -/
def answerTests (s : State) (l : LoopId) (start : Bool) (r : Reply) : State :=
  { s with link := { s.link with queue := s.link.queue.map (fun e =>
      if e.stage = .waiting (.broadcast l start) then e.form r else e) } }

/-- The LOOP_TESTs that waited for a broadcast a short discards: WRONG_STATE for TEST_START, closed for TEST_END (R82). -/
def answerDiscarded (s : State) (l : LoopId) : State :=
  answerTests (answerTests s l true ⟨.wrongState, .none⟩) l false ⟨.ok, .window false⟩

/-- A broadcast of loop `l` has been sent: the controller, and the replies that waited for it (R82). -/
def broadcastDone (s : State) (l : LoopId) (b : Broadcast) : State :=
  let s := putLoop s l ((s.loop l).broadcast b)
  match b with
  | .resync => s
  | .testStart => answerTests s l true ⟨.ok, .window true⟩
  | .testEnd => answerTests s l false ⟨.ok, .window false⟩

/-! ### Polling (R73, R74) -/

/-- The controller after an ANSWER or a miss: the cursor moved, unless the polled head was withdrawn meanwhile, IDLE and a gap (R72 to R74). -/
def Loop.polledDone (x : Loop) (a : HeadAddr) : Loop :=
  let c := if x.orphan then x.cursor else x.nextAfter a
  { x.toGap with cursor := c }

/-- The entry after a miss (R74). -/
def Head.miss (h : Head) : Head :=
  let n := satAdd 3 h.missed 1
  { h with missed := n, level := if n = 3 then .missing else h.level }

end Sys2Proof.Machine
end

