-- ==== Sys2Proof/Machine/BayEvents.lean ====
section
/-! DEFINITION. Sample events of a bay, its decisions, trips and pack events, and what a bay does once a held event is taken (R27 to R41, R155). -/

namespace Sys2Proof.Machine

/-! ### What a bay does on the outcome of its event (R32, R37, R40, R41) -/

/-- A bay's pack event, submitted; the bay acts once it is taken (R155). -/
def submitBay (s : State) (e : PackEvent) (act : State → Answer → State) : State :=
  match submit s e with
  | (s, some a) => act s a
  | (s, none) => s

/-- Step 4 of a trip and what follows it, once the TRIP has its outcome (R37): LOCKED at once where the TRIP has quarantined the pack (R13,
R14), else once the event of step 4 is taken (R155, log 14). -/
def afterTrip (s : State) (b : BayId) (t : Tag) (k : TripKind) (a : Answer) : State :=
  let x := s.bay b
  if x.pack ≠ some t || x.state = .locked then s
  else
    let v := x.settingsFor
    let reason : Option QuarReason :=
      if k = .packThermal then some .packThermal
      else if v.retryLimit < x.retryCount then some .retryLimit else none
    match reason with
    | some r =>
      if a = .quarantined then lockBay (submit s (.bayQuarantine b t r)).1 b
      else submitBay s (.bayQuarantine b t r) (fun s _ => lockBay s b)
    | none =>
      if a = .quarantined then lockBay s b
      else enterApart (s.setBay b { x with retryTimer := some (1000 * v.retryDelay) }) b .tripped

/-- The outcome of READY: READY, or LOCKED with the pack (R32, R40). -/
def afterReady (s : State) (b : BayId) (t : Tag) (a : Answer) : State :=
  let x := s.bay b
  if x.pack ≠ some t || x.state = .locked then s
  else match a with
    | .continued => enterApart s b .ready
    | .quarantined => lockBay s b
    | .ignored => s

/-- The outcome of REBOUND: HELD or DISCHARGING, or LOCKED with the pack (R40), whatever the sense has become while it was held (log 51). -/
def afterRebound (s : State) (b : BayId) (t : Tag) (a : Answer) : State :=
  let x := s.bay b
  if x.pack ≠ some t || x.state = .locked then s
  else match a with
    | .continued => holdOrDischarge s b
    | .quarantined => lockBay s b
    | .ignored => s

/-- After a bay quarantine event the bay is LOCKED with the pack (R14, R45). -/
def afterBayQuarantine (s : State) (b : BayId) (t : Tag) : State :=
  if (s.bay b).pack = some t then lockBay s b else s

/-- The bay's own quarantine of its pack: command 0 and out of the arbiter at once, LOCKED when the event is taken (R14, R32, R35, R41). -/
def bayQuarantine (s : State) (b : BayId) (r : QuarReason) : State :=
  match (s.bay b).pack with
  | none => s
  | some t =>
    let x := s.bay b
    submitBay (putApart s b { x with retryTimer := none, restTimer := none }) (.bayQuarantine b t r)
      (fun s _ => afterBayQuarantine s b t)

/-- A trip (R37). -/
def bayTrip (s : State) (b : BayId) (k : TripKind) : State :=
  match (s.bay b).pack with
  | none => s
  | some t =>
    let x := s.bay b
    let s := putApart s b { x with clearMs := 0, sustained := 0, retryCount := min 8 (x.retryCount + 1) }
    submitBay s (.trip b t k) (fun s a => afterTrip s b t k a)

/-- READY submitted (R32, R40). -/
def bayReady (s : State) (b : BayId) : State :=
  match (s.bay b).pack with
  | none => s
  | some t => submitBay s (.ready b t) (fun s a => afterReady s b t a)

/-- REBOUND submitted (R40). -/
def bayRebound (s : State) (b : BayId) : State :=
  match (s.bay b).pack with
  | none => s
  | some t => submitBay s (.rebound b t) (fun s a => afterRebound s b t a)

/-! ### Decisions (R32, R34, R40) -/

/-- The PLACED decision on the voltage average (R32). -/
def placedDecision (s : State) (b : BayId) (p : Pack) (v : Int) : State :=
  if v < -100 then bayQuarantine s b .placeFault
  else if v ≤ (s.releaseVoltage p : Int) then bayReady s b
  else holdOrDischarge s b

/-- The rest decision on the latest voltage average (R40). -/
def restDecision (s : State) (b : BayId) : State :=
  match s.bayPack b, (s.bay b).averages with
  | some p, some a => if a.voltage ≤ (s.releaseVoltage p : Int) then bayReady s b else bayRebound s b
  | _, _ => s

/-- The end of discharge: RESTING with the class rest time; a rest time of 0 expires on entry, and the decision is made at once where sense
is GOOD, or waits (R28, R34, R40). -/
def enterResting (s : State) (b : BayId) (p : Pack) : State :=
  let r := (s.classFor p.cls).rest
  let x := { s.bay b with state := BayState.resting, restTimer := if r = 0 then none else some (1000 * r) }
  let s := putApart s b x
  if r = 0 && x.sense = .good then restDecision s b else s

/-- What a sample event brings the tests: its used values, whether it is valid, whether it completed a block, whether it brought the
invalid run to 3, and whether it made sense GOOD again. -/
structure SampleEvent where
  used : Option Sample
  valid : Bool
  completed : Bool
  lostNow : Bool
  regained : Bool
  deriving DecidableEq, Repr

/-- The trip tests of a DISCHARGING bay, in their order (R36). -/
def tripTest (x : Bay) (v : BaySettings) (u : Sample) (e : SampleEvent) : Option TripKind :=
  if x.overLimit then some .packThermal
  else if e.lostNow then some .sense
  else if (v.tripCurrent : Int) < u.current then some .overcurrent
  else if u.current < -100 then some .reverse
  else if e.completed && decide (v.tripTemp ≤ x.hAvg) then some .heatsink
  else if 20 ≤ x.sustained then some .sustained
  else none

/-- The sustained count after a sample event (R36). -/
def sustainedAfter (x : Bay) (completed : Bool) : Nat :=
  let i := (x.averages.map Averages.current).getD 0
  let f : Int := sustainedFigure x.command
  if decide (100 ≤ x.command) && decide (f < i) then satAdd 20 x.sustained 1
  else if completed && decide (i ≤ f) then 0
  else x.sustained

/-- The end test: an end voltage above the sample range never satisfies it (R34, R55, log 58). -/
def State.endMet (s : State) (p : Pack) (v : Int) : Bool := decide (s.endVoltage p ≤ 100000) && decide (v ≤ (s.endVoltage p : Int))

/-- A sample event in DISCHARGING: the trip tests, the end test, and a completed block's request (R34, R36, R58). -/
def dischargingEvent (s : State) (b : BayId) (p : Pack) (u : Sample) (e : SampleEvent) : State :=
  let x := { s.bay b with sustained := sustainedAfter (s.bay b) e.completed }
  let s := s.setBay b x
  match tripTest x x.settingsFor u e with
  | some k => bayTrip s b k
  | none =>
    if e.completed then
      if s.endMet p x.vAvg then enterResting s b p else renewRequest s b
    else s

/-- The state's own tests and decisions on a sample event with used values, for a bay that holds a pack (R31, R32, R34, R38, R40, R41, R43). -/
def bayDecides (s : State) (b : BayId) (p : Pack) (u : Sample) (e : SampleEvent) : State :=
  let x := s.bay b
  match x.state with
  | .empty | .locked => s
  | .discharging => dischargingEvent s b p u e
  | .placed =>
    if x.reversalDue && e.valid && decide (u.voltage < -100) then bayQuarantine s b .placeFault
    else
      let s := if e.valid then s.setBay b { x with reversalDue := false } else s
      if x.overLimit then bayQuarantine s b .packThermal
      else if e.completed && x.sense = .good && !x.holds.restart then placedDecision s b p x.vAvg
      else s
  | .held =>
    if x.overLimit then bayQuarantine s b .packThermal
    else if e.regained && x.holds.isEmpty then enterDischarging s b
    else s
  | .tripped =>
    if x.overLimit then bayQuarantine s b .packThermal
    else if x.retryTimer.isNone && e.valid && decide (u.heatsink ≤ x.settingsFor.restartTemp) then holdOrDischarge s b
    else s
  | .resting =>
    if x.overLimit then bayQuarantine s b .packThermal
    else if x.restTimer.isNone && e.completed && x.sense = .good then restDecision s b
    else s
  | .ready => if x.overLimit then bayQuarantine s b .packThermal else s

/-- The bay acts on a sample event: nothing while a pack event of its pack is held (R155), nothing without used values or a pack (R27). -/
def bayActs (s : State) (b : BayId) (e : SampleEvent) : State :=
  if s.awaiting b then s
  else match e.used, s.bayPack b with
    | some u, some p => bayDecides s b p u e
    | _, _ => s

/-! ### Taking a sample event (R27 to R30, R49 to R53) -/

/-- The measurement ranges (R49). -/
def inRange (u : Sample) : Bool :=
  decide (-100000 ≤ u.voltage ∧ u.voltage ≤ 100000) && decide (-32000 ≤ u.current ∧ u.current ≤ 32000)
  && decide (-400 ≤ u.heatsink ∧ u.heatsink ≤ 2000) && decide (-400 ≤ u.packTemp ∧ u.packTemp ≤ 2000)

/-- The mark a record is taken with: VALID outside its ranges is SATURATED (R49). -/
def markTaken (u : Sample) (m : SampleMark) : SampleMark :=
  if m = .valid && !inRange u then .saturated else m

/-- The peaks raised by a valid sample (R30). -/
def raisePeaks (o : Option Peaks) (u : Sample) : Peaks :=
  match o with
  | none => ⟨u.current, u.heatsink, u.packTemp⟩
  | some p => ⟨max p.current u.current, max p.heatsink u.heatsink, max p.packTemp u.packTemp⟩

/-- The channel once a sample event's validity has been taken: last valid sample, mark, invalid run, sense, peaks, miss timer (R27, R28, R30). -/
def Bay.sampled (x : Bay) (m : SampleMark) (v : Option Sample) (miss : Nat) : Bay :=
  match v with
  | some u => { x with
      lastValid := some u, lastMark := some m, invalidRun := 0, sense := .good
      peaks := some (raisePeaks x.peaks u), missTimer := miss }
  | none =>
    let n := satAdd 255 x.invalidRun 1
    { x with lastMark := some m, invalidRun := n, sense := if 3 ≤ n then .lost else x.sense, missTimer := miss }

/-- The pack-over-limit report after a sample event with used values (R29). -/
def overLimitAfter (s : State) (b : BayId) (u : Sample) : Bool :=
  match s.bayPack b with
  | some p =>
    match s.classes[p.cls] with
    | some c => decide (c.limit < u.packTemp)
    | none => false
  | none => false

/-- The sample event that restarts a TRIPPED bay or regains sense discards the block in progress (R51); one that finds the pack over
its limit restarts nothing (R41, log 26). -/
def blockDropped (s : State) (b : BayId) (v : Option Sample) : Bool :=
  let x := s.bay b
  match v with
  | none => false
  | some u =>
    x.sense = .lost
    || (x.state = .tripped && x.retryTimer.isNone && !s.awaiting b && decide (u.heatsink ≤ x.settingsFor.restartTemp)
      && !overLimitAfter s b u)

/-- A sample event measured: the channel's sample state, the energy, the block and the pack-over-limit report (R27 to R30, R49 to R53).
`v` is the valid sample, or none for an invalid one. -/
def bayMeasures (s : State) (b : BayId) (m : SampleMark) (v : Option Sample) (miss : Nat) : State × SampleEvent :=
  let o := s.bay b
  let drop := blockDropped s b v
  let x := o.sampled m v miss
  let waits := x.blockWaitsValid && v.isNone
  let x := { x with blockWaitsValid := waits, block := if drop then none else x.block }
  let e : SampleEvent :=
    { used := x.lastValid, valid := v.isSome, completed := false
      lostNow := v.isNone && decide (x.invalidRun = 3), regained := v.isSome && o.sense = .lost }
  match x.lastValid with
  | none => (putBay s b x, e)
  | some u =>
    let r := if waits then (x.block, none) else blockAdd s.budget.exponent x.block u
    let x := { x with
      block := r.1, averages := match r.2 with | some a => some a | none => x.averages
      overLimit := overLimitAfter s b u }
    let s := putBay s b x
    let s := if takesEnergy x.state then addEnergy s b u else s
    (s, { e with completed := r.2.isSome })

/-- A sample event (R27): measured, then taken by the bay and, where the pack-over-limit report has changed, by its zone.
The manual leaves the order of the two open; where it matters it is a free value (log 10). -/
def sampleEvent (s : State) (b : BayId) (m : SampleMark) (v : Option Sample) (miss : Nat) : State :=
  let r := bayMeasures s b m v miss
  if (s.bay b).overLimit = (r.1.bay b).overLimit then bayActs r.1 b r.2
  else eitherOrder Config.zoneFirst s.free (thermalChange (bayActs r.1 b r.2) b) (bayActs (thermalChange r.1 b) b r.2)

/-! ### Held pack events (R155) -/

/-- What the submitter of a held event does once it is taken (R155). `s₀` is the state before the event. -/
def afterHeld (s₀ s : State) (e : PackEvent) (a : Answer) : State :=
  match e with
  | .trip b t k => afterTrip s b t k a
  | .rebound b t => afterRebound s b t a
  | .ready b t => afterReady s b t a
  | .bayQuarantine b t _ => afterBayQuarantine s b t
  | .feeding t => if a = .continued then openFeed s t else tryFeed s
  | .fed _ _ => afterFeedEvent s₀ s
  | .feedRemoved _ => afterFeedEvent s₀ s
  | .expose _ _ => s

/-- The FEED_CLEAR that waited for the event of pack `t` is answered OK (R140). -/
def answerFeed (s : State) (t : Tag) : State :=
  { s with link := { s.link with queue := s.link.queue.map (fun e =>
      if e.stage = .waiting (.feedEvent t) then e.form ⟨.ok, .packState ((s.pack t).map Pack.state)⟩ else e) } }

/-- A held FEEDING is taken only while the feeder would still start the feed (R138, log 14). -/
def stillWanted (s : State) : PackEvent → Bool
  | .feeding t => s.feeder.state = .ready && s.queue.head? = some t
  | _ => true

/-- The oldest held pack event, taken once its records fit (R155). -/
def takeHeld (s : State) : State :=
  match s.held with
  | [] => s
  | e :: t =>
    if s.phase ≠ .running then s
    else
      let s₁ := { s with held := t }
      if !(stillWanted s e) then tryFeed s₁
      else
        let r := applyEvent s₁ e
        if r.1.fits then
          let s₂ := afterHeld s r.1 e r.2
          match e with
          | .fed t _ | .feedRemoved t => answerFeed s₂ t
          | _ => s₂
        else s

end Sys2Proof.Machine
end

