-- ==== Sys2Proof/Machine/Views.lean ====
section
/-! DEFINITION. What the part shows of itself: the content of the READ replies and of the notices (R22, R48, R66, R85, R105, R131, R143, R176, R178). -/

namespace Sys2Proof.Machine

/-- The five conditioned inputs, none for not yet conditioned (R178). -/
def inputLevels (x : Inputs) : List (Option Bool) :=
  [x.estop.cond, x.doorClosed.cond, x.coolingOk.cond, x.shredRunning.cond, x.packPassed.cond]

/-- READ_STATUS (R178). -/
def statusView (s : State) : StatusView where
  mode := s.line.mode
  cause := s.line.cause
  effect := s.effect
  incident := s.incident.number
  incidentOpen := s.incident.progress.isSome
  valid := s.writer.valid
  free := s.freeSpace
  reserve := s.reserve
  buffered := s.writer.buffer.length
  newest := s.newest
  mark := s.writer.mark
  inputs := inputLevels s.line.inputs
  monitor := s.line.monitor
  flushDone := s.line.flushDone
  packs := s.packs.length
  openLot := s.openLot.map Lot.number
  subscribed := s.link.subscribed
  noticePending := s.link.noticePending
  discardedRequests := s.link.discardedRequests
  discards := s.link.discards
  clock := s.clock

/-- The position of a tag in the staging queue, 1 for the head (R22). -/
def positionIn (q : List Tag) (t : Tag) : Option Nat :=
  match q with
  | [] => none
  | u :: r => if u = t then some 1 else (positionIn r t).map (· + 1)

/-- Whole seconds of a time in ms (00 "Quantities and units"; log 43). -/
def wholeSeconds (t : Option Nat) : Option Nat := t.map (· / 1000)

/-- READ_BAY (R48, R66). A bay that is DISCHARGING while its TRIP or quarantine event is held has left the arbiter and shows request and
grant 0 (log 46). -/
def bayView (s : State) (b : BayId) : BayView :=
  let x := s.bay b
  let on : Bool := x.state = .discharging
  { state := x.state
    configured := x.settings.isSome
    pack := x.pack
    holds := x.holds
    primary := x.holds.primary
    command := if on then x.command else 0
    request := if on then some x.request else none
    grant := if on then some x.grant else none
    figures := if on then some (x.rateLimit, x.thermalLimit, x.wanted) else none
    starved := x.starved
    lastValid := x.lastValid
    averages := x.averages
    lastMark := x.lastMark
    invalidRun := x.invalidRun
    sense := x.sense
    retryCount := x.retryCount
    dischargeSeconds := x.dischargeMs / 1000
    clearSeconds := x.clearMs / 1000
    retryTimer := wholeSeconds x.retryTimer
    restTimer := wholeSeconds x.restTimer
    sustained := x.sustained
    overLimit := x.overLimit
    peaks := x.peaks
    residue := x.residue
    budget := s.budget.watts
    effective := s.effective
    participants := s.participants.length
    granted := (allBays.map (fun c => (s.bay c).grant)).sum }

/-- READ_ZONE (R105). -/
def zoneView (s : State) (z : ZoneId) : ZoneView :=
  let x := s.zone z
  { main := x.main, fault := x.fault, alarmClauses := x.alarmClauses, preClauses := x.preClauses, counts := x.counts
    thermal := x.thermal, thermalBay := s.thermalBay z, sparks := x.sparks, consecutive := x.consecutive
    window := x.window, lastSpark := x.lastSpark, preClear := wholeSeconds x.preClear, release := x.release, holdUsed := x.holdUsed
    holdTimer := wholeSeconds x.holdTimer, cause := x.cause, quench := x.quench, quenchTimer := x.quenchTimer
    quenchCount := x.quenchCount, suppression := x.suppression, releaseCount := x.releaseCount }

/-- READ_HEAD (R85). -/
def headView (s : State) (l : LoopId) (a : HeadAddr) : HeadView :=
  let x := s.loop l
  let hs := allAddrs.filterMap (fun a => s.head l a)
  { loop := l, addr := a, entry := s.head l a, state := x.state, testing := x.testing
    testTimer := wholeSeconds x.testTimer
    cursor := x.cursor, enrolled := hs.length, missing := (hs.filter (fun h => h.level = .missing)).length
    tested := (hs.filter (fun h => h.tested)).length, stranger := x.stranger
    lastStranger := if x.stranger then x.lastStranger else none
    strangerCount := x.strangerCount, frameErrors := x.frameErrors }

/-- A channel as READ_ATMOSPHERE shows it (R131). -/
def channelView (c : Channel) : ChannelView := ⟨c.valid, c.last, c.average, c.invalidRun, c.validRun⟩

/-- READ_ATMOSPHERE (R131). -/
def atmView (s : State) : AtmView :=
  let x := s.atm
  { chanA := channelView x.chanA, chanB := channelView x.chanB, control := x.control, disagree := x.disagree
    degraded := x.degraded, sensorFail := x.sensorFail, state := x.state, settled := x.settled, cause := x.cause
    doorClosed := s.doorClosed, valve := x.valve, boost := s.effect.inertBoost, maxPurge := wholeSeconds x.maxPurge
    settle := wholeSeconds x.settle
    runCondition := x.runCondition, feedCondition := x.feedCondition, litres := x.litres, gas := x.gas, peak := x.peak
    settings := x.settings }

/-- READ_FEED (R143). -/
def feedView (s : State) : FeedView :=
  let x := s.interlock
  let f := s.feeder
  { interlock := x.state, cause := x.cause, runOutput := x.runOutput, feedback := s.feedback, permission := x.permission
    conditions := s.runConditions, startTimer := wholeSeconds x.startTimer, rundownTimer := wholeSeconds x.rundownTimer, feeder := f.state
    reasons := f.reasons, primary := f.reasons.primary, gate := f.gate, tag := f.tag
    feedTimer := wholeSeconds f.feedTimer, resettleTimer := wholeSeconds f.resettleTimer, strays := f.strays, settings := f.settings }

/-! ### Notices (R176) -/

/-- What the ZONE notice shows of a loop. -/
def loopShot (x : Loop) : LoopShot := ⟨x.state, x.testing, x.stranger⟩

/-- What the PACK notice shows of a changed pack (R176); of one that has exited, whose entry is gone, its exit alone, with bay, exposure
and quarantine reason absent (log 70). -/
def packShot (s : State) (c : PackChange) : PackShot :=
  match s.pack c.tag with
  | some p => ⟨c.tag, c.exit, some p.state, p.bay, p.exposure, p.reason⟩
  | none => ⟨c.tag, c.exit, none, none, none, none⟩

/-- The content of a notice, formed as its frame starts (R176). -/
def noticeContent (s : State) : NoticeClass → Notice
  | .zone =>
    .zone (Vector.ofFn fun z => ⟨(s.zone z).main, (s.zone z).fault, (s.zone z).suppression⟩)
      s.incident.number s.incident.progress.isSome (loopShot s.loopA) (loopShot s.loopB)
  | .bay =>
    .bay ((allBays.filter (fun b => s.link.baysChanged.getLsbD b.val)).map (fun b =>
      let x := s.bay b
      ⟨b, x.state, x.holds.primary, x.sense, x.starved⟩))
  | .pack =>
    .pack s.packs.length (s.openLot.map Lot.number) s.queue.length s.queue.head?
      ((s.link.packsChanged.take 12).map (packShot s)) s.link.overflow
  | .atmosphere =>
    .atmosphere s.atm.state s.atm.settled s.atm.valve s.atm.control s.atm.disagree s.atm.degraded s.atm.sensorFail
  | .feed => .feed s.interlock.state s.interlock.cause s.feeder.state s.feeder.reasons s.feeder.gate s.feeder.tag
  | .line => .line s.line.mode s.line.cause s.effect (inputLevels s.line.inputs) s.line.monitor s.line.flushDone
  | .journal =>
    .journal s.freeSpace s.reserve s.writer.buffer.length s.newest s.writer.mark s.writer.suspended.isSome s.writer.lastIncident

end Sys2Proof.Machine
end

