-- ==== Sys2Proof/Machine/Wire.lean ====
section
/-! DEFINITION. The host link's frames: CRC-16, the catalogue of requests with their payloads, and the byte layouts of journal records, incident parts and reply frames (R172, R173, R180 to R183). -/

namespace Sys2Proof.Machine

/-! ### CRC-16 (R172) -/

/-- One bit of the CRC: polynomial 0x1021, most significant bit first. -/
def crcBit (c : BitVec 16) : BitVec 16 := if c.getLsbD 15 then (c <<< 1) ^^^ 0x1021#16 else c <<< 1

/-- One byte of the CRC. -/
def crcByte (c : BitVec 16) (b : Byte) : BitVec 16 :=
  let c := c ^^^ (b.setWidth 16 <<< 8)
  crcBit (crcBit (crcBit (crcBit (crcBit (crcBit (crcBit (crcBit c)))))))

/-- CRC-16 over a list of bytes, initial value 0xFFFF, no reflection, no final inversion (R172). -/
def crc16 (l : List Byte) : BitVec 16 := l.foldl crcByte 0xffff#16

/-! ### Multi-byte fields, high byte first (R172) -/

/-- Two bytes of a 16-bit field. -/
def bytes16 (v : BitVec 16) : List Byte := [v.extractLsb' 8 8, v.extractLsb' 0 8]
/-- Four bytes of a 32-bit field. -/
def bytes32 (v : BitVec 32) : List Byte := [v.extractLsb' 24 8, v.extractLsb' 16 8, v.extractLsb' 8 8, v.extractLsb' 0 8]
/-- A 16-bit field from its two bytes. -/
def word16 (h l : Byte) : BitVec 16 := h ++ l
/-- A 32-bit field from its four bytes. -/
def word32 (a b c d : Byte) : BitVec 32 := (a ++ b) ++ (c ++ d)

/-! ### The catalogue (R180) -/

/-- The kind byte of a request (R180; R129a for 0x41). -/
def Request.kind : Request → Byte
  | .readStatus => 0x01#8
  | .setClock _ => 0x02#8
  | .restart => 0x03#8
  | .setMode _ => 0x04#8
  | .resume => 0x05#8
  | .subscribe _ => 0x06#8
  | .configClass _ => 0x10#8
  | .configBay _ => 0x11#8
  | .configBudget _ _ => 0x12#8
  | .configZone _ => 0x13#8
  | .configAction _ _ _ _ => 0x14#8
  | .configHead _ _ _ _ _ => 0x15#8
  | .configAtmosphere _ => 0x16#8
  | .configFeed _ _ => 0x17#8
  | .readConfig _ => 0x18#8
  | .openLot _ => 0x20#8
  | .closeLot _ => 0x21#8
  | .admitPack _ => 0x22#8
  | .place _ _ => 0x23#8
  | .stage _ => 0x24#8
  | .quarantine _ => 0x25#8
  | .remove _ => 0x26#8
  | .clearExposure _ => 0x27#8
  | .readPack _ => 0x28#8
  | .readLot _ => 0x29#8
  | .readQueue => 0x2a#8
  | .pauseBay _ => 0x30#8
  | .continueBay _ => 0x31#8
  | .confirmBay _ => 0x32#8
  | .unlockBay _ => 0x33#8
  | .readBay _ => 0x34#8
  | .clearPeaks _ => 0x35#8
  | .resetZone _ => 0x38#8
  | .holdRelease _ => 0x39#8
  | .isolateHead _ _ => 0x3a#8
  | .restoreHead _ _ => 0x3b#8
  | .loopTest _ => 0x3c#8
  | .readZone _ => 0x3d#8
  | .readHead _ _ => 0x3e#8
  | .inertStart => 0x40#8
  | .inertStop => 0x41#8
  | .shredStart => 0x42#8
  | .shredStop => 0x43#8
  | .feedClear _ => 0x44#8
  | .readAtmosphere => 0x45#8
  | .readFeed => 0x46#8
  | .readJournal _ _ => 0x48#8
  | .exportMark _ => 0x49#8
  | .readIncident _ => 0x4a#8

/-- The payload of a request, its fields in the order and widths of R180. -/
def Request.payload : Request → List Byte
  | .setClock n => bytes32 n
  | .setMode m => [m]
  | .subscribe c => [c]
  | .configClass a => a.cls :: bytes16 a.endMv ++ bytes16 a.relMv ++ bytes16 a.rate ++ bytes16 a.limit ++ bytes16 a.rest
  | .configBay a =>
    a.bay :: a.zone :: bytes16 a.currentMax ++ bytes16 a.powerMax ++ bytes16 a.tripCurrent ++ bytes16 a.derate
      ++ bytes16 a.tripTemp ++ bytes16 a.restartTemp ++ bytes16 a.retryDelay ++ [a.retryLimit] ++ bytes16 a.clearPeriod
      ++ bytes32 a.maxTime
  | .configBudget b e => bytes16 b ++ [e]
  | .configZone a =>
    a.zone :: a.coincidence :: a.releaseDelay :: a.holdTime :: bytes16 a.window ++ bytes16 a.preThreshold
      ++ bytes16 a.alarmThreshold ++ [a.windowsForAlarm, a.quenchEnable] ++ bytes16 a.quenchPulse ++ [a.role]
  | .configAction z c a p => [z, c, a, p]
  | .configHead l a e k z => [l, a, e, k, z]
  | .configAtmosphere a =>
    bytes16 a.permit ++ bytes16 a.hysteresis ++ bytes16 a.breach ++ bytes16 a.settle ++ [a.resettle] ++ bytes16 a.maxPurge
      ++ [a.exponent] ++ bytes16 a.disagree ++ bytes16 a.purgeFlow ++ bytes16 a.trimFlow
  | .configFeed t st => [t, st]
  | .readConfig c => [c]
  | .openLot n => bytes32 n
  | .closeLot n => bytes32 n
  | .admitPack a => bytes32 a.tag ++ [a.cls, a.cells] ++ bytes16 a.capacity ++ bytes16 a.mass ++ bytes32 a.ocv
  | .place t b => bytes32 t ++ [b]
  | .stage t => bytes32 t
  | .quarantine t => bytes32 t
  | .remove t => bytes32 t
  | .clearExposure t => bytes32 t
  | .readPack t => bytes32 t
  | .readLot n => bytes32 n
  | .pauseBay b => [b]
  | .continueBay b => [b]
  | .confirmBay b => [b]
  | .unlockBay b => [b]
  | .readBay b => [b]
  | .clearPeaks t => [t]
  | .resetZone z => [z]
  | .holdRelease z => [z]
  | .isolateHead l a => [l, a]
  | .restoreHead l a => [l, a]
  | .loopTest l => [l]
  | .readZone z => [z]
  | .readHead l a => [l, a]
  | .feedClear o => [o]
  | .readJournal n c => bytes32 n ++ [c]
  | .exportMark n => bytes32 n
  | .readIncident n => bytes16 n
  | .readStatus | .restart | .resume | .readQueue | .inertStart | .inertStop | .shredStart | .shredStop
  | .readAtmosphere | .readFeed => []

/-- The kinds of the catalogue (R180; R129a for 0x41). -/
def knownKinds : List Byte :=
  [0x01#8, 0x02#8, 0x03#8, 0x04#8, 0x05#8, 0x06#8, 0x10#8, 0x11#8, 0x12#8, 0x13#8, 0x14#8, 0x15#8, 0x16#8, 0x17#8, 0x18#8]
  ++ [0x20#8, 0x21#8, 0x22#8, 0x23#8, 0x24#8, 0x25#8, 0x26#8, 0x27#8, 0x28#8, 0x29#8, 0x2a#8, 0x30#8, 0x31#8, 0x32#8, 0x33#8]
  ++ [0x34#8, 0x35#8, 0x38#8, 0x39#8, 0x3a#8, 0x3b#8, 0x3c#8, 0x3d#8, 0x3e#8, 0x40#8, 0x41#8, 0x42#8, 0x43#8, 0x44#8, 0x45#8]
  ++ [0x46#8, 0x48#8, 0x49#8, 0x4a#8]

/-- A payload of configuration kinds (0x10 to 0x18), where its length fits the kind (R180). -/
def parseConfig (k : Byte) (p : List Byte) : Option Request :=
  match k, p with
  | 0x10#8, [c, e1, e0, r1, r0, m1, m0, l1, l0, t1, t0] =>
    some (.configClass ⟨c, word16 e1 e0, word16 r1 r0, word16 m1 m0, word16 l1 l0, word16 t1 t0⟩)
  | 0x11#8, [b, z, c1, c0, p1, p0, t1, t0, d1, d0, h1, h0, r1, r0, y1, y0, n, q1, q0, x3, x2, x1, x0] =>
    some (.configBay ⟨b, z, word16 c1 c0, word16 p1 p0, word16 t1 t0, word16 d1 d0, word16 h1 h0, word16 r1 r0,
      word16 y1 y0, n, word16 q1 q0, word32 x3 x2 x1 x0⟩)
  | 0x12#8, [b1, b0, e] => some (.configBudget (word16 b1 b0) e)
  | 0x13#8, [z, c, d, h, w1, w0, p1, p0, a1, a0, n, q, l1, l0, r] =>
    some (.configZone ⟨z, c, d, h, word16 w1 w0, word16 p1 p0, word16 a1 a0, n, q, word16 l1 l0, r⟩)
  | 0x14#8, [z, c, a, b] => some (.configAction z c a b)
  | 0x15#8, [l, a, e, d, z] => some (.configHead l a e d z)
  | 0x16#8, [a1, a0, h1, h0, b1, b0, s1, s0, r, m1, m0, e, d1, d0, p1, p0, t1, t0] =>
    some (.configAtmosphere ⟨word16 a1 a0, word16 h1 h0, word16 b1 b0, word16 s1 s0, r, word16 m1 m0, e, word16 d1 d0,
      word16 p1 p0, word16 t1 t0⟩)
  | 0x17#8, [t, st] => some (.configFeed t st)
  | 0x18#8, [c] => some (.readConfig c)
  | _, _ => none

/-- A payload of custody and lot kinds (0x20 to 0x2A), where its length fits the kind (R180). -/
def parseCustody (k : Byte) (p : List Byte) : Option Request :=
  match k, p with
  | 0x20#8, [a, b, c, d] => some (.openLot (word32 a b c d))
  | 0x21#8, [a, b, c, d] => some (.closeLot (word32 a b c d))
  | 0x22#8, [a, b, c, d, e, n, q1, q0, m1, m0, v3, v2, v1, v0] =>
    some (.admitPack ⟨word32 a b c d, e, n, word16 q1 q0, word16 m1 m0, word32 v3 v2 v1 v0⟩)
  | 0x23#8, [a, b, c, d, e] => some (.place (word32 a b c d) e)
  | 0x24#8, [a, b, c, d] => some (.stage (word32 a b c d))
  | 0x25#8, [a, b, c, d] => some (.quarantine (word32 a b c d))
  | 0x26#8, [a, b, c, d] => some (.remove (word32 a b c d))
  | 0x27#8, [a, b, c, d] => some (.clearExposure (word32 a b c d))
  | 0x28#8, [a, b, c, d] => some (.readPack (word32 a b c d))
  | 0x29#8, [a, b, c, d] => some (.readLot (word32 a b c d))
  | 0x2a#8, [] => some .readQueue
  | _, _ => none

/-- A payload of bay, zone, head and loop kinds (0x30 to 0x3E), where its length fits the kind (R180). -/
def parseField (k : Byte) (p : List Byte) : Option Request :=
  match k, p with
  | 0x30#8, [b] => some (.pauseBay b)
  | 0x31#8, [b] => some (.continueBay b)
  | 0x32#8, [b] => some (.confirmBay b)
  | 0x33#8, [b] => some (.unlockBay b)
  | 0x34#8, [b] => some (.readBay b)
  | 0x35#8, [t] => some (.clearPeaks t)
  | 0x38#8, [z] => some (.resetZone z)
  | 0x39#8, [z] => some (.holdRelease z)
  | 0x3a#8, [l, a] => some (.isolateHead l a)
  | 0x3b#8, [l, a] => some (.restoreHead l a)
  | 0x3c#8, [l] => some (.loopTest l)
  | 0x3d#8, [z] => some (.readZone z)
  | 0x3e#8, [l, a] => some (.readHead l a)
  | _, _ => none

/-- A payload of atmosphere, shredder, feed and journal kinds (0x40 to 0x4A), where its length fits the kind (R180). -/
def parsePlant (k : Byte) (p : List Byte) : Option Request :=
  match k, p with
  | 0x40#8, [] => some .inertStart
  | 0x41#8, [] => some .inertStop
  | 0x42#8, [] => some .shredStart
  | 0x43#8, [] => some .shredStop
  | 0x44#8, [o] => some (.feedClear o)
  | 0x45#8, [] => some .readAtmosphere
  | 0x46#8, [] => some .readFeed
  | 0x48#8, [a, b, c, d, n] => some (.readJournal (word32 a b c d) n)
  | 0x49#8, [a, b, c, d] => some (.exportMark (word32 a b c d))
  | 0x4a#8, [a, b] => some (.readIncident (word16 a b))
  | _, _ => none

/-- A payload of line and link kinds (0x01 to 0x06), where its length fits the kind (R180). -/
def parseLine (k : Byte) (p : List Byte) : Option Request :=
  match k, p with
  | 0x01#8, [] => some .readStatus
  | 0x02#8, [a, b, c, d] => some (.setClock (word32 a b c d))
  | 0x03#8, [] => some .restart
  | 0x04#8, [m] => some (.setMode m)
  | 0x05#8, [] => some .resume
  | 0x06#8, [c] => some (.subscribe c)
  | _, _ => none

/-- The request of kind `k` with payload `p`, where the kind is known and the length fits it (R180). -/
def parseRequest (k : Byte) (p : List Byte) : Option Request :=
  let g := k.toNat / 16
  if g = 0 then parseLine k p
  else if g = 1 then parseConfig k p
  else if g = 2 then parseCustody k p
  else if g = 3 then parseField k p
  else parsePlant k p

/-- What a frame of kind `k` with payload `p` asks (R174). -/
def askedOf (k : Byte) (p : List Byte) : Asked :=
  match parseRequest k p with
  | some r => .known r
  | none => if knownKinds.any (· = k) then .badLength k else .unknownKind k

/-- The bytes of a frame: sync, length, kind, message tag, payload, CRC (R172). -/
def frameOf (kind mtag : Byte) (p : List Byte) : List Byte :=
  let body := BitVec.ofNat 8 (p.length + 2) :: kind :: mtag :: p
  0xc3#8 :: body ++ bytes16 (crc16 body)

/-- The bytes of the frame that carries a request (R172, R180). -/
def requestFrame (mtag : Byte) (r : Request) : List Byte := frameOf r.kind mtag r.payload

/-- The reply kind: request kind plus 0x80, or 0xFF for an unknown kind of 0x80 or above (R174). -/
def Asked.replyKind : Asked → Byte
  | .known r => r.kind + 0x80#8
  | .badLength k => k + 0x80#8
  | .unknownKind k => if k.getLsbD 7 then 0xff#8 else k + 0x80#8

end Sys2Proof.Machine

namespace Sys2Proof

/-! ### Codes (R181) -/

/-- The code of a status (R181). -/
def Status.code : Status → Byte
  | .ok => 0x00#8 | .clamped => 0x01#8 | .busy => 0x02#8 | .badLength => 0x03#8 | .unknownKind => 0x04#8
  | .outOfRange => 0x05#8 | .notFound => 0x06#8 | .duplicate => 0x07#8 | .wrongState => 0x08#8 | .wrongMode => 0x09#8
  | .full => 0x0a#8 | .noLot => 0x0b#8 | .noReserve => 0x0c#8 | .notConfigured => 0x0d#8
/-- Codes of a pack state. -/
def PackState.code : PackState → Byte
  | .intake => 1#8 | .inBay => 2#8 | .released => 3#8 | .staged => 4#8 | .feeding => 5#8 | .quarantined => 6#8
/-- Codes of a lot state. -/
def LotState.code : LotState → Byte
  | .opened => 1#8 | .closing => 2#8 | .final => 3#8
/-- Codes of a bay state. -/
def BayState.code : BayState → Byte
  | .empty => 1#8 | .placed => 2#8 | .discharging => 3#8 | .held => 4#8
  | .tripped => 5#8 | .resting => 6#8 | .ready => 7#8 | .locked => 8#8
/-- Codes of a line mode. -/
def LineMode.code : LineMode → Byte
  | .standby => 1#8 | .production => 2#8 | .drain => 3#8 | .safeHold => 4#8 | .maintenance => 5#8
/-- Codes of a quarantine reason. -/
def QuarReason.code : QuarReason → Byte
  | .packThermal => 1#8 | .tripLimit => 2#8 | .retryLimit => 3#8 | .reboundLimit => 4#8
  | .timeLimit => 5#8 | .recordLimit => 6#8 | .placeFault => 7#8 | .requested => 8#8
/-- Codes of a trip kind. -/
def TripKind.code : TripKind → Byte
  | .packThermal => 1#8 | .sense => 2#8 | .overcurrent => 3#8 | .reverse => 4#8 | .heatsink => 5#8 | .sustained => 6#8
/-- Codes of a record kind. -/
def RecordKind.code : RecordKind → Byte
  | .admitted => 1#8 | .placed => 2#8 | .trip => 3#8 | .rebound => 4#8 | .ready => 5#8 | .stage => 6#8 | .expose => 7#8
  | .exposeClear => 8#8 | .confirm => 9#8 | .quarantine => 10#8 | .fed => 11#8 | .removed => 12#8 | .lotOpen => 13#8
  | .lotClose => 14#8 | .lotFinal => 15#8
/-- Codes of a zone main state. -/
def ZoneMain.code : ZoneMain → Byte
  | .normal => 1#8 | .preAlarm => 2#8 | .alarm => 3#8 | .released => 4#8
/-- Codes of a head kind. -/
def HeadKind.code : HeadKind → Byte
  | .heat => 1#8 | .flame => 2#8 | .spark => 3#8 | .gas => 4#8
/-- Codes of a head level. -/
def HeadLevel.code : HeadLevel → Byte
  | .normal => 1#8 | .pre => 2#8 | .alarm => 3#8 | .fault => 4#8 | .missing => 5#8
/-- Codes of an atmosphere state. -/
def AtmState.code : AtmState → Byte
  | .air => 1#8 | .purging => 2#8 | .inert => 3#8 | .drift => 4#8 | .breach => 5#8 | .fault => 6#8
/-- Codes of an interlock state. -/
def InterlockState.code : InterlockState → Byte
  | .stopped => 1#8 | .starting => 2#8 | .running => 3#8 | .stopping => 4#8 | .fault => 5#8
/-- Codes of a feeder state. -/
def FeederState.code : FeederState → Byte
  | .blocked => 1#8 | .ready => 2#8 | .feeding => 3#8 | .jammed => 4#8
/-- Codes of a settings section. -/
def Section.code : Section → Byte
  | .cls => 1#8 | .bay => 2#8 | .budget => 3#8 | .zone => 4#8 | .action => 5#8
  | .head => 6#8 | .atmosphere => 7#8 | .feed => 8#8 | .exported => 9#8
/-- Loop A is 1 and loop B is 2. -/
def LoopId.code : LoopId → Byte
  | .a => 1#8 | .b => 2#8
/-- Codes of a column. -/
def Column.code : Column → Byte
  | .preAlarm => 1#8 | .alarm => 2#8 | .released => 3#8 | .fault => 4#8
/-- The code of a role. -/
def Role.code : Role → Byte
  | .none => 0#8 | .staging => 1#8 | .infeed => 2#8
/-- Codes of a SAFE_HOLD cause. -/
def HoldCause.code : HoldCause → Byte
  | .estop => 1#8 | .door => 2#8 | .lineHold => 3#8 | .supply => 4#8
/-- Codes of a valve command. -/
def Valve.code : Valve → Byte
  | .closed => 1#8 | .trim => 2#8 | .purge => 3#8
/-- Codes of an atmosphere fault cause. -/
def AtmCause.code : AtmCause → Byte
  | .purgeTimeout => 1#8 | .sensorFail => 2#8
/-- Codes of an interlock fault cause. -/
def InterlockCause.code : InterlockCause → Byte
  | .startTimeout => 1#8 | .rundownTimeout => 2#8 | .feedbackLost => 3#8
/-- Codes of a loop controller state. -/
def LoopState.code : LoopState → Byte
  | .idle => 1#8 | .polling => 2#8 | .receiving => 3#8 | .short => 4#8
/-- Codes of a bay sense. -/
def Sense.code : Sense → Byte
  | .good => 1#8 | .lost => 2#8
/-- Codes of a sample validity mark. -/
def SampleMark.code : SampleMark → Byte
  | .valid => 1#8 | .saturated => 2#8 | .invalid => 3#8
/-- Codes of a supply monitor state. -/
def Monitor.code : Monitor → Byte
  | .normal => 1#8 | .warning => 2#8
end Sys2Proof

namespace Sys2Proof.Machine

/-- A flag is 0 or 1. -/
def flagByte (b : Bool) : Byte := if b then 1#8 else 0#8
/-- A number of an item counted from 1, 0 where it is absent. -/
def numberByte {n : Nat} (i : Option (Fin n)) : Byte :=
  match i with
  | some k => BitVec.ofNat 8 (k.val + 1)
  | none => 0#8
/-- A set of Booleans, bit n − 1 for item n. -/
def bitsOf : List Bool → Nat
  | [] => 0
  | b :: t => (if b then 1 else 0) + 2 * bitsOf t
/-- One byte of a number. -/
def nat8 (n : Nat) : List Byte := [BitVec.ofNat 8 n]
/-- Two bytes of a number. -/
def nat16 (n : Nat) : List Byte := bytes16 (BitVec.ofNat 16 n)
/-- Four bytes of a number. -/
def nat32 (n : Nat) : List Byte := bytes32 (BitVec.ofNat 32 n)
/-- Eight bytes of a number. -/
def nat64 (n : Nat) : List Byte := nat32 (n / 4294967296) ++ nat32 n
/-- Two bytes of a signed number. -/
def int16 (v : Int) : List Byte := bytes16 (BitVec.ofInt 16 v)

/-! ### Records and incident parts (R182, R183) -/

/-- The code of the state after a record. -/
def AfterState.code : AfterState → Byte
  | .pack p => p.code
  | .lot l => l.code

/-- The marks byte of a record: clock unset, bypass, late (R182). -/
def Record.marks (r : Record) : Byte :=
  let bypass := match r.detail with | .admitted _ _ _ _ _ b => b | _ => false
  let late := match r.detail with | .fed l => l | _ => false
  BitVec.ofNat 8 (bitsOf [r.stamp.unset, bypass, late])

/-- The detail of a pack record, from byte 27 (R182). -/
def detailBytes : Detail → List Byte
  | .admitted c n q m v _ => numberByte (some c) :: nat8 n ++ nat16 q ++ nat16 m ++ nat32 v
  | .trip k => [k.code, 0#8]
  | .quarantine q => [q.code, 0#8]
  | .incident n => bytes16 n
  | _ => [0#8, 0#8]

/-- A record as the host receives it (R182). -/
def Record.bytes (r : Record) : List Byte :=
  let first := nat32 r.seq ++ [r.kind.code, r.marks] ++ bytes32 r.stamp.seconds ++ bytes32 r.subject ++ bytes32 r.lot ++ [r.after.code]
  match r.kind, r.detail with
  | .lotFinal, .lotFinal a f x e mf mr g => first ++ nat32 a ++ nat32 f ++ nat32 x ++ nat64 e ++ nat32 mf ++ nat32 mr ++ nat32 g
  | .lotFinal, _ => first
  | .lotOpen, _ => first
  | .lotClose, _ => first
  | _, d => first ++ [numberByte r.bay] ++ nat32 r.energy ++ nat8 r.trips ++ nat8 r.rebounds ++ nat8 r.charge ++ detailBytes d

/-- An item of READ_JOURNAL: a record, or five bytes for an unreadable sequence (R182). -/
def JournalItem.bytes : JournalItem → List Byte
  | .record r => r.bytes
  | .unreadable n => nat32 n ++ [0#8]

/-- Alarm cause and its detail of 8 bytes (R183). -/
def causeBytes : Option AlarmCause → List Byte
  | some (.head l a k lv v) => [1#8, l.code, numberByte (some a), k.code, lv.code] ++ int16 v ++ [0#8, 0#8]
  | some (.spark h n c) =>
    2#8 :: (h.map (fun x => x.1.code)).getD 0#8 :: numberByte (h.map Prod.snd) :: nat16 n ++ nat8 c ++ [0#8, 0#8, 0#8]
  | some (.bayThermal b t) => 3#8 :: numberByte (some b) :: int16 t ++ [0#8, 0#8, 0#8, 0#8, 0#8]
  | none => List.replicate 9 0#8

/-- The line actions of an effect set as an action set without HOLD_BAYS (R181). -/
def EffectSet.actionByte (e : EffectSet) : Byte :=
  BitVec.ofNat 8 (bitsOf [false, e.blockFeed, e.stopShredder, e.inertBoost, e.lineHold])

/-- A tag or its absence (R181). -/
def tagBytes (t : Option Tag) : List Byte := bytes32 (t.getD 0#32)

/-- The open part as the host receives it: 94 bytes (R183). -/
def OpenPart.bytes (o : OpenPart) : List Byte :=
  bytes16 o.number ++ bytes32 o.opened.seconds
  ++ [BitVec.ofNat 8 (bitsOf [o.opened.unset, o.headFeeding, o.control.isNone]), numberByte (some o.firstZone)]
  ++ causeBytes o.cause ++ o.zones.toList.map ZoneMain.code ++ [o.mode.code, o.effect.actionByte]
  ++ nat16 (bitsOf o.effect.marks.toList) ++ nat8 o.effect.pct
  ++ o.bays.toList.flatMap (fun b => b.state.code :: tagBytes b.pack ++ [flagByte b.overLimit])
  ++ nat8 o.queueLength ++ tagBytes o.queueHead ++ [o.atmosphere.code] ++ nat16 (o.control.getD 65535)
  ++ [o.interlock.code, o.feeder.code] ++ nat8 o.exposed ++ nat8 o.quarantined

/-- The close part as the host receives it: 19 bytes (R183). -/
def ClosePart.bytes (c : ClosePart) : List Byte :=
  bytes16 c.number ++ bytes32 c.closed.seconds ++ [flagByte c.closed.unset] ++ nat32 c.seconds
  ++ nat16 (bitsOf c.zones.toList) ++ nat16 c.releases ++ nat16 c.exposed ++ nat16 c.quarantined

/-! ### Reply payloads (R175, R180 to R183) -/

/-- Settings of a class in the order of CONFIG_CLASS (R26, R180). -/
def ClassSettings.bytes (v : ClassSettings) : List Byte :=
  nat16 v.endMv ++ nat16 v.relMv ++ nat16 v.rate ++ int16 v.limit ++ nat16 v.rest
/-- The settings of a bay after its zone, in the order of CONFIG_BAY. -/
def BaySettings.rest (v : BaySettings) : List Byte :=
  nat16 v.currentMax ++ nat16 v.powerMax ++ nat16 v.tripCurrent ++ int16 v.derate ++ int16 v.tripTemp ++ int16 v.restartTemp
  ++ nat16 v.retryDelay ++ nat8 v.retryLimit ++ nat16 v.clearPeriod ++ nat32 v.maxTime
/-- Settings of a bay in the order of CONFIG_BAY (R25, R180). -/
def BaySettings.bytes (v : BaySettings) : List Byte := numberByte (some v.zone) :: v.rest
/-- Settings of a zone in the order of CONFIG_ZONE (R87, R180). -/
def ZoneSettings.bytes (v : ZoneSettings) : List Byte :=
  flagByte v.coincidence :: nat8 v.releaseDelay ++ nat8 v.holdTime ++ nat16 v.window ++ nat16 v.preThreshold
  ++ nat16 v.alarmThreshold ++ nat8 v.windowsForAlarm ++ [flagByte v.quenchEnable] ++ nat16 v.quenchPulse ++ [v.role.code]
/-- A cell in the order of CONFIG_ACTION (R107, R180). -/
def ActionCell.bytes (v : ActionCell) : List Byte :=
  BitVec.ofNat 8 (bitsOf [v.actions.holdBays, v.actions.blockFeed, v.actions.stopShredder, v.actions.inertBoost, v.actions.lineHold])
  :: nat8 v.pct
/-- A head's enrollment in the order of CONFIG_HEAD; kind and zone are 0 where no head is enrolled. -/
def enrollmentBytes (h : Option Enrollment) : List Byte :=
  match h with
  | some e => [1#8, e.kind.code, numberByte (some e.zone)]
  | none => [0#8, 0#8, 0#8]
/-- Settings of the chamber in the order of CONFIG_ATMOSPHERE. -/
def AtmSettings.bytes (v : AtmSettings) : List Byte :=
  nat16 v.permit ++ nat16 v.hysteresis ++ nat16 v.breach ++ nat16 v.settle ++ nat8 v.resettle ++ nat16 v.maxPurge
  ++ nat8 v.exponent ++ nat16 v.disagree ++ nat16 v.purgeFlow ++ nat16 v.trimFlow
/-- Settings of the feed in the order of CONFIG_FEED. -/
def FeedSettings.bytes (v : FeedSettings) : List Byte := nat8 v.feedTime ++ nat8 v.step
/-- The budget in the order of CONFIG_BUDGET. -/
def Budget.bytes (v : Budget) : List Byte := nat16 v.watts ++ nat8 v.exponent
/-- A hold-reason set: bit n − 1 for the reason of code n. -/
def holdsByte (h : Holds) : Byte := BitVec.ofNat 8 (bitsOf [h.line, h.zone, h.cooling, h.requested, h.restart])
/-- A block-reason set: bit n − 1 for the reason of code n. -/
def reasonsByte (r : Reasons) : Byte := BitVec.ofNat 8 (bitsOf [r.mode, r.atmosphere, r.settle, r.shredder, r.effect])
/-- The three sensor flags: bit 0 DISAGREE, bit 1 DEGRADED, bit 2 SENSOR_FAIL. -/
def sensorByte (disagree degraded sensorFail : Bool) : Byte := BitVec.ofNat 8 (bitsOf [disagree, degraded, sensorFail])
/-- A set of sections: bit n − 1 for section n. -/
def sectionSet (l : List Section) : List Byte := nat16 (bitsOf (allSections.map (fun c => l.any (· = c))))

/-! ### Absent items (R181; log 18) -/

/-- The code of an item that may be absent: 0 where it is (log 18). -/
def codeOr {α : Type} (f : α → Byte) (v : Option α) : Byte := (v.map f).getD 0#8
/-- Two bytes of a measured value, all ones where it is absent. -/
def orOnes16 (v : Option Nat) : List Byte := nat16 (v.getD 65535)
/-- Four bytes of a time or value, all ones where it is absent. -/
def orOnes32 (v : Option Nat) : List Byte := nat32 (v.getD 4294967295)
/-- Two bytes of a signed measured value, all ones where it is absent. -/
def orOnesInt16 (v : Option Int) : List Byte := int16 (v.getD (-1))
/-- Four bytes of a signed number. -/
def int32 (v : Int) : List Byte := bytes32 (BitVec.ofInt 32 v)
/-- Four bytes of a signed measured value, all ones where it is absent. -/
def orOnesInt32 (v : Option Int) : List Byte := int32 (v.getD (-1))
/-- A loop and an address, 0 and 0 where absent. -/
def headRef (h : Option (LoopId × HeadAddr)) : List Byte := [codeOr LoopId.code (h.map Prod.fst), numberByte (h.map Prod.snd)]
/-- A conditioned input: absent 1, present 2, not yet conditioned 3 (R181). -/
def inputByte : Option Bool → Byte
  | some false => 1#8
  | some true => 2#8
  | none => 3#8
/-- An oxygen channel's validity: VALID 1, INVALID 2 (R181). -/
def validityByte (valid : Bool) : Byte := if valid then 1#8 else 2#8
/-- The release timer, running 1, paused 2 or not running 3, with its remaining time in ms (R86, R181). -/
def Release.bytes : Release → List Byte
  | .running ms => 1#8 :: nat32 ms
  | .paused ms => 2#8 :: nat32 ms
  | .idle => 3#8 :: orOnes32 none
/-- An exposure: whether there is one, its incident, its cleared flag (log 18). -/
def exposureBytes : Option Exposure → List Byte
  | some e => 1#8 :: bytes16 e.incident ++ [flagByte e.cleared]
  | none => [0#8, 0#8, 0#8, 0#8]
/-- An incident number that may be absent: whether there is one, and the number (log 18). -/
def incidentBytes : Option (BitVec 16) → List Byte
  | some n => 1#8 :: bytes16 n
  | none => [0#8, 0#8, 0#8]
/-- An effect set: line actions, zones with a HOLD_BAYS mark, budget percentage (R109, R183). -/
def EffectSet.bytes (e : EffectSet) : List Byte := e.actionByte :: nat16 (bitsOf e.marks.toList) ++ nat8 e.pct

/-! ### What the READ requests give (R22, R48, R66, R85, R105, R131, R143, R178, R180; log 18)

Each is its rule's list in order; a field has the width of the same quantity in a payload, a time, mark or sequence four bytes, another
number the fewest of 1, 2, 4 and 8 bytes that hold its range. -/

/-- READ_STATUS (R178). -/
def StatusView.bytes (v : StatusView) : List Byte :=
  [v.mode.code, codeOr HoldCause.code v.cause] ++ v.effect.bytes ++ bytes16 v.incident ++ [flagByte v.incidentOpen]
  ++ nat16 (bitsOf v.valid.toList) ++ nat16 v.free ++ nat16 v.reserve ++ nat8 v.buffered ++ nat32 v.newest ++ nat32 v.mark
  ++ v.inputs.map inputByte ++ [v.monitor.code, flagByte v.flushDone] ++ nat8 v.packs ++ tagBytes v.openLot
  ++ [v.subscribed.setWidth 8, v.noticePending.setWidth 8] ++ nat8 v.discardedRequests ++ nat8 v.discards
  ++ bytes32 v.clock.seconds ++ [flagByte v.clock.unset]

/-- READ_PACK: the entry in the order of R2, and its place in the queue, 0 where it is not queued (R22). -/
def packBytes (p : Pack) (position : Option Nat) : List Byte :=
  bytes32 p.tag ++ bytes32 p.lot ++ [numberByte (some p.cls)] ++ nat8 p.cells ++ nat16 p.capacity ++ nat16 p.mass ++ nat32 p.ocv
  ++ [p.state.code, numberByte p.bay] ++ nat32 p.energy ++ [flagByte p.gap] ++ nat8 p.trips ++ nat8 p.rebounds ++ nat8 p.charge
  ++ nat32 p.firstRecord ++ exposureBytes p.exposure ++ [codeOr QuarReason.code p.reason] ++ nat8 (position.getD 0)

/-- READ_LOT (R22). The in-custody count is sent as 4 bytes, like the lot's counters beside it (log 18). -/
def lotBytes (l : Lot) (inCustody : Nat) : List Byte :=
  l.state.code :: nat32 l.admitted ++ nat32 l.fed ++ nat32 l.removed ++ nat64 l.energy ++ nat32 l.massFed ++ nat32 l.massRemoved
  ++ nat32 inCustody ++ nat8 l.written

/-- READ_QUEUE (R22). -/
def queueBytes (tags : List Tag) (head : Option PackState) : List Byte :=
  nat8 tags.length ++ tags.flatMap bytes32 ++ [codeOr PackState.code head]

/-- READ_BAY: the items of R48, then those that R66 adds. -/
def BayView.bytes (v : BayView) : List Byte :=
  [v.state.code, flagByte v.configured] ++ tagBytes v.pack ++ [holdsByte v.holds] ++ nat8 (v.primary.getD 0) ++ nat16 v.command
  ++ orOnes16 v.request ++ orOnes16 v.grant
  ++ orOnesInt32 (v.lastValid.map Sample.voltage) ++ orOnesInt16 (v.lastValid.map Sample.current)
  ++ orOnesInt16 (v.lastValid.map Sample.heatsink) ++ orOnesInt16 (v.lastValid.map Sample.packTemp)
  ++ orOnesInt32 (v.averages.map Averages.voltage) ++ orOnesInt16 (v.averages.map Averages.current)
  ++ orOnesInt16 (v.averages.map Averages.heatsink)
  ++ [codeOr SampleMark.code v.lastMark] ++ nat8 v.invalidRun ++ [v.sense.code] ++ nat8 v.retryCount
  ++ nat32 v.dischargeSeconds ++ nat32 v.clearSeconds ++ orOnes32 (v.retryTimer.or v.restTimer) ++ nat8 v.sustained
  ++ [flagByte v.overLimit] ++ orOnesInt16 (v.peaks.map Peaks.current) ++ orOnesInt16 (v.peaks.map Peaks.heatsink)
  ++ orOnesInt16 (v.peaks.map Peaks.packTemp)
  ++ orOnes32 (v.figures.map Prod.fst) ++ orOnes16 (v.figures.map (fun f => f.2.1)) ++ orOnes16 (v.figures.map (fun f => f.2.2))
  ++ [flagByte v.starved] ++ nat32 v.residue ++ nat16 v.budget ++ nat16 v.effective ++ nat8 v.participants ++ nat16 v.granted

/-- READ_ZONE (R105); the clauses of R91 and of R92 are sets, bit n − 1 for clause n. -/
def ZoneView.bytes (v : ZoneView) : List Byte :=
  [v.main.code, flagByte v.fault] ++ nat8 (bitsOf v.alarmClauses) ++ nat8 (bitsOf v.preClauses)
  ++ nat8 v.counts.counted ++ nat8 v.counts.pre ++ nat8 v.counts.alarm ++ nat8 v.counts.bad ++ nat8 v.counts.flameAlarm
  ++ nat8 v.counts.isolated ++ [flagByte v.thermal, numberByte v.thermalBay] ++ nat16 v.sparks ++ nat8 v.consecutive
  ++ orOnes32 v.window ++ headRef v.lastSpark ++ orOnes32 v.preClear ++ v.release.bytes ++ [flagByte v.holdUsed]
  ++ orOnes32 v.holdTimer ++ causeBytes v.cause ++ [flagByte v.quench] ++ orOnes32 v.quenchTimer ++ nat16 v.quenchCount
  ++ [flagByte v.suppression] ++ nat16 v.releaseCount

/-- READ_HEAD: the entry in the order of R67, then its loop (R85); the absent tested flag of an address without a head is 0 (log 18). -/
def HeadView.bytes (v : HeadView) : List Byte :=
  [v.loop.code, numberByte (some v.addr)] ++ enrollmentBytes (enrollmentOf v.entry) ++ [flagByte (v.entry.any Head.isolated),
    codeOr HeadLevel.code (v.entry.map Head.level)] ++ orOnesInt16 (v.entry.map Head.value)
  ++ nat8 ((v.entry.map Head.missed).getD 255) ++ [flagByte (v.entry.any Head.tested), v.state.code, flagByte v.testing]
  ++ orOnes32 v.testTimer ++ [numberByte v.cursor] ++ nat8 v.enrolled ++ nat8 v.missing ++ nat8 v.tested
  ++ [flagByte v.stranger, numberByte v.lastStranger] ++ nat16 v.strangerCount ++ nat16 v.frameErrors

/-- A channel of READ_ATMOSPHERE (R131). -/
def ChannelView.bytes (v : ChannelView) : List Byte :=
  validityByte v.valid :: orOnes16 v.last ++ orOnes16 v.average ++ nat8 v.invalidRun ++ nat8 v.validRun

/-- The peak oxygen with its time stamp and its marks byte (R130, R181). -/
def peakBytes : Option OxyPeak → List Byte
  | some p => nat16 p.value ++ bytes32 p.stamp.seconds ++ [flagByte p.stamp.unset]
  | none => orOnes16 none ++ orOnes32 none ++ [0#8]

/-- READ_ATMOSPHERE (R131); the door is a flag, 1 for CLOSED and 0 for OPEN (log 18). -/
def AtmView.bytes (v : AtmView) : List Byte :=
  v.chanA.bytes ++ v.chanB.bytes ++ orOnes16 v.control ++ [sensorByte v.disagree v.degraded v.sensorFail, v.state.code,
    flagByte v.settled, codeOr AtmCause.code v.cause, flagByte v.doorClosed, v.valve.code, flagByte v.boost]
  ++ orOnes32 (v.maxPurge.or v.settle) ++ [flagByte v.runCondition, flagByte v.feedCondition] ++ nat32 v.litres ++ nat32 v.gas
  ++ peakBytes v.peak ++ v.settings.bytes

/-- The five conditions of run permission: bit n − 1 for condition n (R133). -/
def RunConditions.byte (c : RunConditions) : Byte :=
  BitVec.ofNat 8 (bitsOf [c.atmosphere, c.mode, c.noStop, c.estopClear, c.doorClosed])

/-- The four conditions of RESUME: bit n − 1 for condition n (R148). -/
def ResumeConditions.byte (c : ResumeConditions) : Byte :=
  BitVec.ofNat 8 (bitsOf [c.estopClear, c.doorClosed, c.noLineHold, c.supplyNormal])

/-- READ_FEED (R143). -/
def FeedView.bytes (v : FeedView) : List Byte :=
  [v.interlock.code, codeOr InterlockCause.code v.cause, flagByte v.runOutput, flagByte v.feedback, flagByte v.permission,
    v.conditions.byte] ++ orOnes32 (v.startTimer.or v.rundownTimer) ++ [v.feeder.code, reasonsByte v.reasons]
  ++ nat8 (v.primary.getD 0) ++ [flagByte v.gate] ++ tagBytes v.tag ++ orOnes32 v.feedTimer ++ orOnes32 v.resettleTimer
  ++ nat16 v.strays ++ v.settings.bytes

/-- A class of READ_CONFIG: its settings in force (R26, R166). -/
def configClassBytes (c : ClassId) (v : Option ClassSettings) : List Byte := (v.getD (ClassSettings.unstated c)).bytes
/-- A bay of READ_CONFIG: its settings in force, the defaults and no zone while it is unconfigured (R24, R166). -/
def configBayBytes (v : Option BaySettings) : List Byte :=
  match v with
  | some v => v.bytes
  | none => 0#8 :: BaySettings.default.rest
/-- The four cells of a zone in column order (R180). -/
def ZoneCells.bytes (v : ZoneCells) : List Byte := v.preAlarm.bytes ++ v.alarm.bytes ++ v.released.bytes ++ v.fault.bytes

/-- A section's values in force, each class, bay, zone, cell or head in turn, loop A before loop B (R180). -/
def SectionData.bytes : SectionData → List Byte
  | .cls v => (List.finRange 8).flatMap (fun c => configClassBytes c v[c])
  | .bay v => v.toList.flatMap configBayBytes
  | .budget v => v.bytes
  | .zone v => v.toList.flatMap ZoneSettings.bytes
  | .action v => v.toList.flatMap ZoneCells.bytes
  | .head a b => a.toList.flatMap enrollmentBytes ++ b.toList.flatMap enrollmentBytes
  | .atmosphere v => v.bytes
  | .feed v => v.bytes
  | .exported m => nat32 m

/-- What follows the status byte (R175, R180 to R183; log 18); "entry as set" repeats loop and address (log 54). LOOP_TEST's window is 1
open and 0 closed, and READ_JOURNAL's count byte counts the unreadable sequences too (log 18). -/
def Body.bytes : Body → List Byte
  | .none => []
  | .status v => v.bytes
  | .clock v => bytes32 v.seconds
  | .mode v => [v.code]
  | .classSet v => [v.setWidth 8]
  | .cls v => v.bytes
  | .bay v => v.bytes
  | .budget v => v.bytes
  | .zone v => v.bytes
  | .cell v => v.bytes
  | .head l a v => l.code :: numberByte (some a) :: enrollmentBytes (enrollmentOf v)
  | .atmosphere v => v.bytes
  | .feed v => v.bytes
  | .config valid v => flagByte valid :: v.bytes
  | .lotState v => [v.code]
  | .admitted st n => st.code :: nat32 n
  | .packState v => [codeOr PackState.code v]
  | .pack v n => packBytes v n
  | .lot v n => lotBytes v n
  | .queue l h => queueBytes l h
  | .holds v => [holdsByte v]
  | .bayState v => [v.code]
  | .bayView v => v.bytes
  | .zoneMain v => [v.code]
  | .releaseMs v => nat32 v
  | .level v i => [v.code, flagByte i]
  | .window v => [flagByte v]
  | .zoneView v => v.bytes
  | .headView v => v.bytes
  | .atmState v => [v.code]
  | .interlock v => [v.code]
  | .atmView v => v.bytes
  | .feedView v => v.bytes
  | .journal v => nat8 v.length ++ v.flatMap JournalItem.bytes
  | .mark v => nat32 v
  | .incident o (some c) => o.bytes ++ [1#8] ++ c.bytes
  | .incident o Option.none => o.bytes ++ [0#8] ++ List.replicate 19 0#8
  | .notValid v => sectionSet v
  | .notStopped i f => [i.code, f.code]
  | .resumeConditions v => [v.byte]
  | .runConditions v => [v.byte]

/-! ### Notices (R176; log 18) -/

/-- How a pack that has exited shows in the state byte of a PACK notice: the code of its exit record (log 18). -/
def ExitKind.code : ExitKind → Byte
  | .fed => RecordKind.fed.code
  | .removed => RecordKind.removed.code

/-- A pack of the PACK notice (R176). -/
def PackShot.bytes (p : PackShot) : List Byte :=
  bytes32 p.tag ++ [match p.exit with | some k => k.code | none => codeOr PackState.code p.state, numberByte p.bay]
  ++ exposureBytes p.exposure ++ [codeOr QuarReason.code p.reason]

/-- A zone of the ZONE notice (R176). -/
def ZoneShot.bytes (z : ZoneShot) : List Byte := [z.main.code, flagByte z.fault, flagByte z.suppression]
/-- A loop of the ZONE notice (R176). -/
def LoopShot.bytes (x : LoopShot) : List Byte := [x.state.code, flagByte x.testing, flagByte x.stranger]
/-- A bay of the BAY notice (R48, R176). -/
def BayChange.bytes (b : BayChange) : List Byte :=
  [numberByte (some b.bay), b.state.code] ++ nat8 (b.primary.getD 0) ++ [b.sense.code, flagByte b.starved]

/-- The class of a notice (R176). -/
def Notice.cls : Notice → NoticeClass
  | .zone _ _ _ _ _ => .zone
  | .bay _ => .bay
  | .pack _ _ _ _ _ _ => .pack
  | .atmosphere _ _ _ _ _ _ _ => .atmosphere
  | .feed _ _ _ _ _ _ => .feed
  | .line _ _ _ _ _ _ => .line
  | .journal _ _ _ _ _ _ _ => .journal

/-- The kind byte of a notice, 0xE0 to 0xE6 in the order of the classes (R176). -/
def noticeKind : NoticeClass → Byte
  | .zone => 0xe0#8
  | .bay => 0xe1#8
  | .pack => 0xe2#8
  | .atmosphere => 0xe3#8
  | .feed => 0xe4#8
  | .line => 0xe5#8
  | .journal => 0xe6#8

/-- The payload of a notice (R176). -/
def Notice.bytes : Notice → List Byte
  | .zone zs n o a b => zs.toList.flatMap ZoneShot.bytes ++ bytes16 n ++ [flagByte o] ++ a.bytes ++ b.bytes
  | .bay l => l.flatMap BayChange.bytes
  | .pack n l q h cs o => nat8 n ++ tagBytes l ++ nat8 q ++ tagBytes h ++ cs.flatMap PackShot.bytes ++ [flagByte o]
  | .atmosphere st se v c d g f => [st.code, flagByte se, v.code] ++ orOnes16 c ++ [sensorByte d g f]
  | .feed i c f r g t => [i.code, codeOr InterlockCause.code c, f.code, reasonsByte r, flagByte g] ++ tagBytes t
  | .line m c e l n f => [m.code, codeOr HoldCause.code c] ++ e.bytes ++ l.map inputByte ++ [n.code, flagByte f]
  | .journal f r b n m e i => nat16 f ++ nat16 r ++ nat8 b ++ nat32 n ++ nat32 m ++ [flagByte e] ++ incidentBytes i

/-- The bytes of a frame that the part sends: a reply with its request's message tag and its status first, or a notice with message
tag 0 (R172, R174, R175, R176). -/
def OutFrame.bytes : OutFrame → List Byte
  | .reply kind mtag r => frameOf kind mtag (r.status.code :: r.body.bytes)
  | .notice n => frameOf (noticeKind n.cls) 0#8 n.bytes

end Sys2Proof.Machine
end

