-- ==== Sys2Proof/Machine/LinkPort.lean ====
section
/-! DEFINITION. The Link Port's sending side and the end of every step: the arbiter, the reserve's change of sign, the next reply or notice (R159, R161, R174, R176, R179). -/

namespace Sys2Proof.Machine

/-! ### Sending (R174, R176) -/

/-- The notice classes in their order (R176). -/
def allClasses : List NoticeClass := [.zone, .bay, .pack, .atmosphere, .feed, .line, .journal]

/-- The lowest-numbered pending class (R176). -/
def Link.due (x : Link) : Option NoticeClass := allClasses.find? (fun c => x.noticePending &&& noticeBit c ≠ 0#7)

/-- The change lists once the notice of class `c` has been formed (R176). -/
def Link.sent (x : Link) (c : NoticeClass) : Link :=
  let x := { x with noticePending := x.noticePending &&& ~~~(noticeBit c) }
  match c with
  | .bay => { x with baysChanged := 0#8 }
  | .pack =>
    let rest := x.packsChanged.drop 12
    let x := { x with packsChanged := rest, overflow := false }
    if rest.isEmpty then x else x.mark .pack
  | _ => x

/-- The lowest pending notice is formed and its frame starts (R176), among the classes pending at the end of the step (log 71). -/
def sendNotice (s : State) : State :=
  match s.link.due with
  | none => s
  | some c => { s with link := { s.link.sent c with tx := some (.notice (noticeContent s c)) } }

/-- With the transmitter free, the reply of the oldest request is sent where it is formed, else the lowest pending notice (R174, R176);
nothing once the reply of an accepted RESTART has been sent (R179). -/
def linkPump (s : State) : State :=
  if s.link.tx.isSome || s.link.restart = .flushing then s
  else match s.link.queue with
  | e :: t =>
    match e.stage with
    | .formed r => { s with link := { s.link with queue := t, tx := some (.reply e.asked.replyKind e.mtag r) } }
    | _ => sendNotice s
  | [] => sendNotice s

/-! ### The end of a step -/

/-- JOURNAL becomes pending where free space minus the reserve minus 16 has changed sign since `s₀` (R159). The requests of one step and
the end of the rebuild are each compared by themselves. -/
def signNotice (s₀ s : State) : State := s.markIf (s₀.reserveLeft ≠ s.reserveLeft) .journal

/-- The end of a step that may have touched the journal, from the state `s₀` before it. -/
def finish (s₀ s : State) : State := linkPump (signNotice s₀ (arbPump s))

/-- What a step answers: nothing happens while the part is held in reset (00 "Pins", R168). -/
def live (s : State) (f : State → State) : Host.Outcome State Fault Refusal := .next (if s.inReset then s else f s)

/-! ### Forming replies -/

/-- A refusal with its status alone (R175). -/
def refuse (st : Status) : Stage := .formed ⟨st, .none⟩

/-- An OK reply. -/
def okay (b : Body) : Stage := .formed ⟨.ok, b⟩

/-- The stage of the first untaken entry becomes `st` (R174). -/
def setUntaken (st : Stage) : List Entry → List Entry
  | [] => []
  | e :: t => if e.stage = .untaken then { e with stage := st } :: t else e :: setUntaken st t

/-! ### The supply monitor (R151, R152) -/

/-- The monitor enters WARNING: SAFE_HOLD cause SUPPLY and the flush request, whose report comes at once where the buffer is empty (R151,
R152, R167), at start-up too (log 67). -/
def supplyFalls (s : State) : State :=
  reportFlushed (enterSafeHold ({ s with line := { s.line with monitor := .warning } }.mark .line) .supply)

/-- The monitor returns to NORMAL: the flush request is withdrawn and the flush-done mark cleared (R151, R152). -/
def supplyReturns (s : State) : State :=
  { s with line := { s.line with monitor := .normal, flushDone := false } }.mark .line

/-- The monitor compares the supply as last known with the warning level of the step in force (R151). -/
def compareSupply (s : State) : State :=
  let m := monitorAfter s.feeder.settings.step s.line.supply s.line.monitor
  if m = s.line.monitor then s else if m = .warning then supplyFalls s else supplyReturns s

end Sys2Proof.Machine
end

