-- ==== Sys2Proof/Machine/LinkRequests.lean ====
section
/-! DEFINITION. The line and link requests and the CONFIG requests, each from its checks to its reply (R24 to R26, R60, R68, R87, R107, R122, R142, R145, R148, R166, R176 to R179). -/

namespace Sys2Proof.Machine

/-! ### Line and link (R145, R148, R176 to R179) -/

/-- READ_STATUS (R178). -/
def reqReadStatus (s : State) : State × Stage := (s, okay (.status (statusView s)))

/-- SET_CLOCK (R177). -/
def reqSetClock (s : State) (n : BitVec 32) : State × Stage :=
  ({ s with clock := ⟨n, false⟩ }, okay (.clock ⟨n, false⟩))

/-- RESTART (R179). -/
def reqRestart (s : State) : State × Stage :=
  if s.line.mode = .standby || s.line.mode = .safeHold then
    ({ s with link := { s.link with restart := .accepted } }, okay .none)
  else (s, refuse .wrongMode)

/-- The sections PRODUCTION needs that are not valid (R145; log 18). -/
def State.notValid (s : State) : List Section :=
  [Section.cls, .bay, .zone, .action, .head, .atmosphere, .feed].filter (fun c => !s.writer.valid[sectionIdx c])

/-- An accepted SET_MODE, with the further change of R146 or R147 where one follows. Before the rebuild has ended the custody table is
empty (log 62). -/
def changeMode (s : State) (m : LineMode) : State × Stage :=
  let t := setLineMode s m none
  let t := if m = .drain && t.packs.isEmpty then setLineMode t .standby none else t
  let t := if s.line.mode = .maintenance && !t.doorClosed then enterSafeHold t .door else t
  (t, okay (.mode t.line.mode))

/-- SET_MODE (R145). -/
def reqSetMode (s : State) (v : Byte) : State × Stage :=
  match modeOf v with
  | none => (s, refuse .outOfRange)
  | some m =>
    match s.line.mode, m with
    | .standby, .production =>
      if s.notValid.isEmpty then changeMode s m else (s, .formed ⟨.notConfigured, .notValid s.notValid⟩)
    | .production, .drain => changeMode s m
    | .drain, .production => changeMode s m
    | .production, .standby => changeMode s m
    | .drain, .standby => changeMode s m
    | .maintenance, .standby => changeMode s m
    | .safeHold, _ => (s, refuse .wrongState)
    | .maintenance, _ => (s, refuse .wrongState)
    | _, .maintenance =>
      if s.interlock.state = .stopped && s.feeder.state ≠ .feeding then changeMode s m
      else (s, .formed ⟨.wrongState, .notStopped s.interlock.state s.feeder.state⟩)
    | _, _ => (s, refuse .wrongState)

/-- RESUME (R148). -/
def reqResume (s : State) : State × Stage :=
  if s.line.mode ≠ .safeHold then (s, refuse .wrongState)
  else if s.resumeConditions.met then
    let t := setLineMode s .standby none
    (t, okay (.mode t.line.mode))
  else (s, .formed ⟨.wrongState, .resumeConditions s.resumeConditions⟩)

/-- The Link Port once its subscribed set is `c` (R176). -/
def Link.subscribe (x : Link) (c : BitVec 7) : Link :=
  let added := c &&& ~~~x.subscribed
  let removed := x.subscribed &&& ~~~c
  let has (k : NoticeClass) (v : BitVec 7) : Bool := v &&& noticeBit k ≠ 0#7
  { x with
    subscribed := c
    noticePending := (x.noticePending &&& c) ||| added
    baysChanged := if has .bay added then 0xff#8 else if has .bay removed then 0#8 else x.baysChanged
    packsChanged := if has .pack removed then [] else x.packsChanged
    overflow := if has .pack added then true else if has .pack removed then false else x.overflow }

/-- SUBSCRIBE (R176). -/
def reqSubscribe (s : State) (v : Byte) : State × Stage :=
  match classSetOf v with
  | none => (s, refuse .outOfRange)
  | some c => ({ s with link := s.link.subscribe c }, okay (.classSet c))

/-! ### Configuration -/

/-- The reply of an accepted CONFIG request, sent when its section's rewrite completes (R166, R175). -/
def rewriteReply (sec : Section) (clamped : Bool) (b : Body) : Stage :=
  .waiting (.rewrite sec false ⟨clampStatus clamped, b⟩)

/-- Every DISCHARGING bay with a pack of class `c` forms its request again (R58): in bay order (R61, log 55), and a bay that has left the
arbiter because its TRIP or quarantine event is held keeps its figures (R155, log 56). -/
def renewClass (s : State) (c : ClassId) : State :=
  allBays.foldl (fun s b =>
    if (s.bay b).participant && (s.bayPack b).any (fun p => p.cls = c) then renewRequest s b else s) s

/-- CONFIG_CLASS (R26). -/
def reqConfigClass (s : State) (a : ClassArgs) : State × Stage :=
  match classOf a.cls with
  | none => (s, refuse .outOfRange)
  | some c =>
    let v := classApplied a
    let s := renewClass { s with classes := vput s.classes c (some v) } c
    (askRewrite s .cls, rewriteReply .cls (v ≠ classSent a) (.cls v))

/-- CONFIG_BAY is taken in EMPTY, LOCKED, or PLACED with RESTART present (R24). -/
def Bay.takesConfig (x : Bay) : Bool :=
  x.state = .empty || x.state = .locked || (x.state = .placed && x.holds.restart)

/-- The zones that an asserted pack-over-limit report leaves and joins, in ascending number (R88, R90). -/
def movedZones (o : Option ZoneId) (z : ZoneId) : List ZoneId :=
  match o with
  | none => [z]
  | some y => if y = z then [z] else if y < z then [y, z] else [z, y]

/-- CONFIG_BAY (R24, R25): the settings, hold reason ZONE re-tested (R110), and an asserted report moved between zones (R90). -/
def reqConfigBay (s : State) (a : BayArgs) : State × Stage :=
  match bayOf a.bay, zoneOf a.zone with
  | some b, some z =>
    let x := s.bay b
    if x.takesConfig then
      let v := bayApplied a z
      let s := s.setBay b { x with settings := some v }
      let s := setHolds s b (holdsFrom s b)
      let s := if x.overLimit then refreshZones s (movedZones (x.settings.map BaySettings.zone) z) .thermal else s
      (askRewrite s .bay, rewriteReply .bay (v ≠ baySent a z) (.bay v))
    else (s, refuse .wrongState)
  | _, _ => (s, refuse .outOfRange)

/-- CONFIG_BUDGET (R60). -/
def reqConfigBudget (s : State) (w : BitVec 16) (e : Byte) : State × Stage :=
  let v := budgetApplied w e
  let t := { s with budget := v }
  let t := if s.effective = t.effective then t else regrant t
  (askRewrite t .budget, rewriteReply .budget (v ≠ budgetSent w e) (.budget v))

/-- Another zone holds role `r` (R87). -/
def roleTaken (s : State) (z : ZoneId) (r : Role) : Bool :=
  r ≠ .none && allZones.any (fun w => w ≠ z && s.hasRole w r)

/-- CONFIG_ZONE (R87): the settings, a quench pulse ended where quench is turned off, and the zone evaluated. The two flags are tested with
zone and role, before the zone's state (log 65). -/
def reqConfigZone (s : State) (a : ZoneArgs) : State × Stage :=
  match zoneOf a.zone, roleOf a.role, flagOf a.coincidence, flagOf a.quenchEnable with
  | some z, some r, some c, some q =>
    let x := s.zone z
    if x.main ≠ .normal then (s, refuse .wrongState)
    else if roleTaken s z r then (s, refuse .duplicate)
    else
      let sent := zoneSent a c q r
      let v := zoneApplied sent
      let x := { x with settings := v }
      let x := if q then x else { x with quench := false, quenchTimer := none }
      let s := evaluateZone (putZone s z x) z .config false
      (askRewrite s .zone, rewriteReply .zone (v ≠ sent) (.zone v))
  | _, _, _, _ => (s, refuse .outOfRange)

/-- A zone's cells with one replaced (R107). -/
def ZoneCells.put (x : ZoneCells) (c : Column) (v : ActionCell) : ZoneCells :=
  match c with
  | .preAlarm => { x with preAlarm := v }
  | .alarm => { x with alarm := v }
  | .released => { x with released := v }
  | .fault => { x with fault := v }

/-- CONFIG_ACTION (R107): the cell, and the effect set formed afresh. -/
def reqConfigAction (s : State) (zone column actions pct : Byte) : State × Stage :=
  match zoneOf zone, columnOf column, actionsOf actions with
  | some z, some c, some k =>
    let v : ActionCell := ⟨k, min 100 pct.toNat⟩
    let s := formEffects { s with cells := vput s.cells z (s.cells[z].put c v) }
    (askRewrite s .action, rewriteReply .action (decide (100 < pct.toNat)) (.cell v))
  | _, _, _ => (s, refuse .outOfRange)

/-- The poll cursor after the entry at `a` has been enrolled or withdrawn; `x` is the loop after the change (R72). -/
def Loop.cursorAfter (x : Loop) (a : HeadAddr) (enrolled : Bool) : Option HeadAddr :=
  if enrolled then some (x.cursor.getD a)
  else if x.cursor = some a then x.nextAfter a else x.cursor

/-- The head entry at `a` on loop `l` set to `h` by CONFIG_HEAD: the cursor follows, the stranger flag is cleared, and a polled head
withdrawn leaves its POLL and its answer window running (R68, R72, R78, log 49). -/
def setEnrollment (s : State) (l : LoopId) (a : HeadAddr) (h : Option Head) : State :=
  let s := putHead s l a h
  let x := { s.loop l with stranger := false, lastStranger := none }
  putLoop s l { x with
    cursor := x.cursorAfter a h.isSome
    orphan := x.orphan || (h.isNone && x.polled = some a) }

/-- The entry an accepted enrollment sets (R68). -/
def freshHead (k : HeadKind) (z : ZoneId) (short : Bool) : Head :=
  ⟨k, z, false, if short then .missing else .normal, 0, if short then 3 else 0, false⟩

/-- Zone Logic takes an enrollment, re-enrollment or withdrawal: the old zone and the new, in ascending number (R84, R88). -/
def handEnrollment (s : State) (l : LoopId) (a : HeadAddr) (o n : Option ZoneId) : State :=
  match o, n with
  | none, none => s
  | some y, none => refreshZone s y .other
  | none, some z => refreshZone s z (.head l a)
  | some y, some z =>
    if y = z then refreshZone s z (.head l a)
    else if y < z then refreshZone (refreshZone s y .other) z (.head l a)
    else refreshZone (refreshZone s z (.head l a)) y .other

/-- CONFIG_HEAD, its identifiers read: the zone checks of R68, then the entry set and handed on. -/
def configHeadAt (s : State) (l : LoopId) (a : HeadAddr) (e : Option Enrollment) : State × Stage :=
  let o := s.head l a
  let out (z : Option ZoneId) : Bool := z.any (fun z => (s.zone z).main ≠ .normal)
  if out (o.map Head.zone) || out (e.map Enrollment.zone) then (s, refuse .wrongState)
  else
    let h := e.map (fun e => freshHead e.kind e.zone ((s.loop l).state = .short))
    let t := handEnrollment (setEnrollment s l a h) l a (o.map Head.zone) (e.map Enrollment.zone)
    (askRewrite t .head, rewriteReply .head false (.head l a (t.head l a)))

/-- CONFIG_HEAD (R68); kind and zone are unchecked when enrolled is 0 (R180). -/
def reqConfigHead (s : State) (loop addr enrolled kind zone : Byte) : State × Stage :=
  match loopOf loop, addrOf addr, flagOf enrolled with
  | some l, some a, some false => configHeadAt s l a none
  | some l, some a, some true =>
    match kindOf kind, zoneOf zone with
    | some k, some z => configHeadAt s l a (some ⟨k, z⟩)
    | _, _ => (s, refuse .outOfRange)
  | _, _, _ => (s, refuse .outOfRange)

/-- CONFIG_ATMOSPHERE (R122), taken only in AIR. -/
def reqConfigAtmosphere (s : State) (a : AtmArgs) : State × Stage :=
  if s.atm.state ≠ .air then (s, refuse .wrongState)
  else
    let v := atmApplied (atmSent a)
    let s := { s with atm := { s.atm with settings := v }, feeder := { s.feeder with resettle := v.resettle } }
    (askRewrite s .atmosphere, rewriteReply .atmosphere (v ≠ atmSent a) (.atmosphere v))

/-- CONFIG_FEED (R142): the supply monitor applies the new step at once (R151). -/
def reqConfigFeed (s : State) (t st : Byte) : State × Stage :=
  let v := feedApplied t st
  let s := compareSupply { s with feeder := { s.feeder with settings := v } }
  (askRewrite s .feed, rewriteReply .feed (v ≠ feedSent t st) (.feed v))

/-- READ_CONFIG (R166, R180). -/
def reqReadConfig (s : State) (v : Byte) : State × Stage :=
  match sectionOf v with
  | none => (s, refuse .outOfRange)
  | some c => (s, okay (.config s.writer.valid[sectionIdx c] (sectionData s c)))

end Sys2Proof.Machine
end

