-- ==== Sys2Proof/Machine/CustodyRequests.lean ====
section
/-! DEFINITION. The custody and lot requests, each from its checks in order to its reply (R4 to R12, R17 to R22). -/

namespace Sys2Proof.Machine

/-! ### Lots (R18, R19) -/

/-- An OPEN_LOT that passed its checks (R18). -/
def openLotAccepted (s : State) (n : Tag) : State :=
  let l : Lot := ⟨n, .opened, 0, 0, 0, 0, 0, 0, 1, s.writer.nextSeq⟩
  writeLot { s with lots := s.lots ++ [l] } n .lotOpen .opened .none

/-- OPEN_LOT (R18). -/
def reqOpenLot (s : State) (n : Tag) : State × Stage :=
  if n = 0#32 then (s, refuse .outOfRange)
  else if (s.lot n).isSome then (s, refuse .duplicate)
  else if s.openLot.isSome then (s, refuse .wrongState)
  else if 4 ≤ s.lots.length then (s, refuse .full)
  else if s.freeSpace < s.reserve + 3 then (s, refuse .noReserve)
  else if s.bufferShort then (s, refuse .busy)
  else (openLotAccepted s n, okay .none)

/-- A CLOSE_LOT that passed its checks: CLOSING, LOT_CLOSE, and final at once where no pack is in custody (R19). -/
def closeLotAccepted (s : State) (l : Lot) : State :=
  let s := writeLot (s.setLot { l with state := .closing, written := 2 }) l.number .lotClose .closing .none
  finalizeLot s l.number

/-- CLOSE_LOT (R19). -/
def reqCloseLot (s : State) (n : Tag) : State × Stage :=
  if n = 0#32 then (s, refuse .outOfRange)
  else match s.lot n with
  | none => (s, refuse .notFound)
  | some l =>
    if l.state = .closing then (s, refuse .wrongState)
    else if s.bufferShort then (s, refuse .busy)
    else
      let t := closeLotAccepted s l
      (t, okay (.lotState (((t.lot n).map Lot.state).getD .final)))

/-! ### ADMIT (R4, R5) -/

/-- The class of an ADMIT whose fields lie in their ranges (R4, checks 1 and 2). -/
def admitClass (a : AdmitArgs) : Option ClassId :=
  if a.tag ≠ 0#32 && decide (1 ≤ a.cells.toNat ∧ a.cells.toNat ≤ 240)
      && decide (1 ≤ a.capacity.toNat ∧ a.capacity.toNat ≤ 10000)
      && decide (1 ≤ a.mass.toNat ∧ a.mass.toNat ≤ 20000) && decide (a.ocv.toNat ≤ 100000) then
    classOf a.cls
  else none

/-- The entry an ADMIT creates before its record is counted; RELEASED where the declared OCV is at or below the release voltage (R5). -/
def admittedPack (s : State) (a : AdmitArgs) (c : ClassId) (l : Lot) : Pack :=
  let p : Pack :=
    { tag := a.tag, lot := l.number, cls := c, cells := a.cells.toNat, capacity := a.capacity.toNat, mass := a.mass.toNat
      ocv := a.ocv.toNat, state := .intake, bay := none, energy := 0, gap := false, trips := 0, rebounds := 0, charge := 0
      firstRecord := s.writer.nextSeq, exposure := none, reason := none }
  if p.ocv ≤ s.releaseVoltage p then { p with state := .released } else p

/-- An ADMIT that passed its checks (R5). -/
def admitAccepted (s : State) (p : Pack) (l : Lot) : State :=
  let s := { s with packs := s.packs ++ [p] }.setLot { l with admitted := l.admitted + 1 }
  writePack s p .admitted none (.admitted p.cls p.cells p.capacity p.mass p.ocv (p.state = .released))

/-- ADMIT (R4, R5). -/
def reqAdmit (s : State) (a : AdmitArgs) : State × Stage :=
  match admitClass a with
  | none => (s, refuse .outOfRange)
  | some c =>
    if s.line.mode = .drain || s.line.mode = .safeHold then (s, refuse .wrongMode)
    else match s.openLot with
    | none => (s, refuse .noLot)
    | some l =>
      if (s.classes[c]).isNone then (s, refuse .notConfigured)
      else if (s.pack a.tag).isSome then (s, refuse .duplicate)
      else if 48 ≤ s.packs.length then (s, refuse .full)
      else if !s.reserveLeft then (s, refuse .noReserve)
      else if s.bufferShort then (s, refuse .busy)
      else
        let p := admittedPack s a c l
        (admitAccepted s p l, okay (.admitted p.state p.firstRecord))

/-! ### PLACE, STAGE, QUARANTINE, REMOVE, CLEAR_EXPOSURE (R6 to R10) -/

/-- The channel that receives a pack (R31, R45). -/
def Bay.receive (x : Bay) (t : Tag) : Bay :=
  { x with
    state := .placed, pack := some t, dischargeMs := 0, clearMs := 0, retryCount := 0, sustained := 0
    lastValid := none, averages := none, block := none, blockWaitsValid := false, reversalDue := true }

/-- A PLACE that passed its checks (R6). -/
def placeAccepted (s : State) (p : Pack) (b : BayId) : State :=
  let s := writePack s { p with state := .inBay, bay := some b } .placed (some b) .none
  putBay s b ((s.bay b).receive p.tag)

/-- PLACE (R6). -/
def reqPlace (s : State) (t : Tag) (bay : Byte) : State × Stage :=
  match bayOf bay with
  | none => (s, refuse .outOfRange)
  | some b =>
    if t = 0#32 then (s, refuse .outOfRange)
    else if s.line.mode = .drain || s.line.mode = .safeHold then (s, refuse .wrongMode)
    else match s.pack t with
    | none => (s, refuse .notFound)
    | some p =>
      if p.state ≠ .intake then (s, refuse .wrongState)
      else if (s.bay b).settings.isNone then (s, refuse .notConfigured)
      else if (s.bay b).state ≠ .empty then (s, refuse .wrongState)
      else if s.bufferShort then (s, refuse .busy)
      else (placeAccepted s p b, okay (.packState (some .inBay)))

/-- The channel whose pack has left: the residue, the pack and its pack-over-limit report gone (R29, R45). -/
def Bay.release (x : Bay) : Bay := { x with pack := none, residue := 0, overLimit := false }

/-- The channel in EMPTY (R42, R45, R46). -/
def Bay.toEmpty (x : Bay) : Bay :=
  { x with state := .empty, holds := { x.holds with requested := false, restart := false } }

/-- Bay `b` gives up its pack and becomes `x`; where its pack-over-limit report was asserted its zone takes the withdrawal (R29, R90). -/
def vacate (s : State) (b : BayId) (x : Bay) : State :=
  let was := (s.bay b).overLimit
  let s := putBay s b x
  if was then thermalChange s b else s

/-- The reply to a request whose pack the record-charge limit quarantined instead (R7, R10, R47). -/
def limited : Stage := .formed ⟨.wrongState, .packState (some .quarantined)⟩

/-- A STAGE that passed its checks, below record charge 14: the tag joins the queue, the bay becomes EMPTY, a READY feeder may feed it (R7, R138). -/
def stageAccepted (s : State) (p : Pack) : State :=
  let s := writePack { s with queue := s.queue ++ [p.tag] } { p with state := .staged, bay := none } .stage p.bay .none
  let s := match p.bay with
    | some b => vacate s b (s.bay b).release.toEmpty
    | none => s
  tryFeed s

/-- STAGE (R7). -/
def reqStage (s : State) (t : Tag) : State × Stage :=
  if t = 0#32 then (s, refuse .outOfRange)
  else match s.pack t with
  | none => (s, refuse .notFound)
  | some p =>
    if p.state ≠ .released then (s, refuse .wrongState)
    else if p.exposure.any (fun e => !e.cleared) then (s, refuse .wrongState)
    else if 12 ≤ s.queue.length then (s, refuse .full)
    else if s.bufferShort then (s, refuse .busy)
    else if 14 ≤ p.charge then (quarantinePack s p .recordLimit, limited)
    else (stageAccepted s p, okay (.packState (some .staged)))

/-- QUARANTINE (R8). -/
def reqQuarantine (s : State) (t : Tag) : State × Stage :=
  if t = 0#32 then (s, refuse .outOfRange)
  else match s.pack t with
  | none => (s, refuse .notFound)
  | some p =>
    if p.state = .feeding || p.state = .quarantined then (s, refuse .wrongState)
    else if s.bufferShort then (s, refuse .busy)
    else (quarantinePack s p .requested, okay (.packState (some .quarantined)))

/-- A REMOVE that passed its checks: the exit, the bay LOCKED-empty, and the empty-table report (R9, R17, R45). -/
def removeAccepted (s : State) (p : Pack) : State :=
  let t := exitPack s p .removed false
  let t := match p.bay with
    | some b => vacate t b (t.bay b).release
    | none => t
  reportEmpty s t

/-- REMOVE (R9). -/
def reqRemove (s : State) (t : Tag) : State × Stage :=
  if t = 0#32 then (s, refuse .outOfRange)
  else match s.pack t with
  | none => (s, refuse .notFound)
  | some p =>
    if p.state ≠ .intake && p.state ≠ .quarantined then (s, refuse .wrongState)
    else if s.bufferShort then (s, refuse .busy)
    else (removeAccepted s p, okay .none)

/-- CLEAR_EXPOSURE (R10). -/
def reqClearExposure (s : State) (t : Tag) : State × Stage :=
  if t = 0#32 then (s, refuse .outOfRange)
  else match s.pack t with
  | none => (s, refuse .notFound)
  | some p =>
    match p.exposure with
    | none => (s, refuse .wrongState)
    | some e =>
      let q := { p with exposure := some { e with cleared := true } }
      if e.cleared || p.state = .quarantined then (s, refuse .wrongState)
      else if s.bufferShort then (s, refuse .busy)
      else if p.charge < 14 then
        (writePack s q .exposeClear p.bay (.incident e.incident), okay (.packState (some p.state)))
      else if p.state = .feeding then (putPack s q, okay (.packState (some .feeding)))
      else (quarantinePack s p .recordLimit, limited)

/-! ### Reading (R22) -/

/-- READ_PACK (R22). -/
def reqReadPack (s : State) (t : Tag) : State × Stage :=
  if t = 0#32 then (s, refuse .outOfRange)
  else match s.pack t with
  | none => (s, refuse .notFound)
  | some p => (s, okay (.pack p (positionIn s.queue t)))

/-- READ_LOT (R22). -/
def reqReadLot (s : State) (n : Tag) : State × Stage :=
  if n = 0#32 then (s, refuse .outOfRange)
  else match s.lot n with
  | none => (s, refuse .notFound)
  | some l => (s, okay (.lot l l.inCustody))

/-- READ_QUEUE (R22). -/
def reqReadQueue (s : State) : State × Stage :=
  (s, okay (.queue s.queue ((s.queue.head?.bind s.pack).map Pack.state)))

end Sys2Proof.Machine
end

