-- ==== Sys2Proof/Machine/BayRequests.lean ====
section
/-! DEFINITION. The bay requests and CLEAR_PEAKS, each from its checks to its reply (R30, R44, R46 to R48, R130). -/

namespace Sys2Proof.Machine

/-- The bay is EMPTY or LOCKED (R44). -/
def Bay.idle (x : Bay) : Bool := x.state = .empty || x.state = .locked

/-- PAUSE_BAY where `on`, CONTINUE_BAY otherwise: REQUESTED added or removed, with the effects of R43 (R44). -/
def requestHold (s : State) (bay : Byte) (on : Bool) : State × Stage :=
  match bayOf bay with
  | none => (s, refuse .outOfRange)
  | some b =>
    if (s.bay b).idle then (s, refuse .wrongState)
    else
      let t := setHolds s b { (s.bay b).holds with requested := on }
      (t, okay (.holds (t.bay b).holds))

/-- PAUSE_BAY (R44). -/
def reqPauseBay (s : State) (bay : Byte) : State × Stage := requestHold s bay true

/-- CONTINUE_BAY (R44). -/
def reqContinueBay (s : State) (bay : Byte) : State × Stage := requestHold s bay false

/-- The channel once its CONFIRM record is written: RESTART removed, the block discarded, a new one with the next valid sample (R47). -/
def Bay.confirmed (x : Bay) : Bay :=
  { x with holds := { x.holds with restart := false }, block := none, blockWaitsValid := true }

/-- A CONFIRM_BAY that passed its checks: the CONFIRM record, or the record-charge limit (R12, R47). -/
def confirmAccepted (s : State) (b : BayId) (p : Pack) : State × Stage :=
  match otherRecord s p p .confirm (some b) .none with
  | (t, .continued) =>
    let t := putBay t b (t.bay b).confirmed
    (t, okay (.packState (some p.state)))
  | (t, _) => (t, limited)

/-- CONFIRM_BAY (R47). -/
def reqConfirmBay (s : State) (bay : Byte) : State × Stage :=
  match bayOf bay with
  | none => (s, refuse .outOfRange)
  | some b =>
    let x := s.bay b
    match s.bayPack b with
    | none => (s, refuse .wrongState)
    | some p =>
      if !(x.state = .placed && x.holds.restart) then (s, refuse .wrongState)
      else if x.settings.isNone || (s.classes[p.cls]).isNone then (s, refuse .notConfigured)
      else if s.bufferShort then (s, refuse .busy)
      else confirmAccepted s b p

/-- UNLOCK_BAY (R46). -/
def reqUnlockBay (s : State) (bay : Byte) : State × Stage :=
  match bayOf bay with
  | none => (s, refuse .outOfRange)
  | some b =>
    let x := s.bay b
    if x.state = .locked && x.pack.isNone then (putBay s b x.toEmpty, okay (.bayState .empty))
    else (s, refuse .wrongState)

/-- READ_BAY (R48, R66). -/
def reqReadBay (s : State) (bay : Byte) : State × Stage :=
  match bayOf bay with
  | none => (s, refuse .outOfRange)
  | some b => (s, okay (.bayView (bayView s b)))

/-- The channel with its peaks cleared: set to the last valid sample, absent where there is none (R30). -/
def Bay.clearPeaks (x : Bay) : Bay :=
  { x with peaks := x.lastValid.map (fun u => ⟨u.current, u.heatsink, u.packTemp⟩) }

/-- The peaks of bay `b` cleared (R30). -/
def clearBayPeaks (s : State) (b : BayId) : State := s.setBay b (s.bay b).clearPeaks

/-- The oxygen peak cleared: the control value in force with the line clock in INERT and DRIFT, absent otherwise (R130). -/
def clearOxygenPeak (s : State) : State :=
  let p := if s.atm.runCondition then s.atm.control.map (fun v => OxyPeak.mk v s.clock) else none
  { s with atm := { s.atm with peak := p } }

/-- CLEAR_PEAKS (R30, R130). -/
def reqClearPeaks (s : State) (target : Byte) : State × Stage :=
  match targetOf target with
  | none => (s, refuse .outOfRange)
  | some (.bay b) => (clearBayPeaks s b, okay .none)
  | some .allBays => (allBays.foldl clearBayPeaks s, okay .none)
  | some .oxygen => (clearOxygenPeak s, okay .none)

end Sys2Proof.Machine
end

