-- ==== Sys2Proof/Machine/ZoneRequests.lean ====
section
/-! DEFINITION. The zone, head and loop requests, each from its checks to its reply (R79, R82, R85, R99, R100, R105). -/

namespace Sys2Proof.Machine

/-- The zone record after steps 1 to 4 of an accepted RESET_ZONE (R100). -/
def Zone.cleared (x : Zone) : Zone :=
  { x with
    main := .normal, suppression := false, sparks := 0, consecutive := 0, window := none
    release := .idle, holdTimer := none, holdUsed := false }

/-- A RESET_ZONE that passed its checks: the record, the incident closed where it ends, the Action Matrix, and the evaluation that
follows a reset (R93, R100). -/
def resetAccepted (s : State) (z : ZoneId) : State :=
  let s := putZone s z (s.zone z).cleared
  let s := (formEffects (closeIncident s)).mark .zone
  evaluateZone s z .other false

/-- RESET_ZONE (R100). -/
def reqResetZone (s : State) (zone : Byte) : State × Stage :=
  match zoneOf zone with
  | none => (s, refuse .outOfRange)
  | some z =>
    let x := s.zone z
    if x.main = .normal || x.main = .preAlarm || x.alarmHolds || x.preHolds then (s, refuse .wrongState)
    else
      let t := resetAccepted s z
      (t, okay (.zoneMain (t.zone z).main))

/-- HOLD_RELEASE (R99). -/
def reqHoldRelease (s : State) (zone : Byte) : State × Stage :=
  match zoneOf zone with
  | none => (s, refuse .outOfRange)
  | some z =>
    let x := s.zone z
    match x.release with
    | .running ms =>
      if x.holdUsed then (s, refuse .wrongState)
      else
        (putZone s z { x with release := .paused ms, holdTimer := some (1000 * x.settings.holdTime), holdUsed := true },
          okay (.releaseMs ms))
    | .idle => (s, refuse .wrongState)
    | .paused _ => (s, refuse .wrongState)

/-- The isolated flag of the head at `a` on loop `l` becomes `on`; a change goes to the head's zone with its present level (R79, R84). -/
def setIsolation (s : State) (l : LoopId) (a : HeadAddr) (h : Head) (on : Bool) : State :=
  if h.isolated = on then s
  else
    let s := putHead s l a (some { h with isolated := on })
    refreshZone s h.zone (if on then .other else .head l a)

/-- ISOLATE_HEAD where `on`, RESTORE_HEAD otherwise (R79). -/
def isolation (s : State) (loop addr : Byte) (on : Bool) : State × Stage :=
  match loopOf loop, addrOf addr with
  | some l, some a =>
    match s.head l a with
    | none => (s, refuse .notFound)
    | some h => (setIsolation s l a h on, okay (.level h.level on))
  | _, _ => (s, refuse .outOfRange)

/-- ISOLATE_HEAD (R79). -/
def reqIsolateHead (s : State) (loop addr : Byte) : State × Stage := isolation s loop addr true

/-- RESTORE_HEAD (R79). -/
def reqRestoreHead (s : State) (loop addr : Byte) : State × Stage := isolation s loop addr false

/-- The broadcast a LOOP_TEST waits for: the one already waiting, else TEST_END on an open window and TEST_START on a closed one (R82). -/
def Loop.testBroadcast (x : Loop) : Broadcast :=
  if x.waiting.any (· = .testStart) then .testStart
  else if x.waiting.any (· = .testEnd) || x.testing then .testEnd
  else .testStart

/-- A broadcast waits at the tail, unless it waits already (R82, R83). -/
def Loop.await (x : Loop) (b : Broadcast) : Loop :=
  if x.waiting.any (· = b) then x else { x with waiting := x.waiting ++ [b] }

/-- LOOP_TEST (R82). -/
def reqLoopTest (s : State) (loop : Byte) : State × Stage :=
  match loopOf loop with
  | none => (s, refuse .outOfRange)
  | some l =>
    let x := s.loop l
    if x.state = .short then (s, refuse .wrongState)
    else
      let b := x.testBroadcast
      (s.setLoop l (x.await b), .waiting (.broadcast l (b = .testStart)))

/-- READ_ZONE (R105). -/
def reqReadZone (s : State) (zone : Byte) : State × Stage :=
  match zoneOf zone with
  | none => (s, refuse .outOfRange)
  | some z => (s, okay (.zoneView (zoneView s z)))

/-- READ_HEAD (R85). -/
def reqReadHead (s : State) (loop addr : Byte) : State × Stage :=
  match loopOf loop, addrOf addr with
  | some l, some a => (s, okay (.headView (headView s l a)))
  | _, _ => (s, refuse .outOfRange)

end Sys2Proof.Machine
end

