-- ==== Sys2Proof/Machine/PlantRequests.lean ====
section
/-! DEFINITION. The atmosphere, shredder and feed requests, each from its checks to its reply (R125, R129a, R131, R134, R136, R140, R143). -/

namespace Sys2Proof.Machine

/-! ### Atmosphere (R125, R129a, R131) -/

/-- The chamber an accepted INERT_START leaves: PURGING, then the control value in force taken (R125, R126). -/
def Atmosphere.purge (x : Atmosphere) : Atmosphere :=
  let y := { x with state := .purging, cause := none, maxPurge := some (1000 * x.settings.maxPurge) }
  match y.control with
  | some v => y.takes v
  | none => y

/-- INERT_START (R125). -/
def reqInertStart (s : State) : State × Stage :=
  let x := s.atm
  if x.state ≠ .air && x.state ≠ .fault then (s, refuse .wrongState)
  else if !s.doorClosed then (s, refuse .wrongState)
  else if x.sensorFail then (s, refuse .wrongState)
  else
    let t := putAtm s x.purge
    (t, okay (.atmState t.atm.state))

/-- The chamber an accepted INERT_STOP leaves: AIR, no timer, not settled, no fault cause (R129a). -/
def Atmosphere.toAir (x : Atmosphere) : Atmosphere :=
  { x with state := .air, settled := false, cause := none, maxPurge := none, settle := none }

/-- INERT_STOP (R129a). -/
def reqInertStop (s : State) : State × Stage :=
  if s.atm.state = .air then (s, okay (.atmState .air))
  else if s.interlock.state ≠ .stopped then (s, refuse .wrongState)
  else if s.feeder.state = .feeding then (s, refuse .wrongState)
  else (putAtm s s.atm.toAir, okay (.atmState .air))

/-- READ_ATMOSPHERE (R131). -/
def reqReadAtmosphere (s : State) : State × Stage := (s, okay (.atmView (atmView s)))

/-! ### Shredder (R134, R136) -/

/-- A refusal of SHRED_START, with the five conditions as they stand (R134). -/
def refuseStart (s : State) (st : Status) : Stage := .formed ⟨st, .runConditions s.runConditions⟩

/-- SHRED_START (R134). -/
def reqShredStart (s : State) : State × Stage :=
  let x := s.interlock
  if x.state ≠ .stopped then (s, refuseStart s .wrongState)
  else if s.feedback then (s, refuseStart s .wrongState)
  else if !s.runConditions.mode then (s, refuseStart s .wrongMode)
  else if !s.runConditions.met then (s, refuseStart s .wrongState)
  else (moveInterlock s { x with state := .starting, startTimer := some 10000 }, okay (.interlock .starting))

/-- SHRED_STOP (R136). -/
def reqShredStop (s : State) : State × Stage :=
  let x := s.interlock
  match x.state with
  | .starting | .running => (moveInterlock s x.stop, okay (.interlock .stopping))
  | .stopping => (s, okay (.interlock .stopping))
  | .stopped => (s, okay (.interlock .stopped))
  | .fault =>
    if s.feedback then (s, refuse .wrongState)
    else (moveInterlock s { x with state := .stopped, cause := none }, okay (.interlock .stopped))

/-! ### Feed (R140, R143) -/

/-- The pack event an outcome of FEED_CLEAR submits (R140). -/
def outcomeEvent (o : FeedOutcome) (t : Tag) : PackEvent :=
  match o with
  | .fed => .fed t true
  | .removed => .feedRemoved t

/-- A FEED_CLEAR that passed its checks; its reply waits where its event is held (R140, R155). -/
def feedClearAccepted (s : State) (o : FeedOutcome) (t : Tag) : State × Stage :=
  let u := finishFeed s (outcomeEvent o t)
  (u, if u.held.any (· = outcomeEvent o t) then .waiting (.feedEvent t) else okay (.packState ((u.pack t).map Pack.state)))

/-- FEED_CLEAR (R140). The feeder event of a jam already being ended is awaited with BUSY (log 14). -/
def reqFeedClear (s : State) (outcome : Byte) : State × Stage :=
  match outcomeOf outcome with
  | none => (s, refuse .outOfRange)
  | some o =>
    if s.feeder.state ≠ .jammed then (s, refuse .wrongState)
    else match s.feeder.tag with
    | none => (s, refuse .wrongState)
    | some t => if s.bufferShort || s.feederWaits then (s, refuse .busy) else feedClearAccepted s o t

/-- READ_FEED (R143). -/
def reqReadFeed (s : State) : State × Stage := (s, okay (.feedView (feedView s)))

end Sys2Proof.Machine
end

