-- ==== Sys2Proof/Machine/JournalRequests.lean ====
section
/-! DEFINITION. READ_JOURNAL, EXPORT_MARK and READ_INCIDENT, and what a completed read answers (R160, R163, R165). -/

namespace Sys2Proof.Machine

/-! ### READ_JOURNAL (R163) -/

/-- The record of sequence `n` in the buffer. -/
def State.buffered (s : State) (n : Nat) : Option Record := (s.writer.buffer.find? (fun b => b.record.seq = n)).map Buffered.record
/-- The record of sequence `n` in the journal area, where its slot passes its check. -/
def State.stored (s : State) (n : Nat) : Option Record := (journalRecords s.nv.journal).find? (fun r => r.seq = n)

/-- The oldest present record's sequence; with no record present, the next sequence to be given (R163, log 42). -/
def State.oldest (s : State) : Nat :=
  ((journalRecords s.nv.journal).map Record.seq ++ s.writer.buffer.map (fun b => b.record.seq)).min?.getD s.writer.nextSeq

/-- The sequences a READ_JOURNAL asks for: from `n`, up to `count`, none past the newest (R163). -/
def State.askedSeqs (s : State) (n count : Nat) : List Nat :=
  ((List.range count).map (fun i => n + i)).filter (fun k => decide (k < s.writer.nextSeq))

/-- One sequence of a READ_JOURNAL reply (R163); one that no slot holds is unreadable too (log 53). -/
def State.journalItem (s : State) (n : Nat) : JournalItem :=
  match s.buffered n with
  | some r => .record r
  | none =>
    match s.stored n with
    | some r => .record r
    | none => .unreadable n

/-- What a READ_JOURNAL replies once what it asks for has been read (R163). -/
def State.journalReply (s : State) (n count : Nat) : Reply := ⟨.ok, .journal ((s.askedSeqs n count).map s.journalItem)⟩

/-- A read joins the operations of priority 4. -/
def queueRead (s : State) (op : ReadOp) : State := { s with writer := { s.writer with reads := s.writer.reads ++ [op] } }

/-- READ_JOURNAL (R163). -/
def reqReadJournal (s : State) (start : BitVec 32) (count : Byte) : State × Stage :=
  let n := start.toNat
  let k := count.toNat
  if k = 0 || decide (6 < k) then (s, refuse .outOfRange)
  else if n < s.oldest then (s, refuse .notFound)
  else if (s.askedSeqs n k).all (fun i => (s.buffered i).isSome) then (s, .formed (s.journalReply n k))
  else (queueRead s (.journal n k), .waiting (.read (.journal n k)))

/-! ### EXPORT_MARK (R160) -/

/-- The clamp of the export mark: it also regards the tables a rebuild has still to put in place (R160, log 21). -/
def State.clamp (s : State) : Nat :=
  let r : Tables := s.rebuilt.getD ⟨[], [], []⟩
  ((s.packs ++ r.packs).map (fun (p : Pack) => p.firstRecord - 1)
    ++ (s.lots ++ r.lots).map (fun (l : Lot) => l.opening - 1)).foldl min s.newest

/-- The export mark raised to `n`: slots for waiting records, the erase it calls for, the EXPORT rewrite (R157, R158, R160, R166). -/
def raiseMark (s : State) (n : Nat) : State :=
  let s := { s with writer := { s.writer with mark := n } }.mark .journal
  askRewrite (eraseAhead (assignWaiting s)) .exported

/-- EXPORT_MARK (R160). -/
def reqExportMark (s : State) (seq : BitVec 32) : State × Stage :=
  let n := seq.toNat
  let m := s.writer.mark
  if n ≤ m then (s, okay (.mark m))
  else
    let c := s.clamp
    let t := min n c
    let r : Reply := ⟨clampStatus (decide (c < n)), .mark (max m t)⟩
    if t ≤ m then (s, .formed r) else (raiseMark s t, .waiting (.rewrite .exported false r))

/-! ### READ_INCIDENT (R165) -/

/-- The open part of incident `n` in the incident buffer. -/
def openWaiting (l : List IncidentPart) (n : BitVec 16) : Option OpenPart :=
  l.findSome? (fun p => match p with | .opened o => if o.number = n then some o else none | .closed _ => none)
/-- The close part of incident `n` in the incident buffer. -/
def closeWaiting (l : List IncidentPart) (n : BitVec 16) : Option ClosePart :=
  l.findSome? (fun p => match p with | .closed c => if c.number = n then some c else none | .opened _ => none)

/-- The open part of incident `n` that its slot holds with a passing check. -/
def IncidentSlot.openOf (x : IncidentSlot) (n : BitVec 16) : Option OpenPart :=
  match x.opened with
  | .good o => if o.number = n then some o else none
  | .blank => none
  | .failed => none
/-- The close part of incident `n` that its slot holds with a passing check. -/
def IncidentSlot.closeOf (x : IncidentSlot) (n : BitVec 16) : Option ClosePart :=
  match x.closed with
  | .good c => if c.number = n then some c else none
  | .blank => none
  | .failed => none

/-- The slot of incident `n` (R164). -/
def State.incidentSlot (s : State) (n : BitVec 16) : IncidentSlot := s.nv.incidents[incidentSlotOf n.toNat]

/-- What a READ_INCIDENT replies: buffered parts first, then those of the slot (R165). -/
def State.incidentReply (s : State) (n : BitVec 16) : Reply :=
  let x := s.incidentSlot n
  let l := s.writer.incidents
  match (openWaiting l n).or (x.openOf n) with
  | some o => ⟨.ok, .incident o ((closeWaiting l n).or (x.closeOf n))⟩
  | none => ⟨.notFound, .none⟩

/-- READ_INCIDENT (R165): with its open part still buffered an incident has no programmed part, and the reply is formed at once. -/
def reqReadIncident (s : State) (n : BitVec 16) : State × Stage :=
  match openWaiting s.writer.incidents n with
  | some o => (s, okay (.incident o (closeWaiting s.writer.incidents n)))
  | none => (queueRead s (.incident n), .waiting (.read (.incident n)))

/-! ### A completed read (R163, R165) -/

/-- The reply a completed read forms. -/
def State.readReply (s : State) : ReadOp → Reply
  | .journal n k => s.journalReply n k
  | .incident n => s.incidentReply n

/-- The first request waiting for read `op` is answered. -/
def answerRead (op : ReadOp) (r : Reply) : List Entry → List Entry
  | [] => []
  | e :: t => if e.stage = .waiting (.read op) then e.form r :: t else e :: answerRead op r t

end Sys2Proof.Machine
end

