-- ==== Sys2Proof/Machine/Requests.lean ====
section
/-! DEFINITION. The request queue: a good frame joins it, and the Link Port takes its requests in arrival order (R174, R179). -/

namespace Sys2Proof.Machine

/-- A taken request goes to its owner, which carries it out and forms its reply or says what the reply waits for (R174). -/
def runRequest (s : State) : Request → State × Stage
  | .readStatus => reqReadStatus s
  | .setClock n => reqSetClock s n
  | .restart => reqRestart s
  | .setMode m => reqSetMode s m
  | .resume => reqResume s
  | .subscribe c => reqSubscribe s c
  | .configClass a => reqConfigClass s a
  | .configBay a => reqConfigBay s a
  | .configBudget w e => reqConfigBudget s w e
  | .configZone a => reqConfigZone s a
  | .configAction z c a p => reqConfigAction s z c a p
  | .configHead l a e k z => reqConfigHead s l a e k z
  | .configAtmosphere a => reqConfigAtmosphere s a
  | .configFeed t st => reqConfigFeed s t st
  | .readConfig c => reqReadConfig s c
  | .openLot n => reqOpenLot s n
  | .closeLot n => reqCloseLot s n
  | .admitPack a => reqAdmit s a
  | .place t b => reqPlace s t b
  | .stage t => reqStage s t
  | .quarantine t => reqQuarantine s t
  | .remove t => reqRemove s t
  | .clearExposure t => reqClearExposure s t
  | .readPack t => reqReadPack s t
  | .readLot n => reqReadLot s n
  | .readQueue => reqReadQueue s
  | .pauseBay b => reqPauseBay s b
  | .continueBay b => reqContinueBay s b
  | .confirmBay b => reqConfirmBay s b
  | .unlockBay b => reqUnlockBay s b
  | .readBay b => reqReadBay s b
  | .clearPeaks t => reqClearPeaks s t
  | .resetZone z => reqResetZone s z
  | .holdRelease z => reqHoldRelease s z
  | .isolateHead l a => reqIsolateHead s l a
  | .restoreHead l a => reqRestoreHead s l a
  | .loopTest l => reqLoopTest s l
  | .readZone z => reqReadZone s z
  | .readHead l a => reqReadHead s l a
  | .inertStart => reqInertStart s
  | .inertStop => reqInertStop s
  | .shredStart => reqShredStart s
  | .shredStop => reqShredStop s
  | .feedClear o => reqFeedClear s o
  | .readAtmosphere => reqReadAtmosphere s
  | .readFeed => reqReadFeed s
  | .readJournal n c => reqReadJournal s n c
  | .exportMark n => reqExportMark s n
  | .readIncident n => reqReadIncident s n

/-- The Link Port's own two checks at taking, then the owner (R174). -/
def runAsked (s : State) : Asked → State × Stage
  | .known r => runRequest s r
  | .unknownKind _ => (s, refuse .unknownKind)
  | .badLength _ => (s, refuse .badLength)

/-- The kind byte of a frame (R172). -/
def Asked.kind : Asked → Byte
  | .known r => r.kind
  | .unknownKind k => k
  | .badLength k => k

/-- The kinds whose owner is the Custody Table, the Lot Table or the Staging Queue, which take none until the rebuild has ended (R1, log 20). -/
def custodialKind (k : Byte) : Bool := decide (0x20 ≤ k.toNat ∧ k.toNat ≤ 0x2a)

/-- A request of such a kind. -/
def Request.custodial (r : Request) : Bool := custodialKind r.kind

/-- A reply is being sent. -/
def Link.replying (x : Link) : Bool :=
  match x.tx with
  | some (.reply _ _ _) => true
  | some (.notice _) => false
  | none => false

/-- Every earlier reply has been sent: no reply is being sent, and the oldest request is the untaken one (R179). -/
def Link.repliesSent (x : Link) : Bool :=
  !x.replying && (match x.queue with
    | e :: _ => e.stage = .untaken
    | [] => true)

/-- The oldest untaken request may be taken (R1, R174, R179). A frame of a known kind waits for its kind's owner whatever its length, as
the length is looked at when it is taken. -/
def State.takeable (s : State) (k : Asked) : Bool :=
  s.link.restart = .none && (match k with
    | .unknownKind _ => true
    | .known _ | .badLength _ => (!custodialKind k.kind || s.phase = .running) && (k.kind ≠ 0x03#8 || s.link.repliesSent))

/-- What the oldest untaken request asks. -/
def Link.untaken (x : Link) : Option Asked := (x.queue.find? (fun e => e.stage = .untaken)).map Entry.asked

/-- A request is taken: its owner acts, and its entry carries the reply or what the reply waits for. -/
def takeAsked (s : State) (k : Asked) : State :=
  let r := runAsked s k
  { r.1 with link := { r.1.link with queue := setUntaken r.2 r.1.link.queue } }

/-- Up to `n` of the requests that wait untaken are taken in arrival order, each as soon as the one before it has been taken (R174); a
sign that one changes is noticed even where a later one changes it back (R159). -/
def takeAll : Nat → State → State
  | 0, s => s
  | n + 1, s =>
    match s.link.untaken with
    | none => s
    | some k => if s.takeable k then takeAll n (signNotice s (takeAsked s k)) else s

/-- Every request of the queue that may be taken is taken: the queue holds 4 (R174). -/
def takeWaiting (s : State) : State := takeAll 4 s

/-- A frame joins the queue, not yet taken; with 4 requests queued it is discarded and counted (R174), in the discarded-request count
alone (log 59). -/
def joinQueue (s : State) (m : Byte) (k : Asked) : State :=
  let x := s.link
  if 4 ≤ x.queue.length then { s with link := { x with discardedRequests := satAdd 255 x.discardedRequests 1 } }
  else { s with link := { x with queue := x.queue ++ [⟨m, k, .untaken⟩] } }

/-- A request arrives in a good frame; where none waits before it untaken, it is taken at once (R174, log 1). -/
def hostRequest (s : State) (m : Byte) (r : Request) : State :=
  let t := joinQueue s m (.known r)
  if s.link.untaken.isSome || decide (4 ≤ s.link.queue.length) || !t.takeable (.known r) then t else takeAsked t (.known r)

/-- A request that may touch the line or the journal: it arrives, and the step ends. -/
def request (s : State) (m : Byte) (r : Request) : Host.Outcome State Fault Refusal :=
  live s (fun s => finish s (hostRequest s m r))

/-- A request that asks nothing of the Journal Writer: it arrives, and the Link Port goes on. -/
def linkRequest (s : State) (m : Byte) (r : Request) : Host.Outcome State Fault Refusal :=
  live s (fun s => linkPump (hostRequest s m r))

end Sys2Proof.Machine
end

