-- ==== Sys2Proof/Machine/Startup.lean ====
section
/-! DEFINITION. Resets and start-up: the part held in reset, the scan of the NV array, the replay, the rebuild, and the tick of the part's own time base (R1, R168 to R171). -/

namespace Sys2Proof.Machine

/-! ### The scan (R169) -/

/-- A settings section passes its CRC (R166, R169). -/
def sectionValid : Stored SectionData → Bool
  | .good _ => true
  | .blank => false
  | .failed => false

/-- The content of section `c` as the scan finds it, none where it is absent (R169). -/
def Nv.section? (n : Nv) (c : Section) : Option SectionData :=
  match n.sections[sectionIdx c] with
  | .good d => some d
  | .blank => none
  | .failed => none

/-- The newest record's sequence and slot, none where the journal holds no record with a passing check (R169). -/
def newestSlot (j : List (Nat × Slot)) : Option (Nat × Nat) :=
  j.foldl (fun o e => match e.2 with
    | .failed => o
    | .good r =>
      match o with
      | none => some (r.seq, e.1)
      | some (q, n) => if q < r.seq then some (r.seq, e.1) else some (q, n)) none

/-- How many slots of segment `seg` are assigned at start-up: up to the first erased slot at or after the place `k` (R169). -/
def usedFrom (j : List (Nat × Slot)) (seg k : Nat) : Nat :=
  (((List.range 16).filter (fun i => decide (k ≤ i))).find? (fun i => (journalAt j (16 * seg + i)).isNone)).getD 16

/-- The export mark: the EXPORT section's, or the oldest present sequence minus 1, or 0 (R169). -/
def scannedMark (n : Nv) : Nat :=
  match n.section? .exported with
  | some (.exported m) => m
  | _ =>
    match (journalRecords n.journal).map Record.seq with
    | [] => 0
    | q :: t => t.foldl min q - 1

/-- The incidents whose next slot in the ring does not hold the next number (R169). -/
def incidentCandidates (n : Nv) : List (BitVec 16) :=
  (List.range 16).filterMap (fun i =>
    match n.incidents[incidentSlotOf i].opened with
    | .good o =>
      match n.incidents[incidentSlotOf (i + 1)].opened with
      | .good p => if p.number = o.number + 1#16 then none else some o.number
      | .blank => some o.number
      | .failed => some o.number
    | .blank => none
    | .failed => none)

/-- The most recent incident: the one candidate, or the free value's pick among several (R169, log 28). -/
def scannedIncident (n : Nv) (free : Nat) : Option (BitVec 16) :=
  match incidentCandidates n with
  | [] => none
  | [i] => some i
  | i :: l => (i :: l)[Config.scanPick (l.length + 1) free % (l.length + 1)]?

/-- The Journal Writer's RAM at the end of the scan (R169; segment 0 where the journal holds no record is log 7). -/
def scannedWriter (n : Nv) (incident : Option (BitVec 16)) : Writer :=
  let at? := newestSlot n.journal
  let seg := (at?.map (fun p => segOf p.2)).getD 0
  let k := (at?.map (fun p => p.2 % 16 + 1)).getD 0
  { Writer.initial with
    nextSeq := ((at?.map Prod.fst).getD 0) + 1
    current := seg
    used := usedFrom n.journal seg k
    mark := scannedMark n
    valid := Vector.ofFn fun i => sectionValid n.sections[i]
    lastIncident := incident }

/-! ### The replay (R170) -/

/-- One record put in its place by sequence. -/
def insertRecord (r : Record) : List Record → List Record
  | [] => [r]
  | q :: t => if r.seq ≤ q.seq then r :: q :: t else q :: insertRecord r t

/-- Records in sequence order. -/
def sortRecords : List Record → List Record
  | [] => []
  | r :: t => insertRecord r (sortRecords t)

/-- The lots with lot `n` changed by `f`. -/
def mapLot (n : Tag) (f : Lot → Lot) (l : List Lot) : List Lot := l.map (fun k => if k.number = n then f k else k)

/-- The state a replayed record leaves its pack in: FEEDING comes back STAGED (R3, R170). -/
def replayedState : AfterState → PackState
  | .pack .feeding => .staged
  | .pack s => s
  | .lot _ => .intake

/-- What every pack record sets in its entry (R170); a STAGED pack has no bay, whatever bay its record names (log 29). A CONFIRM record
stands for a pack that a rebuild returned to its bay, so its energy-gap mark is set (R2, R47, R171, log 40). -/
def replayPack (p : Pack) (r : Record) : Pack :=
  let st := replayedState r.after
  { p with
    state := st, bay := if st = .staged then none else r.bay
    energy := r.energy, trips := r.trips, rebounds := r.rebounds, charge := r.charge
    gap := p.gap || r.kind = .confirm
    exposure := match r.kind, r.detail with
      | .expose, .incident n => some ⟨n, false⟩
      | .exposeClear, .incident n => some ⟨n, true⟩
      | _, _ => p.exposure
    reason := match r.detail with
      | .quarantine q => some q
      | _ => p.reason }

/-- The entry an ADMIT record stands for, before the record's own figures (R170). -/
def replayEntry (r : Record) (c : ClassId) (cells capacity mass ocv : Nat) : Pack where
  tag := r.subject
  lot := r.lot
  cls := c
  cells := cells
  capacity := capacity
  mass := mass
  ocv := ocv
  state := .intake
  bay := none
  energy := 0
  gap := false
  trips := 0
  rebounds := 0
  charge := 0
  firstRecord := r.seq
  exposure := none
  reason := none

/-- An ADMIT record replayed: the entry, its lot recreated where it is missing, and counted (R170). -/
def replayAdmit (t : Tables) (r : Record) : Tables :=
  match r.detail with
  | .admitted c cells capacity mass ocv _ =>
    let lots := if t.lots.any (fun l => l.number = r.lot) then t.lots
      else t.lots ++ [⟨r.lot, .closing, 0, 0, 0, 0, 0, 0, 2, r.seq⟩]
    { t with
      packs := t.packs.filter (fun p => p.tag ≠ r.subject) ++ [replayPack (replayEntry r c cells capacity mass ocv) r]
      lots := mapLot r.lot (fun l => { l with admitted := l.admitted + 1 }) lots }
  | _ => t

/-- A record of a pack in the table replayed (R170). -/
def replayHeld (t : Tables) (p : Pack) (r : Record) : Tables :=
  let q := replayPack p r
  let put := t.packs.map (fun k => if k.tag = p.tag then q else k)
  let gone := t.packs.filter (fun k => k.tag ≠ p.tag)
  let rest := t.queue.filter (· ≠ p.tag)
  match r.kind with
  | .stage => { t with packs := put, queue := rest ++ [p.tag] }
  | .quarantine => { t with packs := put, queue := rest }
  | .fed => { packs := gone, queue := rest, lots := mapLot q.lot (fun l => l.exit q .fed) t.lots }
  | .removed => { packs := gone, queue := rest, lots := mapLot q.lot (fun l => l.exit q .removed) t.lots }
  | _ => { t with packs := put }

/-- One record replayed (R170). -/
def replayRecord (t : Tables) (r : Record) : Tables :=
  match r.kind with
  | .lotOpen => { t with lots := t.lots ++ [⟨r.subject, .opened, 0, 0, 0, 0, 0, 0, 1, r.seq⟩] }
  | .lotClose => { t with lots := mapLot r.subject (fun l => { l with state := .closing, written := 2 }) t.lots }
  | .lotFinal => { t with lots := t.lots.filter (fun l => l.number ≠ r.subject) }
  | .admitted => replayAdmit t r
  | _ =>
    match t.packs.find? (fun p => p.tag = r.subject) with
    | some p => replayHeld t p r
    | none => t

/-- The tables that the records above the export mark give, in sequence order (R170). -/
def replay (j : List (Nat × Slot)) (mark : Nat) : Tables :=
  (sortRecords ((journalRecords j).filter (fun r => decide (mark < r.seq)))).foldl replayRecord ⟨[], [], []⟩

/-! ### Settings loaded at start-up (R166, R169) -/

/-- The CLASS section's entries. -/
def loadedClasses (n : Nv) : Vector (Option ClassSettings) 8 :=
  match n.section? .cls with
  | some (.cls v) => v
  | _ => Vector.replicate 8 none
/-- The BAY section's entries. -/
def loadedBays (n : Nv) : Vector (Option BaySettings) 8 :=
  match n.section? .bay with
  | some (.bay v) => v
  | _ => Vector.replicate 8 none
/-- The BUDGET section, or the defaults. -/
def loadedBudget (n : Nv) : Budget :=
  match n.section? .budget with
  | some (.budget v) => v
  | _ => Budget.default
/-- The ZONE section, or the defaults. -/
def loadedZones (n : Nv) : Vector ZoneSettings 12 :=
  match n.section? .zone with
  | some (.zone v) => v
  | _ => Vector.replicate 12 ZoneSettings.default
/-- The ACTION section, or the defaults. -/
def loadedCells (n : Nv) : Vector ZoneCells 12 :=
  match n.section? .action with
  | some (.action v) => v
  | _ => Vector.replicate 12 ZoneCells.default
/-- The HEAD section's enrollments of loop `l`. -/
def loadedHeads (n : Nv) (l : LoopId) : Vector (Option Enrollment) 32 :=
  match n.section? .head with
  | some (.head a b) => match l with
    | .a => a
    | .b => b
  | _ => Vector.replicate 32 none
/-- The ATMOSPHERE section, or the defaults. -/
def loadedAtm (n : Nv) : AtmSettings :=
  match n.section? .atmosphere with
  | some (.atmosphere v) => v
  | _ => AtmSettings.default
/-- The FEED section, or the defaults. -/
def loadedFeed (n : Nv) : FeedSettings :=
  match n.section? .feed with
  | some (.feed v) => v
  | _ => FeedSettings.default

/-- A loop at start-up, its enrolled heads at NORMAL (R67, R70), its cursor absent until RESYNC is sent (R72, log 47). -/
def startLoop (n : Nv) (l : LoopId) : Loop :=
  { Loop.initial with
    heads := Vector.ofFn fun a => ((loadedHeads n l)[a]).map (fun e => freshHead e.kind e.zone false) }

/-- The zones with their head counts and fault attributes formed from the Head Table (R86). -/
def startZones (s : State) : Vector Zone 12 :=
  Vector.ofFn fun z => { s.zone z with counts := s.headCounts z, fault := s.zoneFault z }

/-- An input after reset: unconditioned, its raw level as it stands, its 20 ms running (R149). -/
def restartInput (i : Input) : Input := { Input.initial with raw := i.raw }

/-- The five inputs after reset. -/
def restartInputs (x : Inputs) : Inputs :=
  ⟨restartInput x.estop, restartInput x.doorClosed, restartInput x.coolingOk, restartInput x.shredRunning, restartInput x.packPassed⟩

/-! ### Start-up and reset (R168, R169) -/

/-- Start-up with the settings, the loops and the Journal Writer as the scan gives them, and JOURNAL pending at its end (R169); `s` is the
state before the reset. -/
def scanned (s : State) : State :=
  let n := s.cutNv
  let many := decide (1 < (incidentCandidates n).length)
  let inc := scannedIncident n s.free
  let w := scannedWriter n inc
  let a := loadedAtm n
  { State.reset with
    pending := s.pending
    free := if many then s.free + 1 else s.free
    link := Link.initial.mark .journal
    rebuilt := some (replay n.journal w.mark)
    gaps := s.gaps
    classes := loadedClasses n
    bays := Vector.ofFn fun b => { Bay.initial with settings := (loadedBays n)[b] }
    budget := loadedBudget n
    loopA := startLoop n .a
    loopB := startLoop n .b
    zones := Vector.ofFn fun z => { Zone.initial with settings := (loadedZones n)[z] }
    incident := ⟨inc.getD 0#16, none⟩
    cells := loadedCells n
    atm := { Atmosphere.initial with settings := a }
    feeder := { Feeder.initial with settings := loadedFeed n, resettle := a.resettle, resettleNow := a.resettle }
    line := { Line.initial with inputs := restartInputs s.line.inputs, supply := s.line.supply }
    writer := w
    nv := n }

/-- The start-up of the part, up to the end of the scan: the zones and the initial effect set formed, the erase-ahead queued, the
supply compared (R86, R109, R151, R158, R169), and the step ended as every other: the free array takes up the erase-ahead, and the first
notice of start-up is sent (R161, R176, logs 4, 71). A part that starts in WARNING hands its flush request here, with the buffer empty,
and ends the step with the flush-done mark set (R151, R152, R167, log 67). -/
def startUp (s : State) : State :=
  let t := scanned s
  let t := formEffects { t with zones := startZones t }
  finish t (compareSupply (eraseAhead t))

/-- The part held in reset: everything but the NV array, the inputs' raw levels, the supply and the commands that wait is lost (R153, R168,
log 30), and the operation in hand is cut short. The energy-gap marks stay for the rebuild (R2, log 40). -/
def holdReset (s : State) (p : Phase) : State :=
  { State.reset with
    pending := s.pending
    phase := p
    free := s.free
    rebuilt := none
    gaps := s.gaps
    link := Link.initial
    line := { Line.initial with inputs := restartInputs s.line.inputs, supply := s.line.supply }
    nv := s.cutNv }

/-! ### The rebuild (R171) -/

/-- A pack as the list of energy-gap marks names it (log 40). -/
def Pack.key (p : Pack) : Tag × Nat := (p.tag, p.firstRecord)

/-- A rebuilt pack keeps the energy-gap mark it had before (R2); one in its bay comes back IN_BAY with the mark set (R171). -/
def rebuiltPack (gaps : List (Tag × Nat)) (p : Pack) : Pack :=
  let p := { p with gap := p.gap || gaps.any (· = p.key) }
  if (p.state = .inBay || p.state = .released) && p.bay.isSome then { p with state := .inBay, gap := true } else p

/-- The bay of a rebuilt pack: PLACED with RESTART, or LOCKED with the pack (R47, R171). -/
def rebuiltBay (x : Bay) (p : Pack) : Bay :=
  match p.state with
  | .inBay => { x with state := .placed, pack := some p.tag, holds := { x.holds with restart := true } }
  | .quarantined => { x with state := .locked, pack := some p.tag }
  | .intake => x
  | .released => x
  | .staged => x
  | .feeding => x

/-- Bay `b` set as the rebuilt table says (R171). -/
def installBay (s : State) (b : BayId) : State :=
  match s.packs.find? (fun p => p.bay = some b) with
  | some p => putBay s b (rebuiltBay (s.bay b) p)
  | none => s

/-- The end of the rebuild: the tables in place, the occupied bays set, PACK and BAY pending, and the Custody Table taking requests (R171). -/
def installRebuild (s : State) : State :=
  let t : Tables := s.rebuilt.getD ⟨[], [], []⟩
  let ps := t.packs.map (rebuiltPack s.gaps)
  let s := { s with
    phase := .running, rebuilt := none, packs := ps, lots := t.lots, queue := t.queue
    gaps := (ps.filter Pack.gap).map Pack.key }
  let s := allBays.foldl installBay s
  let s := ps.foldl (fun s p => s.listPack p.tag none) s
  tryFeed ((s.mark .pack).mark .bay)

/-! ### The tick (log 3) -/

/-- A running timer after 1 ms; one that has run out stays at 0 until its expiry is taken (log 2). -/
def down (t : Option Nat) : Option Nat := t.map (· - 1)

/-- A bay after 1 ms; while its pack's event is held only the sample timing runs (R33, R155). -/
def Bay.tick (x : Bay) (waits : Bool) : Bay :=
  let x := { x with missTimer := x.missTimer - 1 }
  if waits then x
  else
    let x := { x with retryTimer := down x.retryTimer, restTimer := down x.restTimer }
    if x.state = .discharging then { x with dischargeMs := x.dischargeMs + 1, clearMs := x.clearMs + 1 } else x

/-- A loop after 1 ms. -/
def Loop.tick (x : Loop) : Loop := { x with gap := down x.gap, answer := down x.answer, testTimer := down x.testTimer }

/-- The release timer after 1 ms: it stands still while paused (R98). -/
def Release.tick : Release → Release
  | .running ms => .running (ms - 1)
  | .idle => .idle
  | .paused ms => .paused ms

/-- A zone after 1 ms. -/
def Zone.tick (x : Zone) : Zone :=
  { x with
    window := down x.window, preClear := down x.preClear, release := x.release.tick
    holdTimer := down x.holdTimer, quenchTimer := down x.quenchTimer }

/-- The chamber after 1 ms; the open time advances while a valve is open (R129). -/
def Atmosphere.tick (x : Atmosphere) : Atmosphere :=
  { x with
    chanA := { x.chanA with missTimer := x.chanA.missTimer - 1 }
    chanB := { x.chanB with missTimer := x.chanB.missTimer - 1 }
    maxPurge := down x.maxPurge, settle := down x.settle
    openMs := if x.valve = .closed then x.openMs else x.openMs + 1 }

/-- The inputs after 1 ms. -/
def Inputs.tick (x : Inputs) : Inputs :=
  let f (i : Input) : Input := { i with debounce := down i.debounce }
  ⟨f x.estop, f x.doorClosed, f x.coolingOk, f x.shredRunning, f x.packPassed⟩

/-- 1 ms of the part's own time base (log 3). -/
def tick (s : State) : State :=
  { s with
    now := s.now + 1
    link := { s.link with gap := down s.link.gap }
    bays := Vector.ofFn fun b => (s.bay b).tick (s.awaiting b)
    loopA := s.loopA.tick
    loopB := s.loopB.tick
    zones := Vector.ofFn fun z => (s.zone z).tick
    atm := s.atm.tick
    interlock := { s.interlock with startTimer := down s.interlock.startTimer, rundownTimer := down s.interlock.rundownTimer }
    feeder := { s.feeder with feedTimer := down s.feeder.feedTimer, resettleTimer := down s.feeder.resettleTimer }
    line := { s.line with inputs := s.line.inputs.tick } }

/-- What a step does with no command waiting: 1 ms of the part's own time base (log 3). -/
def idle (s : State) : Host.Outcome State Fault Refusal := live s (fun s => finish s (tick s))

end Sys2Proof.Machine
end

