-- ==== Sys2Proof/Machine/BayCommands.lean ====
section
/-! DEFINITION. The field events of the bays: held events taken, samples, and the bays' timers and times (R27, R35, R38 to R40, R155). -/

namespace Sys2Proof.Machine

/-- A record as it arrives: the mark it is taken with, and its values where it is a valid sample (R27, R49). -/
def arrive (s : State) (b : BayId) (u : Sample) (mark : SampleMark) : State :=
  let m := markTaken u mark
  sampleEvent s b m (if m = .valid then some u else none) 150

/-- The retry timer of bay `b` has run out (R38). -/
def retryExpired (s : State) (b : BayId) : State :=
  let x := s.bay b
  if x.retryTimer.isSome && !s.awaiting b then s.setBay b { x with retryTimer := none } else s

/-- The rest timer of bay `b` has run out: the rest decision, where sense is GOOD (R28, R40). -/
def restExpired (s : State) (b : BayId) : State :=
  let x := s.bay b
  if x.restTimer.isSome && !s.awaiting b then
    let s := s.setBay b { x with restTimer := none }
    if x.sense = .good then restDecision s b else s
  else s

/-- The discharge time of a DISCHARGING bay has reached its limit (R35). -/
def timeReached (s : State) (b : BayId) : State :=
  let x := s.bay b
  if x.state = .discharging && !s.awaiting b then
    bayQuarantine (s.setBay b { x with dischargeMs := max x.dischargeMs (1000 * x.settingsFor.maxTime) }) b .timeLimit
  else s

/-- The clear time of a DISCHARGING bay has reached its clear period (R39). -/
def clearReached (s : State) (b : BayId) : State :=
  let x := s.bay b
  if x.state = .discharging && !s.awaiting b then s.setBay b { x with retryCount := 0 } else s

/-- HELD_PACK_EVENT_TAKEN (R155). -/
def execHeldPackEventTaken (s : State) : Host.Outcome State Fault Refusal :=
  live s (fun s => finish s (takeHeld s))

/-- BAY_SAMPLE_ARRIVAL (R27). -/
def execBaySampleArrival (bay : BayId) (voltage current heatsink packTemp : Int) (mark : SampleMark) (s : State) :
    Host.Outcome State Fault Refusal :=
  live s (fun s => finish s (arrive s bay ⟨voltage, current, heatsink, packTemp⟩ mark))

/-- BAY_SAMPLE_MISS (R27), shown with the mark INVALID (log 44). -/
def execBaySampleMiss (bay : BayId) (s : State) : Host.Outcome State Fault Refusal :=
  live s (fun s => finish s (sampleEvent s bay .invalid none 100))

/-- RETRY_TIMER_EXPIRY (R38). -/
def execRetryTimerExpiry (bay : BayId) (s : State) : Host.Outcome State Fault Refusal :=
  live s (fun s => finish s (retryExpired s bay))

/-- REST_TIMER_EXPIRY (R40). -/
def execRestTimerExpiry (bay : BayId) (s : State) : Host.Outcome State Fault Refusal :=
  live s (fun s => finish s (restExpired s bay))

/-- MAX_DISCHARGE_TIME (R35). -/
def execMaxDischargeTime (bay : BayId) (s : State) : Host.Outcome State Fault Refusal :=
  live s (fun s => finish s (timeReached s bay))

/-- CLEAR_PERIOD (R39). -/
def execClearPeriod (bay : BayId) (s : State) : Host.Outcome State Fault Refusal :=
  live s (fun s => finish s (clearReached s bay))

end Sys2Proof.Machine
end

