-- ==== Sys2Proof/Machine/LineCommands.lean ====
section
/-! DEFINITION. The discrete inputs, the supply, the resets, the end of the rebuild and the line clock (R147, R149 to R151, R168, R171, R177). -/

namespace Sys2Proof.Machine

/-! ### Inputs (R149, R150) -/

/-- An input whose raw level becomes `level`: its 20 ms start again, or end where it has reverted (R149). -/
def Input.change (i : Input) (level : Bool) : Input :=
  if i.raw = level then i
  else { i with raw := level, debounce := if i.cond = some level then none else some 20 }

/-- The part with the raw level of input `i` changed; the level is there to be seen in reset too (log 30). -/
def rawChange (s : State) (i : InputId) (level : Bool) : State :=
  let x := s.line.inputs
  { s with line := { s.line with inputs := x.put i ((x.get i).change level) } }

/-- The conditioned ESTOP input is `active`; `changed` where that differs from the level taken before (R147, R150). -/
def estopTaken (s : State) (active changed : Bool) : State :=
  let s := if active then enterSafeHold s .estop else s
  if changed then updatePermission s else s

/-- The conditioned DOOR_CLOSED input is `closed` (R128, R147, R150). -/
def doorTaken (s : State) (closed changed : Bool) : State :=
  let s := if !closed && s.line.mode ≠ .maintenance then enterSafeHold s .door else s
  if changed then updatePermission (doorChange s closed) else s

/-- A conditioned level goes to its receivers (R150). -/
def inputTaken (s : State) (i : InputId) (level changed : Bool) : State :=
  match i with
  | .estop => estopTaken s level changed
  | .doorClosed => doorTaken s level changed
  | .coolingOk => if changed then syncHolds s else s
  | .shredRunning => if changed then feedbackChange s level else s
  | .packPassed => if changed && level then passEvent s else s

/-- An input has held its raw level for 20 ms: it is conditioned, and the change or first conditioning goes to its receivers (R149). -/
def conditioned (s : State) (i : InputId) : State :=
  let x := s.line.inputs
  let v := x.get i
  if v.debounce.isSome then
    let changed := s.level i ≠ v.raw
    let s := { s with line := { s.line with inputs := x.put i { v with cond := some v.raw, debounce := none } } }
    inputTaken (s.markIf changed .line) i v.raw changed
  else s

/-- RAW_INPUT_CHANGE (R149). -/
def execRawInputChange (input : InputId) (level : Bool) (s : State) : Host.Outcome State Fault Refusal :=
  .next (rawChange s input level)

/-- INPUT_CONDITIONED (R149, R150). -/
def execInputConditioned (input : InputId) (s : State) : Host.Outcome State Fault Refusal :=
  live s (fun s => finish s (conditioned s input))

/-! ### Supply (R151) -/

/-- The supply is at `v`, in 10 mV. -/
def supplyAt (s : State) (v : Nat) : State := { s with line := { s.line with supply := v } }

/-- The supply has risen to `v`: at 17.0 V or above a POWER reset is released and start-up begins (R151). -/
def powerUp (s : State) (v : Nat) : State :=
  if s.phase = .inPowerReset then
    if 1700 ≤ v then startUp (supplyAt s v) else supplyAt s v
  else s

/-- A supply event: below 16.0 V the power reset is taken in any state of the part; a part held in it starts up again at 17.0 V or above;
elsewhere the monitor compares (R151, logs 6, 30). -/
def supplyEvent (s : State) (v : Nat) : State :=
  let t := supplyAt s v
  if v < 1600 then holdReset t .inPowerReset
  else if s.phase = .inPowerReset then powerUp s v
  else if s.inReset then t
  else finish s (compareSupply t)

/-- SUPPLY_WARNING (R151, R152). -/
def execSupplyWarning (volts : Nat) (s : State) : Host.Outcome State Fault Refusal := .next (supplyEvent s volts)

/-- SUPPLY_NORMAL (R151, R152). -/
def execSupplyNormal (volts : Nat) (s : State) : Host.Outcome State Fault Refusal := .next (supplyEvent s volts)

/-! ### Resets (R151, R168) -/

/-- A PIN reset; a part held in a POWER reset stays so (log 30). -/
def pinDown (s : State) : State := if s.phase = .inPowerReset then s else holdReset s .inPinReset

/-- The PIN reset is released and start-up begins (R168). -/
def pinUp (s : State) : State := if s.phase = .inPinReset then startUp s else s

/-- The flush of a COMMAND reset is complete: incident parts and slotted records programmed, the array free (R168). -/
def State.flushed (s : State) : Bool :=
  s.commandFlush && s.writer.incidents.isEmpty && s.writer.buffer.all (fun b => b.slot.isNone) && s.writer.running.isNone

/-- POWER_RESET (R151, R168). -/
def execPowerReset (s : State) : Host.Outcome State Fault Refusal := .next (holdReset s .inPowerReset)

/-- POWER_RESET_RELEASE (R151). -/
def execPowerResetRelease (volts : Nat) (s : State) : Host.Outcome State Fault Refusal := .next (powerUp s volts)

/-- PIN_RESET (R168). -/
def execPinReset (s : State) : Host.Outcome State Fault Refusal := .next (pinDown s)

/-- PIN_RESET_RELEASE (R168). -/
def execPinResetRelease (s : State) : Host.Outcome State Fault Refusal := .next (pinUp s)

/-- COMMAND_RESET_TAKEN (R168, R179). -/
def execCommandResetTaken (s : State) : Host.Outcome State Fault Refusal :=
  live s (fun s => if s.flushed then startUp s else s)

/-- REBUILD_COMPLETE: the tables in place, the requests that waited for them are taken (R1, R171, R174). -/
def execRebuildComplete (s : State) : Host.Outcome State Fault Refusal :=
  live s (fun s => if s.phase = .starting then finish s (takeWaiting (signNotice s (installRebuild s))) else s)

/-- CLOCK_SECOND (R177). -/
def execClockSecond (s : State) : Host.Outcome State Fault Refusal :=
  live s (fun s => { s with clock := { s.clock with seconds := s.clock.seconds + 1#32 } })

end Sys2Proof.Machine
end

