-- ==== Sys2Proof/Machine/LinkCommands.lean ====
section
/-! DEFINITION. The host link's own events: bytes in, requests taken, frames sent (R173, R174, R176, R179). -/

namespace Sys2Proof.Machine

/-- A frame is discarded: counted, and the receiver hunts (R173). -/
def Link.discard (x : Link) : Link := { x with rx := .hunting, gap := none, discards := satAdd 255 x.discards 1 }

/-- A collected frame that passes its CRC is a request and joins the queue; any other is discarded (R173, R174). -/
def checkFrame (s : State) (body : List Byte) (crc : BitVec 16) : State :=
  if crc16 body = crc then
    match body with
    | _ :: k :: m :: p => joinQueue { s with link := { s.link with rx := .hunting, gap := none } } m (askedOf k p)
    | _ => { s with link := s.link.discard }
  else { s with link := s.link.discard }

/-- The receiver takes a byte (R173). -/
def receiveByte (s : State) (b : Byte) : State :=
  let x := s.link
  match x.rx with
  | .hunting => if b = 0xc3#8 then { s with link := { x with rx := .length, gap := some 2 } } else s
  | .length =>
    if 2 ≤ b.toNat ∧ b.toNat ≤ 252 then { s with link := { x with rx := .collecting b.toNat [], gap := some 2 } }
    else { s with link := x.discard }
  | .collecting n l =>
    let l := l ++ [b]
    if l.length < n + 2 then { s with link := { x with rx := .collecting n l, gap := some 2 } }
    else checkFrame s (BitVec.ofNat 8 n :: l.take n) (word16 (l.getD n 0#8) (l.getD (n + 1) 0#8))

/-- A frame has been sent in full; once the reply of an accepted RESTART has been sent, the flush of a COMMAND reset starts (R176, R179). -/
def transmitted (s : State) : State :=
  let x := s.link
  { s with link := { x with tx := none, restart := if x.restart = .accepted && x.replying then .flushing else x.restart } }

/-- A byte, and the taking of the request that its frame has put in the queue (R173, R174, log 1). -/
def byteTaken (s : State) (b : Byte) : State :=
  let t := receiveByte s b
  if t.link.queue.length = s.link.queue.length then linkPump t else finish s (takeWaiting t)

/-- HOST_BYTE_RECEIVED (R173, R174). -/
def execHostByteReceived (byte : Byte) (s : State) : Host.Outcome State Fault Refusal :=
  live s (fun s => byteTaken s byte)

/-- INTER_BYTE_TIMEOUT: a frame begun is discarded (R173). -/
def execInterByteTimeout (s : State) : Host.Outcome State Fault Refusal :=
  live s (fun s => linkPump (if s.link.gap.isSome then { s with link := s.link.discard } else s))

/-- REQUEST_TAKEN (R174). -/
def execRequestTaken (s : State) : Host.Outcome State Fault Refusal :=
  live s (fun s => finish s (takeWaiting s))

/-- TRANSMIT_COMPLETE: a RESTART that waited for this reply is taken, and those behind it where it is refused (R174, R176, R179). -/
def execTransmitComplete (s : State) : Host.Outcome State Fault Refusal :=
  live s (fun s => finish s (takeWaiting (transmitted s)))

end Sys2Proof.Machine
end

