-- ==== Sys2Proof/Machine/LoopCommands.lean ====
section
/-! DEFINITION. The field events of the detector loops (R69 to R84). -/

namespace Sys2Proof.Machine

/-- A loop's gap has run out: the first frame due is begun where the loop is free (R70, log 23). -/
def gapExpired (s : State) (l : LoopId) (free : Bool) : State :=
  let x := s.loop l
  if x.state = .idle && x.sending.isNone then putLoop s l (if free then x.begin else { x with gap := none }) else s

/-- A head has seized the loop (R70, R75). -/
def headSeizes (s : State) (l : LoopId) : State :=
  let x := s.loop l
  if x.state = .idle || (x.state = .polling && x.answer.isNone) then putLoop s l x.seized else s

/-- The POLL has been sent, and its answer window runs (R73). -/
def pollDone (s : State) (l : LoopId) : State :=
  let x := s.loop l
  match x.sending with
  | some (.poll _) => putLoop s l { x with sending := none, answer := some 25 }
  | _ => s

/-- The BROADCAST has been sent (R70, R72, R82, R83). -/
def broadcastOut (s : State) (l : LoopId) : State :=
  match (s.loop l).sending with
  | some (.broadcast b) => broadcastDone s l b
  | _ => s

/-- A frame that is not taken: counted by the controller's state (R69, R70). -/
def frameLost (s : State) (l : LoopId) : State := putLoop s l (s.loop l).badFrame

/-- The answer window is open for the head at `a` (R73). -/
def Loop.expects (x : Loop) (a : HeadAddr) : Bool := x.state = .polling && x.answer.isSome && x.polled = some a

/-- A good ANSWER: taken from the polled address within its window, a frame error otherwise (R72, R73). That of a head withdrawn meanwhile
ends the window without a test of its value (log 24). -/
def answerIn (s : State) (l : LoopId) (a : HeadAddr) (lv : FrameLevel) (v : Int) (test : Bool) : State :=
  let x := s.loop l
  let done (s : State) : State := putLoop s l ((s.loop l).polledDone a)
  if x.expects a then
    match s.head l a with
    | some h =>
      if x.orphan then done s
      else if valueOk h.kind v then done (hearHead s l a h lv v test false)
      else frameLost s l
    | none => done s
  else frameLost s l

/-- The answer window has run out: a miss, unless the polled head was withdrawn meanwhile (R72, R74). -/
def windowOut (s : State) (l : LoopId) : State :=
  let x := s.loop l
  match x.polled with
  | some a =>
    if x.expects a then
      let s := match s.head l a with
        | some h => if x.orphan then s else handHead s l a h h.miss
        | none => s
      putLoop s l ((s.loop l).polledDone a)
    else s
  | none => s

/-- A REPORT and its acknowledge slot are complete: acknowledged where it is taken, left recessive for a stranger and for a frame that fails
its check (R76 to R78). -/
def reportIn (s : State) (l : LoopId) (a : HeadAddr) (lv : FrameLevel) (v : Int) (test : Bool) : State :=
  let x := s.loop l
  if x.state = .receiving then
    match s.head l a with
    | some h =>
      if valueOk h.kind v then
        let s := hearHead s l a h lv v test true
        putLoop s l ((s.loop l).acked true)
      else frameLost s l
    | none => putLoop s l ((x.strange a).acked false)
  else s

/-- The zones with an enrolled head on loop `l`, ascending. -/
def State.zonesOn (s : State) (l : LoopId) : List ZoneId := allZones.filter (fun z => !(s.zoneHeadsOn l z).isEmpty)

/-- The loop has been dominant for 100 ms: SHORT, and its zones (R80, R84). -/
def loopShorted (s : State) (l : LoopId) : State :=
  let x := s.loop l
  if x.state = .short then s
  else
    let s := putLoop s l x.shorted
    refreshZones s (s.zonesOn l) .lost

/-- A SHORT loop has fallen recessive: RESYNC, the answers of discarded broadcasts, and its zones (R81, R82, R84). -/
def loopReleased (s : State) (l : LoopId) : State :=
  let x := s.loop l
  if x.state = .short then
    let s := answerDiscarded (putLoop s l x.recessive) l
    refreshZones s (s.zonesOn l) .other
  else s

/-- The test window's timer has run out: TEST_END waits (R83). -/
def testExpired (s : State) (l : LoopId) : State :=
  let x := s.loop l
  if x.testTimer.isSome then s.setLoop l ({ x with testTimer := none }.await .testEnd) else s

/-- LOOP_GAP_EXPIRY (R70). -/
def execLoopGapExpiry (loop : LoopId) (loopFree : Bool) (s : State) : Host.Outcome State Fault Refusal :=
  live s (fun s => finish s (gapExpired s loop loopFree))

/-- LOOP_SEIZED (R70, R75). -/
def execLoopSeized (loop : LoopId) (s : State) : Host.Outcome State Fault Refusal :=
  live s (fun s => finish s (headSeizes s loop))

/-- POLL_SENT (R73). -/
def execPollSent (loop : LoopId) (s : State) : Host.Outcome State Fault Refusal :=
  live s (fun s => finish s (pollDone s loop))

/-- BROADCAST_SENT (R70, R82). -/
def execBroadcastSent (loop : LoopId) (s : State) : Host.Outcome State Fault Refusal :=
  live s (fun s => finish s (broadcastOut s loop))

/-- ANSWER_RECEIVED (R73). -/
def execAnswerReceived (loop : LoopId) (addr : HeadAddr) (level : FrameLevel) (value : Int) (test : Bool) (s : State) :
    Host.Outcome State Fault Refusal :=
  live s (fun s => finish s (answerIn s loop addr level value test))

/-- ANSWER_WINDOW_EXPIRY (R74). -/
def execAnswerWindowExpiry (loop : LoopId) (s : State) : Host.Outcome State Fault Refusal :=
  live s (fun s => finish s (windowOut s loop))

/-- REPORT_RECEIVED (R76 to R78). -/
def execReportReceived (loop : LoopId) (addr : HeadAddr) (level : FrameLevel) (value : Int) (test : Bool) (s : State) :
    Host.Outcome State Fault Refusal :=
  live s (fun s => finish s (reportIn s loop addr level value test))

/-- LOOP_FRAME_ERROR (R69). -/
def execLoopFrameError (loop : LoopId) (s : State) : Host.Outcome State Fault Refusal :=
  live s (fun s => finish s (frameLost s loop))

/-- LOOP_SHORT (R80). -/
def execLoopShort (loop : LoopId) (s : State) : Host.Outcome State Fault Refusal :=
  live s (fun s => finish s (loopShorted s loop))

/-- LOOP_RECESSIVE (R81). -/
def execLoopRecessive (loop : LoopId) (s : State) : Host.Outcome State Fault Refusal :=
  live s (fun s => finish s (loopReleased s loop))

/-- TEST_WINDOW_EXPIRY (R83). -/
def execTestWindowExpiry (loop : LoopId) (s : State) : Host.Outcome State Fault Refusal :=
  live s (fun s => finish s (testExpired s loop))

/-- GOOD_ANSWER_NOT_TAKEN (R70, R73); the address it carries names no entry that changes. -/
def execGoodAnswerNotTaken (loop : LoopId) (_addr : HeadAddr) (s : State) : Host.Outcome State Fault Refusal :=
  live s (fun s => finish s (frameLost s loop))

end Sys2Proof.Machine
end

