-- ==== Sys2Proof/Machine/NvCommands.lean ====
section
/-! DEFINITION. The ends of the NV array's operations (R156, R158, R161 to R166). -/

namespace Sys2Proof.Machine

/-- The array is free. -/
def arrayFree (s : State) : State := { s with writer := { s.writer with running := none } }

/-- The journal area once the records `l` have been programmed into their slots (R156). -/
def programRecords (l : List Buffered) (j : List (Nat × Slot)) : List (Nat × Slot) :=
  l.foldl (fun j b => match b.slot with
    | some n => journalPut n (.good b.record) j
    | none => j) j

/-- JOURNAL and the flush report fall due where the record buffer has become empty (R156, R167). -/
def bufferEmptied (s : State) : State := if s.writer.buffer.isEmpty then reportFlushed (s.mark .journal) else s

/-- A journal program completes: its records are programmed and leave the buffer (R156). -/
def journalProgrammed (s : State) (n : Nat) : State :=
  let w := s.writer
  bufferEmptied { s with
    writer := { w with running := none, buffer := w.buffer.drop n }
    nv := { s.nv with journal := programRecords (w.buffer.take n) s.nv.journal } }

/-- The slot with a part programmed (R164). -/
def IncidentSlot.hold (x : IncidentSlot) (p : IncidentPart) : IncidentSlot :=
  match p with
  | .opened o => { x with opened := .good o }
  | .closed c => { x with closed := .good c }

/-- An incident part's program completes; after a close part the erase of the next slot is queued (R164). -/
def incidentProgrammed (s : State) (p : IncidentPart) (rest : List IncidentPart) : State :=
  let i := incidentSlotOf p.number.toNat
  let s := { s with
    writer := { s.writer with running := none, incidents := rest, lastIncident := some p.number }
    nv := { s.nv with incidents := vput s.nv.incidents i (s.nv.incidents[i].hold p) } }.mark .journal
  if p.isClosed then queueIncidentErase s (p.number.toNat + 1) else s

/-- A settings erase completes: the section is blank, and its program waits (R161, R166). -/
def settingsErased (s : State) (c : Section) : State :=
  { s with
    writer := { s.writer with running := none, settingsOps := s.writer.settingsOps ++ [.program c] }
    nv := { s.nv with sections := vput s.nv.sections (sectionIdx c) .blank } }

/-- The replies that waited for the rewrite of section `c` are formed (R166). -/
def rewrittenEntry (c : Section) (e : Entry) : Entry :=
  match e.stage with
  | .waiting (.rewrite d true r) => if d = c then e.form r else e
  | _ => e

/-- A settings program completes: the section is valid, and its replies are formed (R166). -/
def settingsProgrammed (s : State) (c : Section) (d : SectionData) : State :=
  { s with
    writer := { s.writer with running := none, valid := vput s.writer.valid (sectionIdx c) true }
    nv := { s.nv with sections := vput s.nv.sections (sectionIdx c) (.good d) }
    link := { s.link with queue := s.link.queue.map (rewrittenEntry c) } }

/-- The array with segment `t` blank (R153). -/
def Nv.erase (n : Nv) (t : EraseTarget) : Nv :=
  match t with
  | .journal seg => { n with journal := journalErase seg n.journal }
  | .incident i => { n with incidents := vput n.incidents (incidentSlotOf i) ⟨.blank, .blank⟩ }

/-- The segment of the first buffered record whose slot is not erased: the erase it needs is due since its segment became current (R158). -/
def State.eraseOwed (s : State) : Option Nat :=
  s.writer.buffer.findSome? (fun b => match b.slot with
    | some n => if (journalAt s.nv.journal n).isSome then some (segOf n) else none
    | none => none)

/-- An erase has ended: the erase that could not be queued beside it is queued now, that of a segment which has become current before that
of the next (R158, log 16). -/
def eraseEnded (s : State) : State :=
  match s.eraseOwed with
  | some seg => queueJournalErase s seg
  | none => eraseAhead s

/-- An erase completes: the segment is blank, and the array is free (R158). -/
def erased (s : State) (t : EraseTarget) : State := eraseEnded (arrayFree { s with nv := s.nv.erase t })

/-- The array acknowledges a suspension (R162). -/
def suspendAcked (s : State) (t : EraseTarget) : State :=
  { s with writer := { s.writer with running := none, suspended := some t } }.mark .journal

/-- A read completes, and its reply is formed (R163, R165). -/
def readDone (s : State) (op : ReadOp) : State :=
  let r := s.readReply op
  arrayFree { s with link := { s.link with queue := answerRead op r s.link.queue } }

/-- JOURNAL_PROGRAM_DONE (R156). -/
def execJournalProgramDone (s : State) : Host.Outcome State Fault Refusal :=
  live s (fun s => match s.writer.running with
    | some (.journalProgram n) => finish s (journalProgrammed s n)
    | _ => s)

/-- INCIDENT_PROGRAM_DONE (R164). -/
def execIncidentProgramDone (s : State) : Host.Outcome State Fault Refusal :=
  live s (fun s => match s.writer.running, s.writer.incidents with
    | some .incidentProgram, p :: t => finish s (incidentProgrammed s p t)
    | _, _ => s)

/-- SETTINGS_ERASE_DONE (R166). -/
def execSettingsEraseDone (s : State) : Host.Outcome State Fault Refusal :=
  live s (fun s => match s.writer.running with
    | some (.settingsErase c) => finish s (settingsErased s c)
    | _ => s)

/-- SETTINGS_PROGRAM_DONE (R166). -/
def execSettingsProgramDone (s : State) : Host.Outcome State Fault Refusal :=
  live s (fun s => match s.writer.running with
    | some (.settingsProgram c d) => finish s (settingsProgrammed s c d)
    | _ => s)

/-- NV_ERASE_DONE (R158). -/
def execNvEraseDone (s : State) : Host.Outcome State Fault Refusal :=
  live s (fun s => match s.writer.running with
    | some (.erase t _ _) => finish s (erased s t)
    | _ => s)

/-- ERASE_SUSPEND_ACK (R162). -/
def execEraseSuspendAck (s : State) : Host.Outcome State Fault Refusal :=
  live s (fun s => match s.writer.running with
    | some (.erase t false true) => finish s (suspendAcked s t)
    | _ => s)

/-- NV_READ_DONE (R163, R165). -/
def execNvReadDone (s : State) : Host.Outcome State Fault Refusal :=
  live s (fun s => match s.writer.running with
    | some (.read op) => finish s (readDone s op)
    | _ => s)

end Sys2Proof.Machine
end

