-- ==== Sys2Proof/Machine/PlantCommands.lean ====
section
/-! DEFINITION. The field events and timers of the chamber, the shredder and the feeder (R118, R127, R129, R135, R136, R139). -/

namespace Sys2Proof.Machine

/-- The settle timer has run out: the chamber is settled (R127). -/
def settleOut (s : State) : State :=
  if s.atm.settle.isSome then putAtm s { s.atm with settle := none, settled := true } else s

/-- The max purge timer has run out: FAULT, cause PURGE_TIMEOUT (R127). -/
def maxPurgeOut (s : State) : State :=
  if s.atm.maxPurge.isSome then putAtm s (s.atm.fail .purgeTimeout) else s

/-- The flow of the valve command in force (R129). -/
def Atmosphere.flow (x : Atmosphere) : Nat :=
  match x.valve with
  | .closed => 0
  | .trim => x.settings.trimFlow
  | .purge => x.settings.purgeFlow

/-- A whole second of open time is complete: the flow joins the gas accumulator (R129). -/
def Atmosphere.second (x : Atmosphere) : Atmosphere :=
  if x.valve = .closed then x else { x with gas := satAdd 4294967295 x.gas x.flow, openMs := x.openMs - 1000 }

/-- The start timer has run out in STARTING (R135). -/
def startOut (s : State) : State :=
  let x := s.interlock
  if x.state = .starting && x.startTimer.isSome then moveInterlock s (x.fail .startTimeout) else s

/-- The rundown timer has run out in STOPPING (R136). -/
def rundownOut (s : State) : State :=
  let x := s.interlock
  if x.state = .stopping && x.rundownTimer.isSome then moveInterlock s (x.fail .rundownTimeout) else s

/-- The feed timer has run out in FEEDING: the gate closes, JAMMED (R139). -/
def feedOut (s : State) : State :=
  let x := s.feeder
  if x.state = .feeding && x.feedTimer.isSome then
    putFeeder s { x with state := .jammed, gate := false, feedTimer := none }
  else s

/-- The re-settle timer has run out: SETTLE leaves the set (R139). -/
def resettleOut (s : State) : State :=
  if s.feeder.resettleTimer.isSome then updateFeeder { s with feeder := { s.feeder with resettleTimer := none } } else s

/-- OXYGEN_SAMPLE_ARRIVAL (R118). -/
def execOxygenSampleArrival (chan : OxyChan) (value : Nat) (mark : OxyMark) (s : State) : Host.Outcome State Fault Refusal :=
  live s (fun s => finish s (oxygenEvent s chan (if oxygenGood value mark then some value else none) 375))

/-- OXYGEN_SAMPLE_MISS (R118). -/
def execOxygenSampleMiss (chan : OxyChan) (s : State) : Host.Outcome State Fault Refusal :=
  live s (fun s => finish s (oxygenEvent s chan none 250))

/-- SETTLE_TIMER_EXPIRY (R127). -/
def execSettleTimerExpiry (s : State) : Host.Outcome State Fault Refusal :=
  live s (fun s => finish s (settleOut s))

/-- MAX_PURGE_TIMER_EXPIRY (R127). -/
def execMaxPurgeTimerExpiry (s : State) : Host.Outcome State Fault Refusal :=
  live s (fun s => finish s (maxPurgeOut s))

/-- GAS_COUNTER_SECOND (R129). -/
def execGasCounterSecond (s : State) : Host.Outcome State Fault Refusal :=
  live s (fun s => { s with atm := s.atm.second })

/-- START_TIMER_EXPIRY (R135). -/
def execStartTimerExpiry (s : State) : Host.Outcome State Fault Refusal :=
  live s (fun s => finish s (startOut s))

/-- RUNDOWN_TIMER_EXPIRY (R136). -/
def execRundownTimerExpiry (s : State) : Host.Outcome State Fault Refusal :=
  live s (fun s => finish s (rundownOut s))

/-- FEED_TIMER_EXPIRY (R139). -/
def execFeedTimerExpiry (s : State) : Host.Outcome State Fault Refusal :=
  live s (fun s => finish s (feedOut s))

/-- RESETTLE_TIMER_EXPIRY (R139). -/
def execResettleTimerExpiry (s : State) : Host.Outcome State Fault Refusal :=
  live s (fun s => finish s (resettleOut s))

end Sys2Proof.Machine
end

