-- ==== Sys2Proof/Machine/RequestCommands.lean ====
section
/-! DEFINITION. The request rows: each request arrives in a good frame and is taken in its turn (R174, log 1); what it does is its `req` function. -/

namespace Sys2Proof.Machine

/-- READ_STATUS (R178). -/
def execReadStatus (m : Byte) (s : State) : Host.Outcome State Fault Refusal :=
  linkRequest s m .readStatus

/-- SET_CLOCK (R177). -/
def execSetClock (m : Byte) (seconds : BitVec 32) (s : State) : Host.Outcome State Fault Refusal :=
  linkRequest s m (.setClock seconds)

/-- RESTART (R179). -/
def execRestart (m : Byte) (s : State) : Host.Outcome State Fault Refusal :=
  linkRequest s m .restart

/-- SET_MODE (R145). -/
def execSetMode (m : Byte) (mode : Byte) (s : State) : Host.Outcome State Fault Refusal :=
  request s m (.setMode mode)

/-- RESUME (R148). -/
def execResume (m : Byte) (s : State) : Host.Outcome State Fault Refusal :=
  request s m .resume

/-- SUBSCRIBE (R176). -/
def execSubscribe (m : Byte) (set : Byte) (s : State) : Host.Outcome State Fault Refusal :=
  linkRequest s m (.subscribe set)

/-- CONFIG_CLASS (R26). -/
def execConfigClass (m : Byte) (args : ClassArgs) (s : State) : Host.Outcome State Fault Refusal :=
  request s m (.configClass args)

/-- CONFIG_BAY (R24, R25). -/
def execConfigBay (m : Byte) (args : BayArgs) (s : State) : Host.Outcome State Fault Refusal :=
  request s m (.configBay args)

/-- CONFIG_BUDGET (R60). -/
def execConfigBudget (m : Byte) (budget : BitVec 16) (exponent : Byte) (s : State) : Host.Outcome State Fault Refusal :=
  request s m (.configBudget budget exponent)

/-- CONFIG_ZONE (R87). -/
def execConfigZone (m : Byte) (args : ZoneArgs) (s : State) : Host.Outcome State Fault Refusal :=
  request s m (.configZone args)

/-- CONFIG_ACTION (R107). -/
def execConfigAction (m : Byte) (zone column actions pct : Byte) (s : State) : Host.Outcome State Fault Refusal :=
  request s m (.configAction zone column actions pct)

/-- CONFIG_HEAD (R68). -/
def execConfigHead (m : Byte) (loop addr enrolled kind zone : Byte) (s : State) : Host.Outcome State Fault Refusal :=
  request s m (.configHead loop addr enrolled kind zone)

/-- CONFIG_ATMOSPHERE (R122). -/
def execConfigAtmosphere (m : Byte) (args : AtmArgs) (s : State) : Host.Outcome State Fault Refusal :=
  request s m (.configAtmosphere args)

/-- CONFIG_FEED (R142). -/
def execConfigFeed (m : Byte) (feedTime step : Byte) (s : State) : Host.Outcome State Fault Refusal :=
  request s m (.configFeed feedTime step)

/-- READ_CONFIG (R166). -/
def execReadConfig (m : Byte) (sect : Byte) (s : State) : Host.Outcome State Fault Refusal :=
  linkRequest s m (.readConfig sect)

/-- OPEN_LOT (R18). -/
def execOpenLot (m : Byte) (lot : Tag) (s : State) : Host.Outcome State Fault Refusal :=
  request s m (.openLot lot)

/-- CLOSE_LOT (R19). -/
def execCloseLot (m : Byte) (lot : Tag) (s : State) : Host.Outcome State Fault Refusal :=
  request s m (.closeLot lot)

/-- ADMIT (R4, R5). -/
def execAdmitPack (m : Byte) (args : AdmitArgs) (s : State) : Host.Outcome State Fault Refusal :=
  request s m (.admitPack args)

/-- PLACE (R6). -/
def execPlace (m : Byte) (tag : Tag) (bay : Byte) (s : State) : Host.Outcome State Fault Refusal :=
  request s m (.place tag bay)

/-- STAGE (R7). -/
def execStage (m : Byte) (tag : Tag) (s : State) : Host.Outcome State Fault Refusal :=
  request s m (.stage tag)

/-- QUARANTINE (R8). -/
def execQuarantine (m : Byte) (tag : Tag) (s : State) : Host.Outcome State Fault Refusal :=
  request s m (.quarantine tag)

/-- REMOVE (R9). -/
def execRemove (m : Byte) (tag : Tag) (s : State) : Host.Outcome State Fault Refusal :=
  request s m (.remove tag)

/-- CLEAR_EXPOSURE (R10). -/
def execClearExposure (m : Byte) (tag : Tag) (s : State) : Host.Outcome State Fault Refusal :=
  request s m (.clearExposure tag)

/-- READ_PACK (R22). -/
def execReadPack (m : Byte) (tag : Tag) (s : State) : Host.Outcome State Fault Refusal :=
  linkRequest s m (.readPack tag)

/-- READ_LOT (R22). -/
def execReadLot (m : Byte) (lot : Tag) (s : State) : Host.Outcome State Fault Refusal :=
  linkRequest s m (.readLot lot)

/-- READ_QUEUE (R22). -/
def execReadQueue (m : Byte) (s : State) : Host.Outcome State Fault Refusal :=
  linkRequest s m .readQueue

/-- PAUSE_BAY (R44). -/
def execPauseBay (m : Byte) (bay : Byte) (s : State) : Host.Outcome State Fault Refusal :=
  request s m (.pauseBay bay)

/-- CONTINUE_BAY (R44). -/
def execContinueBay (m : Byte) (bay : Byte) (s : State) : Host.Outcome State Fault Refusal :=
  request s m (.continueBay bay)

/-- CONFIRM_BAY (R47). -/
def execConfirmBay (m : Byte) (bay : Byte) (s : State) : Host.Outcome State Fault Refusal :=
  request s m (.confirmBay bay)

/-- UNLOCK_BAY (R46). -/
def execUnlockBay (m : Byte) (bay : Byte) (s : State) : Host.Outcome State Fault Refusal :=
  request s m (.unlockBay bay)

/-- READ_BAY (R48, R66). -/
def execReadBay (m : Byte) (bay : Byte) (s : State) : Host.Outcome State Fault Refusal :=
  linkRequest s m (.readBay bay)

/-- CLEAR_PEAKS (R30, R130). -/
def execClearPeaks (m : Byte) (target : Byte) (s : State) : Host.Outcome State Fault Refusal :=
  linkRequest s m (.clearPeaks target)

/-- RESET_ZONE (R100). -/
def execResetZone (m : Byte) (zone : Byte) (s : State) : Host.Outcome State Fault Refusal :=
  request s m (.resetZone zone)

/-- HOLD_RELEASE (R99). -/
def execHoldRelease (m : Byte) (zone : Byte) (s : State) : Host.Outcome State Fault Refusal :=
  request s m (.holdRelease zone)

/-- ISOLATE_HEAD (R79). -/
def execIsolateHead (m : Byte) (loop addr : Byte) (s : State) : Host.Outcome State Fault Refusal :=
  request s m (.isolateHead loop addr)

/-- RESTORE_HEAD (R79). -/
def execRestoreHead (m : Byte) (loop addr : Byte) (s : State) : Host.Outcome State Fault Refusal :=
  request s m (.restoreHead loop addr)

/-- LOOP_TEST (R82). -/
def execLoopTest (m : Byte) (loop : Byte) (s : State) : Host.Outcome State Fault Refusal :=
  linkRequest s m (.loopTest loop)

/-- READ_ZONE (R105). -/
def execReadZone (m : Byte) (zone : Byte) (s : State) : Host.Outcome State Fault Refusal :=
  linkRequest s m (.readZone zone)

/-- READ_HEAD (R85). -/
def execReadHead (m : Byte) (loop addr : Byte) (s : State) : Host.Outcome State Fault Refusal :=
  linkRequest s m (.readHead loop addr)

/-- INERT_START (R125). -/
def execInertStart (m : Byte) (s : State) : Host.Outcome State Fault Refusal :=
  request s m .inertStart

/-- SHRED_START (R134). -/
def execShredStart (m : Byte) (s : State) : Host.Outcome State Fault Refusal :=
  request s m .shredStart

/-- SHRED_STOP (R136). -/
def execShredStop (m : Byte) (s : State) : Host.Outcome State Fault Refusal :=
  request s m .shredStop

/-- FEED_CLEAR (R140). -/
def execFeedClear (m : Byte) (outcome : Byte) (s : State) : Host.Outcome State Fault Refusal :=
  request s m (.feedClear outcome)

/-- READ_ATMOSPHERE (R131). -/
def execReadAtmosphere (m : Byte) (s : State) : Host.Outcome State Fault Refusal :=
  linkRequest s m .readAtmosphere

/-- READ_FEED (R143). -/
def execReadFeed (m : Byte) (s : State) : Host.Outcome State Fault Refusal :=
  linkRequest s m .readFeed

/-- READ_JOURNAL (R163). -/
def execReadJournal (m : Byte) (start : BitVec 32) (count : Byte) (s : State) : Host.Outcome State Fault Refusal :=
  request s m (.readJournal start count)

/-- EXPORT_MARK (R160). -/
def execExportMark (m : Byte) (seq : BitVec 32) (s : State) : Host.Outcome State Fault Refusal :=
  request s m (.exportMark seq)

/-- READ_INCIDENT (R165). -/
def execReadIncident (m : Byte) (number : BitVec 16) (s : State) : Host.Outcome State Fault Refusal :=
  request s m (.readIncident number)

end Sys2Proof.Machine
end

