-- ==== Sys2Proof/Machine/ZoneCommands.lean ====
section
/-! DEFINITION. The zone timers (R93, R96 to R99). -/

namespace Sys2Proof.Machine

/-- The PRE clear timer has run out: PRE_ALARM ends (R93). -/
def preClearOut (s : State) (z : ZoneId) : State :=
  let x := s.zone z
  if x.main = .preAlarm && x.preClear.isSome then
    evaluateZone (formEffects (putZone s z { x with main := .normal, preClear := none })) z .other false
  else s

/-- The zone once its spark window has ended (R96). -/
def Zone.windowEnds (x : Zone) : Zone :=
  if x.sparks = 0 then { x with consecutive := 0, window := none }
  else { x with consecutive := satAdd 255 x.consecutive 1, sparks := 0, window := some x.settings.window }

/-- The spark window has run out, an input change of the zone (R96). -/
def sparkWindowOut (s : State) (z : ZoneId) : State :=
  let x := s.zone z
  if x.window.isSome then evaluateZone (putZone s z x.windowEnds) z (.window x.sparks) false else s

/-- One more release in the open incident (R98, R103). -/
def Incident.released (i : Incident) : Incident :=
  { i with progress := i.progress.map (fun p => { p with releases := satAdd 65535 p.releases 1 }) }

/-- The release timer has run out: RELEASED, with the suppression output energized (R98). -/
def releaseOut (s : State) (z : ZoneId) : State :=
  let x := s.zone z
  match x.release with
  | .running _ =>
    let s := putZone s z { x with
      main := .released, suppression := true, release := .idle, releaseCount := satAdd 65535 x.releaseCount 1 }
    (formEffects { s with incident := s.incident.released }).mark .zone
  | .idle => s
  | .paused _ => s

/-- The hold timer has run out: the release timer resumes (R99). -/
def holdOut (s : State) (z : ZoneId) : State :=
  let x := s.zone z
  if x.holdTimer.isSome then
    putZone s z { x with
      holdTimer := none
      release := match x.release with
        | .paused ms => .running ms
        | .idle => .idle
        | .running ms => .running ms }
  else s

/-- The quench timer has run out: the output goes off (R97). -/
def quenchOut (s : State) (z : ZoneId) : State :=
  let x := s.zone z
  if x.quenchTimer.isSome then putZone s z { x with quench := false, quenchTimer := none } else s

/-- PRE_CLEAR_TIMER_EXPIRY (R93). -/
def execPreClearTimerExpiry (zone : ZoneId) (s : State) : Host.Outcome State Fault Refusal :=
  live s (fun s => finish s (preClearOut s zone))

/-- WINDOW_TIMER_EXPIRY (R96). -/
def execWindowTimerExpiry (zone : ZoneId) (s : State) : Host.Outcome State Fault Refusal :=
  live s (fun s => finish s (sparkWindowOut s zone))

/-- RELEASE_TIMER_EXPIRY (R98). -/
def execReleaseTimerExpiry (zone : ZoneId) (s : State) : Host.Outcome State Fault Refusal :=
  live s (fun s => finish s (releaseOut s zone))

/-- HOLD_TIMER_EXPIRY (R99). -/
def execHoldTimerExpiry (zone : ZoneId) (s : State) : Host.Outcome State Fault Refusal :=
  live s (fun s => finish s (holdOut s zone))

/-- QUENCH_TIMER_EXPIRY (R97). -/
def execQuenchTimerExpiry (zone : ZoneId) (s : State) : Host.Outcome State Fault Refusal :=
  live s (fun s => finish s (quenchOut s zone))

end Sys2Proof.Machine
end

