-- ==== Sys2Proof/Machine/Dispatch.lean ====
section
/-! DEFINITION. One arm per command: what it does to everything but the queue of commands that wait. -/

namespace Sys2Proof.Machine

/-- The effect of a command. -/
def exec (i : Instr) (s : State) : Host.Outcome State Fault Refusal :=
  match i with
  | .hostByteReceived byte => Sys2Proof.Machine.execHostByteReceived byte s
  | .interByteTimeout => Sys2Proof.Machine.execInterByteTimeout s
  | .requestTaken => Sys2Proof.Machine.execRequestTaken s
  | .transmitComplete => Sys2Proof.Machine.execTransmitComplete s
  | .readStatus m => Sys2Proof.Machine.execReadStatus m s
  | .setClock m seconds => Sys2Proof.Machine.execSetClock m seconds s
  | .restart m => Sys2Proof.Machine.execRestart m s
  | .setMode m mode => Sys2Proof.Machine.execSetMode m mode s
  | .resume m => Sys2Proof.Machine.execResume m s
  | .subscribe m c => Sys2Proof.Machine.execSubscribe m c s
  | .configClass m args => Sys2Proof.Machine.execConfigClass m args s
  | .configBay m args => Sys2Proof.Machine.execConfigBay m args s
  | .configBudget m budget exponent => Sys2Proof.Machine.execConfigBudget m budget exponent s
  | .configZone m args => Sys2Proof.Machine.execConfigZone m args s
  | .configAction m zone column actions pct => Sys2Proof.Machine.execConfigAction m zone column actions pct s
  | .configHead m loop addr enrolled kind zone => Sys2Proof.Machine.execConfigHead m loop addr enrolled kind zone s
  | .configAtmosphere m args => Sys2Proof.Machine.execConfigAtmosphere m args s
  | .configFeed m feedTime step => Sys2Proof.Machine.execConfigFeed m feedTime step s
  | .readConfig m sect => Sys2Proof.Machine.execReadConfig m sect s
  | .openLot m lot => Sys2Proof.Machine.execOpenLot m lot s
  | .closeLot m lot => Sys2Proof.Machine.execCloseLot m lot s
  | .admitPack m args => Sys2Proof.Machine.execAdmitPack m args s
  | .place m tag bay => Sys2Proof.Machine.execPlace m tag bay s
  | .stage m tag => Sys2Proof.Machine.execStage m tag s
  | .quarantine m tag => Sys2Proof.Machine.execQuarantine m tag s
  | .remove m tag => Sys2Proof.Machine.execRemove m tag s
  | .clearExposure m tag => Sys2Proof.Machine.execClearExposure m tag s
  | .readPack m tag => Sys2Proof.Machine.execReadPack m tag s
  | .readLot m lot => Sys2Proof.Machine.execReadLot m lot s
  | .readQueue m => Sys2Proof.Machine.execReadQueue m s
  | .pauseBay m bay => Sys2Proof.Machine.execPauseBay m bay s
  | .continueBay m bay => Sys2Proof.Machine.execContinueBay m bay s
  | .confirmBay m bay => Sys2Proof.Machine.execConfirmBay m bay s
  | .unlockBay m bay => Sys2Proof.Machine.execUnlockBay m bay s
  | .readBay m bay => Sys2Proof.Machine.execReadBay m bay s
  | .clearPeaks m target => Sys2Proof.Machine.execClearPeaks m target s
  | .resetZone m zone => Sys2Proof.Machine.execResetZone m zone s
  | .holdRelease m zone => Sys2Proof.Machine.execHoldRelease m zone s
  | .isolateHead m loop addr => Sys2Proof.Machine.execIsolateHead m loop addr s
  | .restoreHead m loop addr => Sys2Proof.Machine.execRestoreHead m loop addr s
  | .loopTest m loop => Sys2Proof.Machine.execLoopTest m loop s
  | .readZone m zone => Sys2Proof.Machine.execReadZone m zone s
  | .readHead m loop addr => Sys2Proof.Machine.execReadHead m loop addr s
  | .inertStart m => Sys2Proof.Machine.execInertStart m s
  | .shredStart m => Sys2Proof.Machine.execShredStart m s
  | .shredStop m => Sys2Proof.Machine.execShredStop m s
  | .feedClear m outcome => Sys2Proof.Machine.execFeedClear m outcome s
  | .readAtmosphere m => Sys2Proof.Machine.execReadAtmosphere m s
  | .readFeed m => Sys2Proof.Machine.execReadFeed m s
  | .readJournal m start count => Sys2Proof.Machine.execReadJournal m start count s
  | .exportMark m seq => Sys2Proof.Machine.execExportMark m seq s
  | .readIncident m number => Sys2Proof.Machine.execReadIncident m number s
  | .heldPackEventTaken => Sys2Proof.Machine.execHeldPackEventTaken s
  | .baySampleArrival bay voltage current heatsink packTemp mark => Sys2Proof.Machine.execBaySampleArrival bay voltage current heatsink packTemp mark s
  | .baySampleMiss bay => Sys2Proof.Machine.execBaySampleMiss bay s
  | .retryTimerExpiry bay => Sys2Proof.Machine.execRetryTimerExpiry bay s
  | .restTimerExpiry bay => Sys2Proof.Machine.execRestTimerExpiry bay s
  | .maxDischargeTime bay => Sys2Proof.Machine.execMaxDischargeTime bay s
  | .clearPeriod bay => Sys2Proof.Machine.execClearPeriod bay s
  | .loopGapExpiry loop loopFree => Sys2Proof.Machine.execLoopGapExpiry loop loopFree s
  | .loopSeized loop => Sys2Proof.Machine.execLoopSeized loop s
  | .pollSent loop => Sys2Proof.Machine.execPollSent loop s
  | .broadcastSent loop => Sys2Proof.Machine.execBroadcastSent loop s
  | .answerReceived loop addr level value test => Sys2Proof.Machine.execAnswerReceived loop addr level value test s
  | .answerWindowExpiry loop => Sys2Proof.Machine.execAnswerWindowExpiry loop s
  | .reportReceived loop addr level value test => Sys2Proof.Machine.execReportReceived loop addr level value test s
  | .loopFrameError loop => Sys2Proof.Machine.execLoopFrameError loop s
  | .loopShort loop => Sys2Proof.Machine.execLoopShort loop s
  | .loopRecessive loop => Sys2Proof.Machine.execLoopRecessive loop s
  | .testWindowExpiry loop => Sys2Proof.Machine.execTestWindowExpiry loop s
  | .preClearTimerExpiry zone => Sys2Proof.Machine.execPreClearTimerExpiry zone s
  | .windowTimerExpiry zone => Sys2Proof.Machine.execWindowTimerExpiry zone s
  | .releaseTimerExpiry zone => Sys2Proof.Machine.execReleaseTimerExpiry zone s
  | .holdTimerExpiry zone => Sys2Proof.Machine.execHoldTimerExpiry zone s
  | .quenchTimerExpiry zone => Sys2Proof.Machine.execQuenchTimerExpiry zone s
  | .oxygenSampleArrival chan value mark => Sys2Proof.Machine.execOxygenSampleArrival chan value mark s
  | .oxygenSampleMiss chan => Sys2Proof.Machine.execOxygenSampleMiss chan s
  | .settleTimerExpiry => Sys2Proof.Machine.execSettleTimerExpiry s
  | .maxPurgeTimerExpiry => Sys2Proof.Machine.execMaxPurgeTimerExpiry s
  | .gasCounterSecond => Sys2Proof.Machine.execGasCounterSecond s
  | .startTimerExpiry => Sys2Proof.Machine.execStartTimerExpiry s
  | .rundownTimerExpiry => Sys2Proof.Machine.execRundownTimerExpiry s
  | .feedTimerExpiry => Sys2Proof.Machine.execFeedTimerExpiry s
  | .resettleTimerExpiry => Sys2Proof.Machine.execResettleTimerExpiry s
  | .rawInputChange input level => Sys2Proof.Machine.execRawInputChange input level s
  | .inputConditioned input => Sys2Proof.Machine.execInputConditioned input s
  | .supplyWarning volts => Sys2Proof.Machine.execSupplyWarning volts s
  | .supplyNormal volts => Sys2Proof.Machine.execSupplyNormal volts s
  | .powerReset => Sys2Proof.Machine.execPowerReset s
  | .powerResetRelease volts => Sys2Proof.Machine.execPowerResetRelease volts s
  | .pinReset => Sys2Proof.Machine.execPinReset s
  | .commandResetTaken => Sys2Proof.Machine.execCommandResetTaken s
  | .rebuildComplete => Sys2Proof.Machine.execRebuildComplete s
  | .journalProgramDone => Sys2Proof.Machine.execJournalProgramDone s
  | .incidentProgramDone => Sys2Proof.Machine.execIncidentProgramDone s
  | .settingsEraseDone => Sys2Proof.Machine.execSettingsEraseDone s
  | .settingsProgramDone => Sys2Proof.Machine.execSettingsProgramDone s
  | .nvEraseDone => Sys2Proof.Machine.execNvEraseDone s
  | .eraseSuspendAck => Sys2Proof.Machine.execEraseSuspendAck s
  | .nvReadDone => Sys2Proof.Machine.execNvReadDone s
  | .clockSecond => Sys2Proof.Machine.execClockSecond s
  | .goodAnswerNotTaken loop addr => Sys2Proof.Machine.execGoodAnswerNotTaken loop addr s
  | .pinResetRelease => Sys2Proof.Machine.execPinResetRelease s

end Sys2Proof.Machine
end

