-- ==== Sys2Proof/Machine/Step.lean ====
section
/-! DEFINITION. One step: the command at the front of the queue, or 1 ms of the part's own time. -/

namespace Sys2Proof.Machine

/-- The command at the front of the queue is taken; with none waiting, the part's time base goes on by 1 ms (log 3). -/
def step (s : State) : Host.Outcome State Fault Refusal :=
  match s.pending with
  | [] => Sys2Proof.Machine.idle s
  | c :: t => Sys2Proof.Machine.exec c { s with pending := t }

/-- The command that a table word spells, at the front of the queue; no row gives bits, so no word spells one. -/
def State.withFetchWord (s : State) (nbits w : Nat) : State :=
  match Sys2Proof.decodeTableWord nbits w with
  | some c => { s with pending := c :: s.pending }
  | none => s

end Sys2Proof.Machine
end

