-- ==== Sys2Proof/Safety.lean ====
section
/-! DEFINITION. What every step keeps of the part, and the words the statements about it are written in. -/

namespace Sys2Proof.Machine

/-! ### Forms that every step keeps -/

/-- A segment the array has: 256 in the journal area, 16 in the incident area (R153). -/
def EraseTarget.wf : EraseTarget → Bool
  | .journal seg => decide (seg < 256)
  | .incident n => decide (n < 16)

/-- An operation in hand names a segment that the array has. -/
def NvOp.wf : NvOp → Bool
  | .erase t _ _ => t.wf
  | _ => true

/-- The Journal Writer's RAM: segments and slots within the ring, the incident buffer within its four parts (R153, R157, R164). -/
def Writer.wf (w : Writer) : Bool :=
  decide (w.current < 256) && decide (w.used ≤ 16)
  && w.buffer.all (fun b => b.slot.all (fun n => decide (n < 4096)))
  && w.running.all NvOp.wf && w.suspended.all EraseTarget.wf && w.aheads.all EraseTarget.wf
  && decide (w.incidents.length ≤ 4)

/-- A reply that may be sent now: the oldest request's, where it is formed (R174). -/
def Link.replyDue (x : Link) : Bool :=
  match x.queue with
  | e :: _ => (match e.stage with
    | .formed _ => true
    | _ => false)
  | [] => false

/-- With the transmitter free, no formed reply of the oldest request waits and no class is pending, but for the flush of a COMMAND reset
(R174, R176, R179). -/
def Link.sends (x : Link) : Bool := x.tx.isSome || decide (x.restart = .flushing) || (!x.replyDue && x.due.isNone)

/-- The Link Port: at most 4 requests queued, at most 64 packs listed, no class pending that is not subscribed, and nothing waiting beside
a free transmitter (R174, R176). -/
def Link.wf (x : Link) : Bool :=
  decide (x.queue.length ≤ 4) && decide (x.packsChanged.length ≤ 64) && decide (x.noticePending &&& ~~~x.subscribed = 0#7) && x.sends

/-- The feed gate is open only while the feeder is FEEDING (R138). -/
def Feeder.gateWf (x : Feeder) : Bool := !x.gate || decide (x.state = .feeding)

/-- The storage invariant: the journal area in its canonical form, the Journal Writer, the Link Port and the feed gate as above. -/
def State.storageWf (s : State) : Bool := journalWf s.nv.journal && s.writer.wf && s.link.wf && s.feeder.gateWf

/-- Run permission stands as its five conditions do, and the run output is on only while it is met (R133). -/
def State.runWf (s : State) : Bool :=
  decide (s.interlock.permission = s.runConditions.met) && (!s.interlock.runOutput || s.interlock.permission)

/-- The valve command is the one that state, door and INERT_BOOST give (R124, R128). -/
def State.valveWf (s : State) : Bool := decide (s.atm.valve = valveFor s.atm.state s.doorClosed s.effect.inertBoost)

/-- No bay out of the Budget Arbiter holds a grant, and the grants together stay within the effective budget (R61). -/
def State.grantWf (s : State) : Bool :=
  allBays.all (fun b => (s.bay b).participant || decide ((s.bay b).grant = 0))
  && decide ((allBays.map (fun b => (s.bay b).grant)).sum ≤ s.effective)

/-! ### Words of the statements -/

/-- A request that arrives is taken at once: the part is out of reset, no RESTART has been accepted, no request waits untaken, and the
queue has room (R174, R179). -/
def State.takesNow (s : State) : Bool :=
  !s.inReset && decide (s.link.restart = .none) && s.link.untaken.isNone && decide (s.link.queue.length < 4)

/-- `takesNow`, with the rebuild ended, so that the Custody Table, the Lot Table and the Staging Queue take requests (R1). -/
def State.custodyTakes (s : State) : Bool := s.takesNow && decide (s.phase = .running)

/-- Request `k` with message tag `m` stands behind the requests queued, at stage `st`; nothing else differs. -/
def State.withEntry (s : State) (m : Byte) (k : Request) (st : Stage) : State :=
  { s with link := { s.link with queue := s.link.queue ++ [⟨m, .known k, st⟩] } }

/-- The first untaken request reaches stage `st`; nothing else differs. -/
def State.withStage (s : State) (st : Stage) : State :=
  { s with link := { s.link with queue := setUntaken st s.link.queue } }

/-- The row of the table that is the arrival of request `r` with message tag `m`; INERT_STOP has none (R180, log 33). -/
def Request.row (m : Byte) : Request → Option Instr
  | .readStatus => some (.readStatus m)
  | .setClock n => some (.setClock m n)
  | .restart => some (.restart m)
  | .setMode v => some (.setMode m v)
  | .resume => some (.resume m)
  | .subscribe v => some (.subscribe m v)
  | .configClass a => some (.configClass m a)
  | .configBay a => some (.configBay m a)
  | .configBudget w e => some (.configBudget m w e)
  | .configZone a => some (.configZone m a)
  | .configAction z c a p => some (.configAction m z c a p)
  | .configHead l a e k z => some (.configHead m l a e k z)
  | .configAtmosphere a => some (.configAtmosphere m a)
  | .configFeed t v => some (.configFeed m t v)
  | .readConfig v => some (.readConfig m v)
  | .openLot n => some (.openLot m n)
  | .closeLot n => some (.closeLot m n)
  | .admitPack a => some (.admitPack m a)
  | .place n b => some (.place m n b)
  | .stage n => some (.stage m n)
  | .quarantine n => some (.quarantine m n)
  | .remove n => some (.remove m n)
  | .clearExposure n => some (.clearExposure m n)
  | .readPack n => some (.readPack m n)
  | .readLot n => some (.readLot m n)
  | .readQueue => some (.readQueue m)
  | .pauseBay b => some (.pauseBay m b)
  | .continueBay b => some (.continueBay m b)
  | .confirmBay b => some (.confirmBay m b)
  | .unlockBay b => some (.unlockBay m b)
  | .readBay b => some (.readBay m b)
  | .clearPeaks v => some (.clearPeaks m v)
  | .resetZone z => some (.resetZone m z)
  | .holdRelease z => some (.holdRelease m z)
  | .isolateHead l a => some (.isolateHead m l a)
  | .restoreHead l a => some (.restoreHead m l a)
  | .loopTest l => some (.loopTest m l)
  | .readZone z => some (.readZone m z)
  | .readHead l a => some (.readHead m l a)
  | .inertStart => some (.inertStart m)
  | .inertStop => none
  | .shredStart => some (.shredStart m)
  | .shredStop => some (.shredStop m)
  | .feedClear v => some (.feedClear m v)
  | .readAtmosphere => some (.readAtmosphere m)
  | .readFeed => some (.readFeed m)
  | .readJournal n c => some (.readJournal m n c)
  | .exportMark n => some (.exportMark m n)
  | .readIncident n => some (.readIncident m n)

/-- The request asks nothing of the Journal Writer, and its step ends with the Link Port's next frame alone (R174, R176). -/
def Request.linkOnly : Request → Bool
  | .readStatus | .setClock _ | .restart | .subscribe _ | .readConfig _ | .readPack _ | .readLot _ | .readQueue => true
  | .readBay _ | .clearPeaks _ | .loopTest _ | .readZone _ | .readHead _ _ | .readAtmosphere | .readFeed => true
  | .setMode _ | .resume | .configClass _ | .configBay _ | .configBudget _ _ | .configZone _ | .configAction _ _ _ _ => false
  | .configHead _ _ _ _ _ | .configAtmosphere _ | .configFeed _ _ | .openLot _ | .closeLot _ | .admitPack _ | .place _ _ => false
  | .stage _ | .quarantine _ | .remove _ | .clearExposure _ | .pauseBay _ | .continueBay _ | .confirmBay _ | .unlockBay _ => false
  | .resetZone _ | .holdRelease _ | .isolateHead _ _ | .restoreHead _ _ | .inertStart | .inertStop | .shredStart | .shredStop => false
  | .feedClear _ | .readJournal _ _ | .exportMark _ | .readIncident _ => false

/-- The state in which the request `k` with message tag `m` has been answered `r`, its reply in the queue and the Link Port gone on. -/
def answered (s : State) (m : Byte) (k : Request) (r : Reply) : State := linkPump (s.withEntry m k (.formed r))

/-- The requests queued are those of `s` and behind them `k` with message tag `m` at stage `st`. -/
def Queued (s t : State) (m : Byte) (k : Request) (st : Stage) : Prop := t.link.queue = s.link.queue ++ [⟨m, .known k, st⟩]

/-- Of the Link Port, at most the request queue, the pending classes and the two change lists differ. -/
def LinkKept (s t : State) : Prop :=
  t.link = { s.link with
    queue := t.link.queue, noticePending := t.link.noticePending, baysChanged := t.link.baysChanged
    packsChanged := t.link.packsChanged, overflow := t.link.overflow }

/-- The records of the drafts `ds` have joined the record buffer in order, with the next sequence numbers and the line clock; of the
Journal Writer only the slots and erases this calls for differ besides, and of the line only the flush-done mark (R152, R154, R155). -/
def Accepts (s t : State) (ds : List Draft) : Prop :=
  (∃ new, t.writer.buffer = s.writer.buffer ++ new
    ∧ new.map Buffered.record = ds.mapIdx (fun i d => d.record (s.writer.nextSeq + i) s.clock))
  ∧ t.writer = { s.writer with
      buffer := t.writer.buffer, nextSeq := s.writer.nextSeq + ds.length
      current := t.writer.current, used := t.writer.used, aheads := t.writer.aheads }
  ∧ t.line = { s.line with flushDone := t.line.flushDone }

/-- The record of kind `k` that an entry `q` with its charge counted stands for (R12, R154). -/
def drafted (q : Pack) (k : RecordKind) (bay : Option BayId) (d : Detail) : Draft :=
  ⟨k, q.tag, q.lot, .pack q.state, bay, q.energy, q.trips, q.rebounds, q.charge, d⟩

/-- Entry `p` as it stands once its pack has been quarantined for `r`, one more record counted (R12, R14). -/
def Pack.quarantinedFor (p : Pack) (r : QuarReason) : Pack :=
  { p with state := .quarantined, reason := some r, charge := p.charge + 1 }

/-- Every bay but `b` is as it was. -/
def OtherBays (b : BayId) (s t : State) : Prop := ∀ c, c ≠ b → t.bay c = s.bay c

/-- Every bay but `b` is as it was but for its grant and what follows from it: its command and sustained count (R36, R61, R64). -/
def OtherBaysRegranted (b : BayId) (s t : State) : Prop :=
  ∀ c, c ≠ b → t.bay c = { s.bay c with
    grant := (t.bay c).grant, command := (t.bay c).command, sustained := (t.bay c).sustained }

/-- Every zone but `z` is as it was. -/
def OtherZones (z : ZoneId) (s t : State) : Prop := ∀ w, w ≠ z → t.zone w = s.zone w

/-- Every pack but `p` is as it was. -/
def OtherPacks (p : Tag) (s t : State) : Prop := ∀ q, q ≠ p → t.pack q = s.pack q

/-- The entry of `q`'s tag has become `q` and the record `d` stands behind the records buffered; no other entry, and nothing but the
tables of records and packs and the Link Port's pending classes and lists, differs (R11, R12). -/
def PackWritten (s t : State) (q : Pack) (d : Draft) : Prop :=
  t.pack q.tag = some q ∧ OtherPacks q.tag s t ∧ Accepts s t [d] ∧ LinkKept s t ∧ t.link.queue = s.link.queue
  ∧ t = { s with packs := t.packs, writer := t.writer, line := t.line, link := t.link }

/-- Bay `b` is LOCKED with its pack, whose entry has become `q` and which has left the queue; the bay sends no command, is out of the
arbiter, runs no timer and has lost REQUESTED and RESTART, its block in progress goes on (log 61), and the records `ds` stand behind the
records buffered (R14, R37, R42, R45). -/
def PackLocked (b : BayId) (s t : State) (q : Pack) (ds : List Draft) : Prop :=
  t.pack q.tag = some q ∧ OtherPacks q.tag s t ∧ t.queue = s.queue.filter (· ≠ q.tag)
  ∧ (t.bay b).pack = some q.tag
  ∧ t.bay b = { s.bay b with
      state := .locked, dischargeMs := (t.bay b).dischargeMs, clearMs := (t.bay b).clearMs, retryCount := (t.bay b).retryCount
      sustained := 0, retryTimer := none, restTimer := none, command := 0, participant := false, request := 0, grant := 0
      holds := { (s.bay b).holds with requested := false, restart := false } }
  ∧ OtherBaysRegranted b s t ∧ Accepts s t ds ∧ LinkKept s t ∧ t.link.queue = s.link.queue
  ∧ t = { s with packs := t.packs, queue := t.queue, bays := t.bays, writer := t.writer, line := t.line, link := t.link }

/-- A pack event submitted now is taken at once: the rebuild has ended, no event is held, and `n` more records fit (R1, R155). -/
def State.takesEvents (s : State) (n : Nat) : Prop := s.phase = .running ∧ s.held = [] ∧ s.writer.buffer.length + n ≤ 64

/-- The bays have taken LINE, ZONE and COOLING as their sources give them in `t` (R42, R43, R110): REQUESTED and RESTART stay; a bay that
waits for a held event, or is neither DISCHARGING nor HELD, changes nothing but its set and what a recomputation of the grants gives it; a
DISCHARGING bay that gains its first reason is HELD, without command and out of the arbiter; a HELD bay with GOOD sense whose set empties
discharges again, its block discarded. -/
def BaysFollow (s t : State) : Prop :=
  ∀ b, let x := s.bay b
    let y := t.bay b
    y = { x with
      state := y.state, holds := y.holds, block := y.block, sustained := y.sustained, command := y.command
      participant := y.participant, request := y.request, grant := y.grant, rateLimit := y.rateLimit
      thermalLimit := y.thermalLimit, wanted := y.wanted }
    ∧ y.holds = { x.holds with
        line := modeHolds t.line.mode
        zone := (x.settings.map (fun v => t.effect.marks[v.zone])).getD false
        cooling := !t.coolingOk }
    ∧ (s.awaiting b = true ∨ (x.state ≠ .discharging ∧ x.state ≠ .held) →
        y = { x with holds := y.holds, grant := y.grant, command := y.command, sustained := y.sustained })
    ∧ (s.awaiting b = false → x.state = .discharging → x.holds.isEmpty = true → y.holds.isEmpty = false →
        y.state = .held ∧ y.command = 0 ∧ y.participant = false)
    ∧ (s.awaiting b = false → x.state = .discharging → y.holds.isEmpty = true → y.state = .discharging)
    ∧ (s.awaiting b = false → x.state = .held → x.holds.isEmpty = false → x.sense = .good → y.holds.isEmpty = true →
        y.state = .discharging ∧ y.participant = true ∧ y.block = none)
    ∧ (x.state = .held → (y.holds.isEmpty = false ∨ x.sense = .lost) → y.state = .held)

/-- Run permission is the one its five conditions in `t` give, and an interlock that it takes from STARTING or RUNNING is STOPPING, its
start timer discarded and its 60 s of rundown begun (R133). -/
def RunFollows (s t : State) : Prop :=
  t.interlock.permission = t.runConditions.met
  ∧ (s.interlock.permission = true → t.runConditions.met = false → (s.interlock.state = .starting ∨ s.interlock.state = .running) →
      t.interlock = { s.interlock with
        state := .stopping, permission := false, startTimer := none, rundownTimer := some 60000 })

/-- The other loop than `l` is as it was. -/
def OtherLoop (l : LoopId) (s t : State) : Prop := ∀ k, k ≠ l → t.loop k = s.loop k

/-- The rows of the table of R145: the present mode and the target. -/
def modeRow (o m : LineMode) : Bool :=
  match o, m with
  | .standby, .production => true
  | .production, .drain => true
  | .drain, .production => true
  | .production, .standby => true
  | .drain, .standby => true
  | .standby, .maintenance => true
  | .production, .maintenance => true
  | .drain, .maintenance => true
  | .maintenance, .standby => true
  | _, _ => false

/-- The condition of a row of R145. -/
def State.modeCondition (s : State) (m : LineMode) : Bool :=
  match m with
  | .production => s.line.mode ≠ .standby || s.notValid.isEmpty
  | .maintenance => s.interlock.state = .stopped && s.feeder.state ≠ .feeding
  | _ => true

end Sys2Proof.Machine
end

