-- ==== Sys2Proof/Certificates/Slice0/Obligations.lean ====
section
/-! DEFINITION. The statements for the provers: the machine as a whole, the host link, the requests family by family, the field events, the NV array. -/

open Sys2Proof Sys2Proof.Machine

/-! ### The machine as a whole -/

/-- A step with a command in front runs that command on the rest of the queue. -/
def Obligations.StepTakesFront : Prop :=
  ∀ (c : Instr) (s : State), step { s with pending := c :: s.pending } = exec c s

/-- With no command waiting the part's own time base goes on by 1 ms (DESIGN CHOICE, log 3), and a part held in reset stands still; held
in reset it takes the events of its inputs, its supply and its resets only (DESIGN CHOICE, log 30). -/
def Obligations.StepIdles : Prop :=
  (∀ s : State, s.pending = [] →
     (s.inReset = false → step s = .next (finish s (tick s)) ∧ (tick s).now = s.now + 1
       ∧ (∀ b, (s.bay b).state = .discharging → s.awaiting b = false →
           ((tick s).bay b).dischargeMs = (s.bay b).dischargeMs + 1 ∧ ((tick s).bay b).clearMs = (s.bay b).clearMs + 1)
       ∧ (∀ b, (s.bay b).state ≠ .discharging → ((tick s).bay b).dischargeMs = (s.bay b).dischargeMs))
     ∧ (s.inReset = true → step s = .next s))
  ∧ (∀ (c : Instr) (s : State), s.inReset = true →
       (match c with
         | .rawInputChange _ _ | .supplyWarning _ | .supplyNormal _ | .powerReset | .powerResetRelease _ | .pinReset | .pinResetRelease => True
         | _ => exec c s = .next s))

/-- The end of a step that may have touched the journal: the arbiter, JOURNAL pending where the reserve's sign has changed, and then the
Link Port's next frame, which is all that a step of the Link Port's own rows ends with. Of the Journal Writer the operations in hand and
waiting alone may differ, and the array's content stands. The arbiter: a program or read goes on; a running erase becomes needed, is
suspended or goes on; a free array takes up a program, with the erase it needs, by priority, then a read, the suspended erase, a settings
operation, an erase-ahead. The transmitter: a frame being sent goes on; then the oldest request's reply, else the lowest pending notice.
That a program without a queued erase of its segment has one started for it, and that the flush of a COMMAND reset suspends none, is
DEDUCED, log 16; that a rewrite runs from the start of its erase is DEDUCED, log 15. -/
def Obligations.EndOfStep : Prop :=
  (∀ s₀ s : State,
     let a := arbPump s
     finish s₀ s = linkPump (a.markIf (s₀.reserveLeft ≠ a.reserveLeft) .journal)
     ∧ (finish s₀ s).writer = a.writer ∧ (finish s₀ s).nv = s.nv
     ∧ a.writer = { s.writer with
         running := a.writer.running, suspended := a.writer.suspended, reads := a.writer.reads
         settingsOps := a.writer.settingsOps, aheads := a.writer.aheads }
     ∧ (finish s₀ s).link = { s.link with
         queue := (finish s₀ s).link.queue, tx := (finish s₀ s).link.tx, noticePending := (finish s₀ s).link.noticePending
         baysChanged := (finish s₀ s).link.baysChanged, packsChanged := (finish s₀ s).link.packsChanged
         overflow := (finish s₀ s).link.overflow }
     ∧ finish s₀ s = { s with writer := a.writer, link := (finish s₀ s).link })
  ∧ (∀ s : State,
       let w := s.writer
       let set (v : Writer) : State := { s with writer := v }
       let programs (t : EraseTarget) (erased : Bool) (o : NvOp) : State :=
         if w.suspended = some t then (set { w with suspended := none, running := some (.erase t true false) }).mark .journal
         else if t ∈ w.aheads ∨ erased = false then set { w with aheads := w.aheads.erase t, running := some (.erase t true false) }
         else set { w with running := some o }
       let low : Prop := w.running = none ∧ w.headSlot = none ∧ w.incidents = [] ∧ s.commandFlush = false
       (∀ o, w.running = some o → (∀ t n u, o ≠ .erase t n u) → arbPump s = s)
       ∧ (∀ t n u, w.running = some (.erase t n u) → n = true ∨ u = true → arbPump s = s)
       ∧ (∀ t, w.running = some (.erase t false false) → w.needs t = true →
           arbPump s = set { w with running := some (.erase t true false) })
       ∧ (∀ t, w.running = some (.erase t false false) → w.needs t = false → w.higherWaits = true → w.suspended = none →
           s.commandFlush = false → arbPump s = set { w with running := some (.erase t false true) })
       ∧ (∀ t, w.running = some (.erase t false false) → w.needs t = false →
           (w.higherWaits = false ∨ w.suspended ≠ none ∨ s.commandFlush = true) → arbPump s = s)
       ∧ (∀ n, w.running = none → w.headSlot = some n → (w.incidents = [] ∨ s.flushing = true) →
           arbPump s = programs (.journal (segOf n)) (journalAt s.nv.journal n).isNone (.journalProgram (headRun (segOf n) w.buffer)))
       ∧ (∀ p l, w.running = none → w.incidents = p :: l → (w.headSlot = none ∨ s.flushing = false) →
           arbPump s = programs (.incident (p.number.toNat % 16))
             (p.isClosed || slotErased s.nv.incidents[incidentSlotOf p.number.toNat]) .incidentProgram)
       ∧ (w.running = none → w.headSlot = none → w.incidents = [] → s.commandFlush = true → arbPump s = s)
       ∧ (∀ r l, low → w.reads = r :: l → arbPump s = set { w with reads := l, running := some (.read r) })
       ∧ (∀ t, low → w.reads = [] → w.suspended = some t →
           arbPump s = (set { w with suspended := none, running := some (.erase t false false) }).mark .journal)
       ∧ (∀ c, low → w.reads = [] → w.suspended = none → w.settingsDue = some (.erase c) →
           arbPump s = { set { w with settingsOps := w.settingsOps.erase (.erase c), running := some (.settingsErase c) } with
             link := { s.link with queue := s.link.queue.map (startedEntry c) } })
       ∧ (∀ c, low → w.reads = [] → w.suspended = none → w.settingsDue = some (.program c) →
           arbPump s = set { w with
             settingsOps := w.settingsOps.erase (.program c), running := some (.settingsProgram c (sectionData s c)) })
       ∧ (∀ t l, low → w.reads = [] → w.suspended = none → w.settingsOps = [] → w.aheads = t :: l →
           arbPump s = set { w with aheads := l, running := some (.erase t false false) })
       ∧ (low → w.reads = [] → w.suspended = none → w.settingsOps = [] → w.aheads = [] → arbPump s = s)
       ∧ (w.settingsDue = none ↔ w.settingsOps = []) ∧ (∀ o, w.settingsDue = some o → o ∈ w.settingsOps))
  ∧ (∀ (g : Nat) (l : List Buffered),
       headRun g l ≤ l.length ∧ (∀ b ∈ l.take (headRun g l), b.slot.map segOf = some g)
       ∧ (∀ b, l[headRun g l]? = some b → b.slot.map segOf ≠ some g))
  ∧ (∀ x : State,
       let idle : Prop := x.link.tx = none ∧ x.link.restart ≠ .flushing
       let unformed : Prop := ∀ e, x.link.queue.head? = some e → ∀ r, e.stage ≠ .formed r
       (x.link.tx.isSome = true ∨ x.link.restart = .flushing → linkPump x = x)
       ∧ (∀ m k r l, idle → x.link.queue = ⟨m, k, .formed r⟩ :: l →
           linkPump x = { x with link := { x.link with queue := l, tx := some (.reply k.replyKind m r) } })
       ∧ (∀ c, idle → unformed → x.link.due = some c →
           linkPump x = { x with link := { x.link.sent c with tx := some (.notice (noticeContent x c)) } })
       ∧ (idle → unformed → x.link.due = none → linkPump x = x)
       ∧ (x.link.due = none ↔ x.link.noticePending = 0#7)
       ∧ (∀ c, x.link.due = some c → x.link.noticePending &&& noticeBit c ≠ 0#7
           ∧ ∀ d, noticeBit d < noticeBit c → x.link.noticePending &&& noticeBit d = 0#7)
       ∧ (∀ c, c ≠ .pack → x.link.sent c = { x.link with
           noticePending := x.link.noticePending &&& ~~~(noticeBit c)
           baysChanged := if c = .bay then 0#8 else x.link.baysChanged })
       ∧ x.link.sent .pack = { x.link with
           noticePending := if x.link.packsChanged.length ≤ 12 then x.link.noticePending &&& ~~~(noticeBit .pack)
             else (x.link.noticePending &&& ~~~(noticeBit .pack)) ||| (noticeBit .pack &&& x.link.subscribed)
           packsChanged := x.link.packsChanged.drop 12, overflow := false })

/-- The values the manual gives for a reset, of the line, the bays, the loops, the zones, the chamber, the shredder, the feeder, the
tables and the link, and the four forms that every step keeps; the JOURNAL notice of the end of the scan is being sent. The blank array and
the moment at which State.reset stands are DESIGN CHOICE, log 4. -/
def Obligations.ResetState : Prop :=
  (State.reset.line.mode = .standby ∧ State.reset.line.cause = none ∧ State.reset.line.flushDone = false
   ∧ (∀ i, State.reset.level i = inputSafe i)
   ∧ State.reset.clock = ⟨0#32, true⟩
   ∧ (∀ b, (State.reset.bay b).state = .empty ∧ (State.reset.bay b).pack = none ∧ (State.reset.bay b).command = 0
       ∧ (State.reset.bay b).sense = .good ∧ (State.reset.bay b).residue = 0 ∧ (State.reset.bay b).holds.line = true
       ∧ (State.reset.bay b).holds.cooling = true ∧ (State.reset.bay b).peaks = none)
   ∧ (∀ l, (State.reset.loop l).waiting = [.resync] ∧ (State.reset.loop l).testing = false
       ∧ (State.reset.loop l).stranger = false ∧ (State.reset.loop l).frameErrors = 0)
   ∧ (∀ z, (State.reset.zone z).main = .normal ∧ (State.reset.zone z).quench = false ∧ (State.reset.zone z).suppression = false
       ∧ (State.reset.zone z).release = .idle ∧ (State.reset.zone z).holdUsed = false)
   ∧ State.reset.incident.progress = none
   ∧ State.reset.atm.state = .air ∧ State.reset.atm.valve = .closed ∧ State.reset.atm.sensorFail = true
   ∧ State.reset.atm.control = none ∧ State.reset.atm.gas = 0 ∧ State.reset.atm.peak = none
   ∧ State.reset.interlock.state = .stopped ∧ State.reset.interlock.permission = false
   ∧ State.reset.feeder.state = .blocked ∧ State.reset.feeder.gate = false ∧ State.reset.feeder.tag = none
   ∧ State.reset.feeder.strays = 0
   ∧ State.reset.link.rx = .hunting ∧ State.reset.link.discards = 0 ∧ State.reset.link.discardedRequests = 0
   ∧ State.reset.link.queue = [] ∧ State.reset.link.subscribed = 0x7f#7 ∧ State.reset.link.noticePending = 0#7
   ∧ State.reset.link.tx = some (.notice (noticeContent State.reset .journal))
   ∧ State.reset.packs = [] ∧ State.reset.lots = [] ∧ State.reset.queue = [] ∧ State.reset.gaps = [] ∧ State.reset.pending = [])
  ∧ (State.reset.storageWf = true ∧ State.reset.runWf = true ∧ State.reset.valveWf = true ∧ State.reset.grantWf = true)

/-- Every step keeps the journal area in its canonical form, the Journal Writer, the Link Port and the feed gate in theirs: beside a free
transmitter no formed reply of the oldest request waits and no class is pending, start-up included, but for the flush of a COMMAND reset. -/
def Obligations.StorageKept : Prop :=
  ∀ s t : State, s.storageWf = true → step s = .next t → t.storageWf = true

/-- Every step keeps run permission equal to its five conditions, and the run output off without it. -/
def Obligations.PermissionKept : Prop :=
  ∀ s t : State, s.runWf = true → step s = .next t → t.runWf = true

/-- Every step keeps the valve command the one that state, door and INERT_BOOST give. -/
def Obligations.ValveKept : Prop :=
  ∀ s t : State, s.valveWf = true → step s = .next t → t.valveWf = true

/-- Every step keeps the sum of the bay grants within the effective budget. -/
def Obligations.GrantsKept : Prop :=
  ∀ s t : State, s.grantWf = true → step s = .next t → t.grantWf = true

/-! ### Frames and figures -/

/-- The frame of a request, received byte by byte by a hunting receiver, joins the request queue as that request, every field as sent.
A frame that the part sends has sync, length, kind, message tag, payload and CRC: a reply carries its request's message tag and its
status first, a notice the kind of its class and message tag 0; an open part has 94 bytes and a close part 19. -/
def Obligations.FrameQueuesRequest : Prop :=
  (∀ (s : State) (m : Byte) (r : Request), s.link.rx = .hunting →
     (requestFrame m r).foldl receiveByte s
       = joinQueue { s with link := { s.link with rx := .hunting, gap := none } } m (.known r))
  ∧ (∀ (k m : Byte) (p : List Byte),
       let body := BitVec.ofNat 8 (p.length + 2) :: k :: m :: p
       frameOf k m p = 0xc3#8 :: body ++ [(crc16 body).extractLsb' 8 8, (crc16 body).extractLsb' 0 8])
  ∧ (∀ (k m : Byte) (r : Reply), (OutFrame.reply k m r).bytes = frameOf k m (r.status.code :: r.body.bytes))
  ∧ (∀ (s : State) (c : NoticeClass),
       (OutFrame.notice (noticeContent s c)).bytes
         = frameOf (match c with
             | .zone => 0xe0#8 | .bay => 0xe1#8 | .pack => 0xe2#8 | .atmosphere => 0xe3#8 | .feed => 0xe4#8 | .line => 0xe5#8
             | .journal => 0xe6#8) 0#8 (noticeContent s c).bytes)
  ∧ (∀ o : OpenPart, o.bytes.length = 94) ∧ (∀ c : ClosePart, c.bytes.length = 19)

/-- A bay's figures: end and release voltage and C-rate limit from its class, thermal limit from the heatsink average, the wanted current
the lowest of the three limits, the request and the command from it. The water-fill serves each participant once, gives none more than
its request, and gives no more than the budget in all; where the requests fit, each grant is the request; where they do not, the
participants are served by ascending request, equal requests in bay order, each with the lower of its request and its share of what
remains. A recomputation gives every participant its share, and one whose grant has changed forms its command afresh; a bay that enters
DISCHARGING forms its request on its latest averages and takes part. -/
def Obligations.BudgetAndFigures : Prop :=
  (∀ (w : Nat) (ps : List (BayId × Nat)),
     ((waterFill w ps).map Prod.snd).sum ≤ w
     ∧ ((ps.map Prod.snd).sum ≤ w → waterFill w ps = ps)
     ∧ ((waterFill w ps).map Prod.fst).Perm (ps.map Prod.fst)
     ∧ (∀ g ∈ waterFill w ps, ∃ r, (g.1, r) ∈ ps ∧ g.2 ≤ r)
     ∧ (w < (ps.map Prod.snd).sum →
         let f := waterFill w ps
         ∃ o : List (BayId × Nat), o.Perm ps ∧ f.map Prod.fst = o.map Prod.fst
           ∧ (∀ (i j : Nat) (x y : BayId × Nat), i < j → o[i]? = some x → o[j]? = some y → x.2 < y.2 ∨ (x.2 = y.2 ∧ x.1 ≤ y.1))
           ∧ (∀ (i : Nat) (x g : BayId × Nat), o[i]? = some x → f[i]? = some g →
               g.2 = min x.2 ((w - ((f.take i).map Prod.snd).sum) / (ps.length - i)))))
  ∧ (∀ (v : BaySettings) (t : Int),
       thermalLimit v t ≤ v.currentMax
       ∧ (t ≤ v.derate → thermalLimit v t = v.currentMax)
       ∧ (v.derate < t → t < v.tripTemp →
           thermalLimit v t = ((v.currentMax : Int) * (v.tripTemp - t) / (v.tripTemp - v.derate)).toNat)
       ∧ (v.derate < t → v.tripTemp ≤ t → thermalLimit v t = 0))
  ∧ (∀ (m g w : Nat) (v : Int),
       (v ≤ 0 → requestFor m w v = 0 ∧ commandFor g w v = 0)
       ∧ (0 < v → requestFor m w v = min m (v.toNat * w / 10000))
       ∧ (0 < v → 100 ≤ min w (g * 10000 / v.toNat) → commandFor g w v = min w (g * 10000 / v.toNat))
       ∧ (0 < v → min w (g * 10000 / v.toNat) < 100 → commandFor g w v = 0))
  ∧ (∀ (s : State) (p : Pack) (c : ClassSettings) (x : Bay) (v : BaySettings), s.classes[p.cls] = some c → x.settings = some v →
       s.endVoltage p = p.cells * c.endMv / 10 ∧ s.releaseVoltage p = p.cells * c.relMv / 10
       ∧ (let w := min (p.capacity * c.rate / 10) (min v.currentMax (thermalLimit v x.hAvg))
          formRequest s p x = { x with
            rateLimit := p.capacity * c.rate / 10, thermalLimit := thermalLimit v x.hAvg, wanted := w
            request := requestFor v.powerMax w x.vAvg }))
  ∧ (∀ s : State,
       let t := regrant s
       (∀ g ∈ waterFill s.effective s.participants, (t.bay g.1).grant = g.2)
       ∧ (∀ b, (s.bay b).participant = false → t.bay b = s.bay b)
       ∧ (∀ b, t.bay b = { s.bay b with
           grant := (t.bay b).grant, command := (t.bay b).command, sustained := (t.bay b).sustained })
       ∧ (∀ b, (t.bay b).grant = (s.bay b).grant → t.bay b = s.bay b)
       ∧ (∀ b, (t.bay b).grant ≠ (s.bay b).grant →
           (t.bay b).command = commandFor (t.bay b).grant (s.bay b).wanted (s.bay b).vAvg
           ∧ (t.bay b).sustained = if (t.bay b).command < 100 then 0 else (s.bay b).sustained)
       ∧ LinkKept s t ∧ t = { s with bays := t.bays, link := t.link })
  ∧ (∀ (s : State) (b : BayId) (p : Pack), s.bayPack b = some p →
       let t := enterDischarging s b
       let x := formRequest s p (s.bay b)
       t.bay b = { x with
         state := .discharging, sustained := 0, participant := true, grant := (t.bay b).grant
         command := commandFor (t.bay b).grant x.wanted x.vAvg }
       ∧ (∀ g ∈ waterFill s.effective t.participants, (t.bay g.1).grant = g.2)
       ∧ OtherBaysRegranted b s t ∧ LinkKept s t ∧ t = { s with bays := t.bays, link := t.link })

/-- The ALARM and PRE conditions of a zone, clause by clause, the ALARM condition looked at first; an evaluation row by row: NORMAL and
PRE_ALARM move on the conditions, ALARM and RELEASED stay. The entry into ALARM: the zone's record with its release timer, the incident
opened with its snapshot or joined, the packs located in the zone exposed in intake order and counted, the Action Matrix and ZONE. A zone
that takes its inputs forms its counts, its fault attribute and its bay-thermal input afresh, hands a changed fault attribute to the
Action Matrix and is then evaluated (in this order: DEDUCED, log 13), several zones in the order given, a bay's report at its own zone;
and what counts, fault attribute and bay-thermal input are. The alarm cause by the input change; the first head at ALARM of several, the
causes of an isolation, a withdrawal and the like, of a CONFIG_ZONE under a head clause, and of the restoration of a head at MISSING or
FAULT that sets the fault attribute are DEDUCED, log 34. -/
def Obligations.ZoneConditions : Prop :=
  (∀ x : Zone,
     (x.coincidence = true ↔ x.settings.coincidence = true ∧ x.fault = false)
     ∧ (x.alarmHolds = true ↔
         1 ≤ x.counts.flameAlarm ∨ (x.coincidence = false ∧ 1 ≤ x.counts.alarm) ∨ (x.coincidence = true ∧ 2 ≤ x.counts.alarm)
         ∨ x.settings.alarmThreshold ≤ x.sparks ∨ x.sparks = 65535 ∨ x.settings.windowsForAlarm ≤ x.consecutive
         ∨ (x.thermal = true ∧ 1 ≤ x.counts.pre + x.counts.alarm))
     ∧ (x.preHolds = true ↔
         1 ≤ x.counts.pre ∨ (x.counts.alarm = 1 ∧ x.coincidence = true) ∨ x.settings.preThreshold ≤ x.sparks ∨ x.thermal = true)
     ∧ (∀ (s : State) (z : ZoneId) (i : ZoneInput) (f : Bool), s.zone z = x → x.alarmHolds = true →
         (x.main = .normal ∨ x.main = .preAlarm) → evaluateZone s z i f = enterAlarm s z (alarmCause s z i f)))
  ∧ (∀ (s : State) (z : ZoneId) (i : ZoneInput) (f : Bool),
       let x := s.zone z
       (x.main = .normal → x.alarmHolds = false → x.preHolds = true →
         evaluateZone s z i f = formEffects (putZone s z { x with main := .preAlarm }))
       ∧ (x.main = .normal → x.alarmHolds = false → x.preHolds = false → evaluateZone s z i f = s)
       ∧ (x.main = .preAlarm → x.alarmHolds = false → x.preHolds = true →
         evaluateZone s z i f = putZone s z { x with preClear := none })
       ∧ (x.main = .preAlarm → x.alarmHolds = false → x.preHolds = false →
         evaluateZone s z i f = putZone s z { x with preClear := some (x.preClear.getD 10000) })
       ∧ (x.main = .alarm ∨ x.main = .released → evaluateZone s z i f = s)
       ∧ (∀ c,
           let y := putZone s z { x with
             main := .alarm, preClear := none, cause := c
             release := if x.settings.releaseDelay = 0 then x.release else .running (1000 * x.settings.releaseDelay) }
           enterAlarm s z c = (formEffects (incidentStep y z)).mark .zone
           ∧ (enterAlarm s z c).zone z = { x with
             main := .alarm, preClear := none, cause := c
             release := if x.settings.releaseDelay = 0 then x.release else .running (1000 * x.settings.releaseDelay) }))
  ∧ (∀ (s : State) (z : ZoneId),
       let here := s.packs.filter (located s z)
       let ex := (here.filter (fun p => p.state ≠ .quarantined)).map Pack.tag
       let q := (here.filter (fun p => p.state = .quarantined)).length
       let n := s.incident.number + 1#16
       let one : Vector Bool 12 := vput (Vector.replicate 12 false) z true
       (s.incident.progress = none →
         incidentStep s z = handPart (exposeAll { s with incident := ⟨n, some ⟨s.now, one, 0, ex.length, q⟩⟩ } n ex)
           (.opened { openSnapshot s z n with exposed := ex.length, quarantined := q }))
       ∧ (∀ p, s.incident.progress = some p →
         incidentStep s z = exposeAll { s with incident := ⟨s.incident.number, some { p with
           zones := vput p.zones z true, exposed := min 65535 (p.exposed + ex.length)
           quarantined := min 65535 (p.quarantined + q) }⟩ } s.incident.number ex)
       ∧ (∀ i, exposeAll s i [] = s)
       ∧ (∀ i t l, exposeAll s i (t :: l) = exposeAll (submit s (.expose t i)).1 i l)
       ∧ (∀ p : Pack, located s z p = true ↔
           (p.state = .staged ∧ (s.zone z).settings.role = .staging) ∨ (p.state = .feeding ∧ (s.zone z).settings.role = .infeed)
           ∨ ((p.state = .inBay ∨ p.state = .released ∨ p.state = .quarantined)
               ∧ ∃ b v, p.bay = some b ∧ (s.bay b).settings = some v ∧ v.zone = z ∧ (s.bay b).pack = some p.tag))
       ∧ (let o := openSnapshot s z n
          o.number = n ∧ o.opened = s.clock ∧ o.firstZone = z ∧ o.cause = (s.zone z).cause ∧ o.mode = s.line.mode
          ∧ o.effect = s.effect ∧ (∀ w : ZoneId, o.zones[w] = (s.zone w).main)
          ∧ (∀ b : BayId, o.bays[b] = ⟨(s.bay b).state, (s.bay b).pack, (s.bay b).overLimit⟩)
          ∧ o.queueLength = s.queue.length ∧ o.queueHead = s.queue.head? ∧ o.atmosphere = s.atm.state ∧ o.control = s.atm.control
          ∧ (o.headFeeding = true ↔ ∃ t p, s.queue.head? = some t ∧ s.pack t = some p ∧ p.state = .feeding)
          ∧ o.interlock = s.interlock.state ∧ o.feeder = s.feeder.state))
  ∧ (∀ (s : State) (z : ZoneId) (f : Bool),
       let x := s.zone z
       let atAlarm (l : LoopId) (a : HeadAddr) (h : Head) : Prop :=
         s.head l a = some h ∧ h.zone = z ∧ h.isolated = false ∧ h.level = .alarm
       let first (l : LoopId) (a : HeadAddr) (h : Head) : Prop :=
         atAlarm l a h ∧ ∀ k c g, atAlarm k c g → (k = .a → l = .a) ∧ (k = l → a ≤ c)
       let hot (b : BayId) : Prop := (s.bay b).overLimit = true ∧ ∃ v, (s.bay b).settings = some v ∧ v.zone = z
       let byHead : Prop :=
         1 ≤ x.counts.flameAlarm ∨ (x.coincidence = false ∧ 1 ≤ x.counts.alarm) ∨ (x.coincidence = true ∧ 2 ≤ x.counts.alarm)
       (∀ l a h, s.head l a = some h → (f = true → h.level ≠ .missing ∧ h.level ≠ .fault) →
           alarmCause s z (.head l a) f = some (.head l a h.kind h.level h.value))
       ∧ (∀ l a h k c g, first l a h → s.head k c = some g → (g.level = .missing ∨ g.level = .fault) →
           alarmCause s z (.head k c) true = some (.head l a h.kind h.level h.value))
       ∧ (∀ l a h, first l a h → alarmCause s z .lost f = some (.head l a h.kind h.level h.value))
       ∧ (∀ l a, alarmCause s z (.spark l a) f = some (.spark (some (l, a)) x.sparks x.consecutive))
       ∧ (∀ n, alarmCause s z (.window n) f = some (.spark x.lastSpark n x.consecutive))
       ∧ (∀ b u, hot b → (∀ c, c < b → ¬hot c) → (s.bay b).lastValid = some u →
           alarmCause s z .thermal f = some (.bayThermal b u.packTemp))
       ∧ (∀ i, (i = .config ∨ i = .other) → ¬byHead → alarmCause s z i f = some (.spark x.lastSpark x.sparks x.consecutive))
       ∧ (∀ i l a h, (i = .config ∨ i = .other) → byHead → first l a h →
           alarmCause s z i f = some (.head l a h.kind h.level h.value)))
  ∧ (∀ (s : State) (z : ZoneId) (i : ZoneInput),
       let f := s.zoneFault z
       let y := putZone s z { s.zone z with counts := s.headCounts z, fault := f, thermal := s.zoneThermal z }
       ((s.zone z).fault = f → refreshZone s z i = evaluateZone y z i false)
       ∧ ((s.zone z).fault ≠ f → refreshZone s z i = evaluateZone (formEffects y) z i f)
       ∧ refreshZones s [] i = s ∧ (∀ w l, refreshZones s (w :: l) i = refreshZones (refreshZone s w i) l i)
       ∧ (∀ b v, (s.bay b).settings = some v → thermalChange s b = refreshZone s v.zone .thermal)
       ∧ (∀ b, (s.bay b).settings = none → thermalChange s b = s))
  ∧ (∀ (s : State) (z : ZoneId),
       let hot (b : BayId) : Prop := (s.bay b).overLimit = true ∧ ∃ v, (s.bay b).settings = some v ∧ v.zone = z
       let counted (l : LoopId) (a : HeadAddr) (h : Head) : Prop := s.head l a = some h ∧ h.zone = z ∧ h.isolated = false
       let on (l : LoopId) (p : Head → Bool) : Nat := allAddrs.countP (fun a => (s.head l a).any (fun h => h.zone = z && p h))
       let among (p : Head → Bool) : Nat := on .a p + on .b p
       let n := s.headCounts z
       (s.zoneThermal z = true ↔ ∃ b, hot b)
       ∧ (∀ b, s.thermalBay z = some b ↔ hot b ∧ ∀ c, c < b → ¬hot c)
       ∧ n.counted = among (fun h => !h.isolated) ∧ n.isolated = among (fun h => h.isolated)
       ∧ n.pre = among (fun h => !h.isolated && h.level = .pre) ∧ n.alarm = among (fun h => !h.isolated && h.level = .alarm)
       ∧ n.flameAlarm = among (fun h => !h.isolated && h.level = .alarm && h.kind = .flame)
       ∧ n.bad = among (fun h => !h.isolated && (h.level = .missing || h.level = .fault))
       ∧ (s.zoneFault z = true ↔
           (∃ l a h, counted l a h ∧ (h.level = .missing ∨ h.level = .fault))
           ∨ (∃ l a h, counted l a h ∧ (s.loop l).state = .short)
           ∨ ((∃ l a h, s.head l a = some h ∧ h.zone = z) ∧ ∀ l a h, s.head l a = some h → h.zone = z → h.isolated = true)))

/-- The settings of CONFIG_BAY, CONFIG_CLASS, CONFIG_BUDGET, CONFIG_ZONE, CONFIG_ATMOSPHERE and CONFIG_FEED as sent and as applied: every
numeric setting at the nearest limit of its range, and then the dependent limits in their order, with the values that they set; so every
setting lies in the range of the manual, every dependent limit holds, and a bay's settings in range are kept. -/
def Obligations.SettingsInRange : Prop :=
  (∀ (a : BayArgs) (z : ZoneId),
    let u := baySent a z
    let v := bayApplied a z
    let current := min 30000 (max 100 u.currentMax)
    let trip := min 32000 u.tripCurrent
    let derate := min 1400 (max (-300) u.derate)
    let hot := min 1500 (max (-290) u.tripTemp)
    let cool := min 1400 (max (-400) u.restartTemp)
    u = { zone := z, currentMax := a.currentMax.toNat, powerMax := a.powerMax.toNat, tripCurrent := a.tripCurrent.toNat
          derate := a.derate.toInt, tripTemp := a.tripTemp.toInt, restartTemp := a.restartTemp.toInt
          retryDelay := a.retryDelay.toNat, retryLimit := a.retryLimit.toNat, clearPeriod := a.clearPeriod.toNat
          maxTime := a.maxTime.toNat }
    ∧ v = { zone := z, currentMax := current, powerMax := min 15000 (max 100 u.powerMax)
            tripCurrent := if trip ≤ current then current + 1 else trip
            derate := derate, tripTemp := if hot ≤ derate then derate + 10 else hot
            restartTemp := if derate ≤ cool then derate - 50 else cool
            retryDelay := min 600 (max 1 u.retryDelay), retryLimit := min 7 u.retryLimit
            clearPeriod := min 3600 (max 10 u.clearPeriod), maxTime := min 86400 (max 600 u.maxTime) }
    ∧ (100 ≤ v.currentMax ∧ v.currentMax ≤ 30000) ∧ (100 ≤ v.powerMax ∧ v.powerMax ≤ 15000)
    ∧ (v.currentMax + 1 ≤ v.tripCurrent ∧ v.tripCurrent ≤ 32000) ∧ (-300 ≤ v.derate ∧ v.derate ≤ 1400)
    ∧ (v.derate + 1 ≤ v.tripTemp ∧ v.tripTemp ≤ 1500) ∧ (-400 ≤ v.restartTemp ∧ v.restartTemp < v.derate)
    ∧ (1 ≤ v.retryDelay ∧ v.retryDelay ≤ 600) ∧ v.retryLimit ≤ 7 ∧ (10 ≤ v.clearPeriod ∧ v.clearPeriod ≤ 3600)
    ∧ (600 ≤ v.maxTime ∧ v.maxTime ≤ 86400) ∧ v.zone = z
    ∧ (bayClamped u = u → u.currentMax < u.tripCurrent → u.derate < u.tripTemp → u.restartTemp < u.derate → v = u))
  ∧ (∀ a : ClassArgs,
    let u := classSent a
    let v := classApplied a
    let e := min 4500 u.endMv
    u = ⟨a.endMv.toNat, a.relMv.toNat, a.rate.toNat, a.limit.toInt, a.rest.toNat⟩
    ∧ v = ⟨e, max e (min 4500 u.relMv), min 500 (max 1 u.rate), min 1200 (max 0 u.limit), min 7200 u.rest⟩
    ∧ v.endMv ≤ v.relMv ∧ v.relMv ≤ 4500 ∧ (1 ≤ v.rate ∧ v.rate ≤ 500) ∧ (0 ≤ v.limit ∧ v.limit ≤ 1200) ∧ v.rest ≤ 7200)
  ∧ (∀ (w : BitVec 16) (e : Byte),
    let v := budgetApplied w e
    budgetSent w e = ⟨w.toNat, e.toNat⟩ ∧ v = ⟨min 60000 (max 1000 w.toNat), min 4 e.toNat⟩
    ∧ (1000 ≤ v.watts ∧ v.watts ≤ 60000) ∧ v.exponent ≤ 4)
  ∧ (∀ (a : ZoneArgs) (c q : Bool) (r : Role),
    let u := zoneSent a c q r
    let v := zoneApplied u
    let pre := max 1 u.preThreshold
    u = { coincidence := c, releaseDelay := a.releaseDelay.toNat, holdTime := a.holdTime.toNat, window := a.window.toNat
          preThreshold := a.preThreshold.toNat, alarmThreshold := a.alarmThreshold.toNat
          windowsForAlarm := a.windowsForAlarm.toNat, quenchEnable := q, quenchPulse := a.quenchPulse.toNat, role := r }
    ∧ v = { coincidence := c, releaseDelay := min 120 u.releaseDelay, holdTime := min 120 (max 10 u.holdTime)
            window := min 10000 (max 200 u.window), preThreshold := pre, alarmThreshold := max pre u.alarmThreshold
            windowsForAlarm := min 10 (max 2 u.windowsForAlarm), quenchEnable := q
            quenchPulse := min 5000 (max 100 u.quenchPulse), role := r }
    ∧ v.releaseDelay ≤ 120 ∧ (10 ≤ v.holdTime ∧ v.holdTime ≤ 120) ∧ (200 ≤ v.window ∧ v.window ≤ 10000)
    ∧ (1 ≤ v.preThreshold ∧ v.preThreshold ≤ v.alarmThreshold ∧ v.alarmThreshold ≤ 65535)
    ∧ (2 ≤ v.windowsForAlarm ∧ v.windowsForAlarm ≤ 10) ∧ (100 ≤ v.quenchPulse ∧ v.quenchPulse ≤ 5000))
  ∧ (∀ a : AtmArgs,
    let u := atmSent a
    let v := atmApplied u
    let permit := min 1500 (max 100 u.permit)
    let breach := min 2500 (max 200 u.breach)
    let back := min 500 (max 10 u.hysteresis)
    u = { permit := a.permit.toNat, hysteresis := a.hysteresis.toNat, breach := a.breach.toNat, settle := a.settle.toNat
          resettle := a.resettle.toNat, maxPurge := a.maxPurge.toNat, exponent := a.exponent.toNat
          disagree := a.disagree.toNat, purgeFlow := a.purgeFlow.toNat, trimFlow := a.trimFlow.toNat }
    ∧ v = { permit := permit, hysteresis := if permit - 50 < back then permit - 50 else back
            breach := if breach ≤ permit then permit + 100 else breach, settle := min 300 (max 5 u.settle)
            resettle := min 120 u.resettle, maxPurge := min 3600 (max 60 u.maxPurge), exponent := min 3 u.exponent
            disagree := min 1000 (max 10 u.disagree), purgeFlow := min 2000 u.purgeFlow, trimFlow := min 500 u.trimFlow }
    ∧ (100 ≤ v.permit ∧ v.permit ≤ 1500) ∧ (10 ≤ v.hysteresis ∧ v.hysteresis ≤ 500 ∧ v.hysteresis + 50 ≤ v.permit)
    ∧ (200 ≤ v.breach ∧ v.permit < v.breach ∧ v.breach ≤ 2500) ∧ (5 ≤ v.settle ∧ v.settle ≤ 300) ∧ v.resettle ≤ 120
    ∧ (60 ≤ v.maxPurge ∧ v.maxPurge ≤ 3600) ∧ v.exponent ≤ 3 ∧ (10 ≤ v.disagree ∧ v.disagree ≤ 1000)
    ∧ v.purgeFlow ≤ 2000 ∧ v.trimFlow ≤ 500)
  ∧ (∀ f w : Byte,
    let v := feedApplied f w
    feedSent f w = ⟨f.toNat, w.toNat⟩ ∧ v = ⟨min 120 (max 5 f.toNat), min 8 (max 1 w.toNat)⟩
    ∧ (5 ≤ v.feedTime ∧ v.feedTime ≤ 120) ∧ (1 ≤ v.step ∧ v.step ≤ 8))

/-- READ_STATUS, READ_ATMOSPHERE and READ_FEED are answered at once and change nothing; READ_CONFIG, READ_BAY, READ_ZONE and READ_HEAD
likewise for an identifier in range, OUT_OF_RANGE otherwise. What READ_STATUS, READ_BAY, READ_ZONE, READ_HEAD, READ_ATMOSPHERE and
READ_FEED give, item by item, remaining and elapsed times in whole seconds (DEDUCED, log 43); a bay still DISCHARGING that has left the
arbiter shows request and grant 0 (DEDUCED, log 46), and a participant whose request is 0 is starved (DEDUCED, log 63). -/
def Obligations.ReadsAnswered : Prop :=
  (∀ (s : State) (m v a : Byte), s.takesNow = true →
    exec (.readStatus m) s = .next (answered s m .readStatus ⟨.ok, .status (statusView s)⟩)
    ∧ exec (.readAtmosphere m) s = .next (answered s m .readAtmosphere ⟨.ok, .atmView (atmView s)⟩)
    ∧ exec (.readFeed m) s = .next (answered s m .readFeed ⟨.ok, .feedView (feedView s)⟩)
    ∧ (∀ c, sectionOf v = some c → exec (.readConfig m v) s
        = .next (answered s m (.readConfig v) ⟨.ok, .config s.writer.valid[sectionIdx c] (sectionData s c)⟩))
    ∧ (∀ b, bayOf v = some b → exec (.readBay m v) s = .next (answered s m (.readBay v) ⟨.ok, .bayView (bayView s b)⟩))
    ∧ (∀ z, zoneOf v = some z → exec (.readZone m v) s = .next (answered s m (.readZone v) ⟨.ok, .zoneView (zoneView s z)⟩))
    ∧ (∀ l h, loopOf v = some l → addrOf a = some h →
        exec (.readHead m v a) s = .next (answered s m (.readHead v a) ⟨.ok, .headView (headView s l h)⟩))
    ∧ (sectionOf v = none → exec (.readConfig m v) s = .next (answered s m (.readConfig v) ⟨.outOfRange, .none⟩))
    ∧ (bayOf v = none → exec (.readBay m v) s = .next (answered s m (.readBay v) ⟨.outOfRange, .none⟩))
    ∧ (zoneOf v = none → exec (.readZone m v) s = .next (answered s m (.readZone v) ⟨.outOfRange, .none⟩))
    ∧ (loopOf v = none ∨ addrOf a = none → exec (.readHead m v a) s = .next (answered s m (.readHead v a) ⟨.outOfRange, .none⟩)))
  ∧ (∀ s : State, statusView s = {
       mode := s.line.mode, cause := s.line.cause, effect := s.effect, incident := s.incident.number
       incidentOpen := s.incident.progress.isSome, valid := s.writer.valid, free := s.freeSpace, reserve := s.reserve
       buffered := s.writer.buffer.length, newest := s.writer.nextSeq - 1, mark := s.writer.mark
       inputs := [s.line.inputs.estop.cond, s.line.inputs.doorClosed.cond, s.line.inputs.coolingOk.cond, s.line.inputs.shredRunning.cond,
         s.line.inputs.packPassed.cond]
       monitor := s.line.monitor, flushDone := s.line.flushDone, packs := s.packs.length, openLot := s.openLot.map Lot.number
       subscribed := s.link.subscribed, noticePending := s.link.noticePending, discardedRequests := s.link.discardedRequests
       discards := s.link.discards, clock := s.clock })
  ∧ (∀ (s : State) (b : BayId),
       let x := s.bay b
       let on {α : Type} (v w : α) : α := if x.state = .discharging then v else w
       bayView s b = {
         state := x.state, configured := x.settings.isSome, pack := x.pack, holds := x.holds
         primary := if x.holds.line then some 1 else if x.holds.zone then some 2 else if x.holds.cooling then some 3
           else if x.holds.requested then some 4 else if x.holds.restart then some 5 else none
         command := on x.command 0, request := on (some x.request) none, grant := on (some x.grant) none
         figures := on (some (x.rateLimit, x.thermalLimit, x.wanted)) none, starved := x.participant && x.command == 0
         lastValid := x.lastValid, averages := x.averages, lastMark := x.lastMark, invalidRun := x.invalidRun, sense := x.sense
         retryCount := x.retryCount, dischargeSeconds := x.dischargeMs / 1000, clearSeconds := x.clearMs / 1000
         retryTimer := x.retryTimer.map (· / 1000), restTimer := x.restTimer.map (· / 1000), sustained := x.sustained
         overLimit := x.overLimit, peaks := x.peaks, residue := x.residue, budget := s.budget.watts
         effective := s.budget.watts * s.effect.pct / 100, participants := allBays.countP (fun c => (s.bay c).participant)
         granted := (allBays.map (fun c => (s.bay c).grant)).sum })
  ∧ (∀ (s : State) (z : ZoneId),
       let x := s.zone z
       let c := x.settings.coincidence && !x.fault
       zoneView s z = {
         main := x.main, fault := x.fault
         alarmClauses := [decide (1 ≤ x.counts.flameAlarm), !c && decide (1 ≤ x.counts.alarm), c && decide (2 ≤ x.counts.alarm),
           decide (x.settings.alarmThreshold ≤ x.sparks), decide (x.sparks = 65535),
           decide (x.settings.windowsForAlarm ≤ x.consecutive), x.thermal && decide (1 ≤ x.counts.pre + x.counts.alarm)]
         preClauses := [decide (1 ≤ x.counts.pre), decide (x.counts.alarm = 1) && c, decide (x.settings.preThreshold ≤ x.sparks), x.thermal]
         counts := x.counts, thermal := x.thermal, thermalBay := s.thermalBay z, sparks := x.sparks, consecutive := x.consecutive
         window := x.window, lastSpark := x.lastSpark, preClear := x.preClear.map (· / 1000), release := x.release
         holdUsed := x.holdUsed, holdTimer := x.holdTimer.map (· / 1000), cause := x.cause, quench := x.quench
         quenchTimer := x.quenchTimer, quenchCount := x.quenchCount, suppression := x.suppression, releaseCount := x.releaseCount })
  ∧ (∀ (s : State) (l : LoopId) (a : HeadAddr),
       let x := s.loop l
       let of (p : Head → Bool) : Nat := allAddrs.countP (fun c => (x.heads[c]).any p)
       headView s l a = {
         loop := l, addr := a, entry := x.heads[a], state := x.state, testing := x.testing, testTimer := x.testTimer.map (· / 1000)
         cursor := x.cursor, enrolled := of (fun _ => true), missing := of (fun h => h.level = .missing), tested := of Head.tested
         stranger := x.stranger, lastStranger := if x.stranger then x.lastStranger else none, strangerCount := x.strangerCount
         frameErrors := x.frameErrors })
  ∧ (∀ s : State,
       let x := s.atm
       let shown (c : Channel) : ChannelView := ⟨c.valid, c.last, c.average, c.invalidRun, c.validRun⟩
       atmView s = {
         chanA := shown x.chanA, chanB := shown x.chanB, control := x.control, disagree := x.disagree, degraded := x.degraded
         sensorFail := x.sensorFail, state := x.state, settled := x.settled, cause := x.cause, doorClosed := s.doorClosed
         valve := x.valve, boost := s.effect.inertBoost, maxPurge := x.maxPurge.map (· / 1000), settle := x.settle.map (· / 1000)
         runCondition := x.state = .inert || x.state = .drift, feedCondition := x.state = .inert && x.settled, litres := x.gas / 60
         gas := x.gas, peak := x.peak, settings := x.settings })
  ∧ (∀ s : State,
       let x := s.interlock
       let f := s.feeder
       feedView s = {
         interlock := x.state, cause := x.cause, runOutput := x.state = .starting || x.state = .running, feedback := s.feedback
         permission := x.permission, conditions := s.runConditions, startTimer := x.startTimer.map (· / 1000)
         rundownTimer := x.rundownTimer.map (· / 1000), feeder := f.state, reasons := f.reasons
         primary := if f.reasons.mode then some 1 else if f.reasons.atmosphere then some 2 else if f.reasons.settle then some 3
           else if f.reasons.shredder then some 4 else if f.reasons.effect then some 5 else none
         gate := f.gate, tag := f.tag, feedTimer := f.feedTimer.map (· / 1000), resettleTimer := f.resettleTimer.map (· / 1000)
         strays := f.strays, settings := f.settings }
       ∧ s.runConditions = {
           atmosphere := s.atm.state = .inert || s.atm.state = .drift
           mode := s.line.mode = .production || s.line.mode = .drain, noStop := !s.effect.stopShredder
           estopClear := !s.estopActive, doorClosed := s.doorClosed })

/-- READ_PACK, READ_LOT and READ_QUEUE read without changing anything and are answered as soon as they are taken, in every line mode;
and what READ_STATUS gives of custody and of the journal. -/
def Obligations.CustodyReads : Prop :=
  ∀ (s : State) (m : Byte) (n : Tag), s.custodyTakes = true →
    exec (.readPack m 0#32) s = .next (answered s m (.readPack 0#32) ⟨.outOfRange, .none⟩)
    ∧ (n ≠ 0#32 → s.pack n = none → exec (.readPack m n) s = .next (answered s m (.readPack n) ⟨.notFound, .none⟩))
    ∧ (∀ p, n ≠ 0#32 → s.pack n = some p →
        exec (.readPack m n) s = .next (answered s m (.readPack n) ⟨.ok, .pack p (positionIn s.queue n)⟩))
    ∧ exec (.readLot m 0#32) s = .next (answered s m (.readLot 0#32) ⟨.outOfRange, .none⟩)
    ∧ (n ≠ 0#32 → s.lot n = none → exec (.readLot m n) s = .next (answered s m (.readLot n) ⟨.notFound, .none⟩))
    ∧ (∀ l, n ≠ 0#32 → s.lot n = some l →
        exec (.readLot m n) s = .next (answered s m (.readLot n) ⟨.ok, .lot l (l.admitted - l.fed - l.removed)⟩))
    ∧ exec (.readQueue m) s
        = .next (answered s m .readQueue ⟨.ok, .queue s.queue ((s.queue.head?.bind s.pack).map Pack.state)⟩)
    ∧ (statusView s).packs = s.packs.length ∧ (statusView s).openLot = s.openLot.map Lot.number
    ∧ (statusView s).free = s.freeSpace ∧ (statusView s).reserve = s.reserve

/-- The line clock: SET_CLOCK takes any value and clears the clock-unset mark, nothing else changing; it counts on by one a second,
wrapping; every reset starts it at 0 with the mark set; and a record takes it as its time stamp. -/
def Obligations.LineClock : Prop :=
  ∀ (s : State) (m : Byte) (n : BitVec 32),
    (s.takesNow = true →
      exec (.setClock m n) s = .next (answered { s with clock := ⟨n, false⟩ } m (.setClock n) ⟨.ok, .clock ⟨n, false⟩⟩))
    ∧ (s.inReset = false → exec .clockSecond s = .next { s with clock := ⟨s.clock.seconds + 1#32, s.clock.unset⟩ })
    ∧ (0xffffffff#32 : BitVec 32) + 1#32 = 0#32
    ∧ (startUp s).clock = ⟨0#32, true⟩ ∧ (holdReset s .inPowerReset).clock = ⟨0#32, true⟩ ∧ (holdReset s .inPinReset).clock = ⟨0#32, true⟩
    ∧ (∀ d : Draft, ((accept s d).writer.buffer.getLast?.map (fun b => b.record.stamp)) = some s.clock)

/-- RESTART, taken with every earlier reply sent: accepted in STANDBY and SAFE_HOLD, and refused WRONG_MODE in every other mode; it waits
behind an earlier reply, and is taken in the step that has sent the last one; the requests that wait untaken when a frame has been sent
are taken in their turn. With its reply sent the flush starts, and the COMMAND reset is taken once the flush is complete. -/
def Obligations.RestartTaken : Prop :=
  ∀ (s : State) (m : Byte), s.inReset = false →
    (s.takesNow = true → s.link.replying = false → s.link.queue = [] → (s.line.mode = .standby ∨ s.line.mode = .safeHold) →
      exec (.restart m) s
        = .next (answered { s with link := { s.link with restart := .accepted } } m .restart ⟨.ok, .none⟩))
    ∧ (s.takesNow = true → s.link.replying = false → s.link.queue = [] → s.line.mode ≠ .standby → s.line.mode ≠ .safeHold →
      exec (.restart m) s = .next (answered s m .restart ⟨.wrongMode, .none⟩))
    ∧ (s.takesNow = true → (s.link.replying = true ∨ s.link.queue ≠ []) →
      exec (.restart m) s = .next (linkPump (s.withEntry m .restart .untaken)))
    ∧ (∀ k r, s.link.tx = some (.reply k m r) → s.link.restart = .accepted →
      exec .transmitComplete s
        = .next (finish s { s with link := { s.link with tx := none, restart := .flushing } }))
    ∧ (s.link.tx.isSome = true → s.link.restart ≠ .accepted →
      exec .transmitComplete s = .next (finish s (takeAll 4 { s with link := { s.link with tx := none } })))
    ∧ (∀ k n r, s.link.tx = some (.reply k n r) → s.link.restart = .none → s.link.queue = [⟨m, .known .restart, .untaken⟩] →
      let took (x : Restart) (st : Status) : Prop :=
        exec .transmitComplete s = .next (finish s { s with link := { s.link with
          tx := none, restart := x, queue := [⟨m, .known .restart, .formed ⟨st, .none⟩⟩] } })
      (s.line.mode = .standby ∨ s.line.mode = .safeHold → took .accepted .ok)
      ∧ (s.line.mode ≠ .standby → s.line.mode ≠ .safeHold → took .none .wrongMode))
    ∧ (s.link.restart = .flushing → s.writer.incidents = [] → (∀ b ∈ s.writer.buffer, b.slot = none) → s.writer.running = none →
      exec .commandResetTaken s = .next (startUp s))

/-- SET_MODE: a row of the table with its condition met sets the mode and hands its items, the bays taking their hold reasons and the
interlock its run permission, a STARTING or RUNNING one that loses it going to STOPPING with 60 s of rundown; every other target is
refused as the rule says. The further changes of an empty custody table in DRAIN and of an open door on leaving MAINTENANCE follow at
once. A bay that waits for a held event changes its set alone (DEDUCED, log 14). That the custody table counts as empty before the
rebuild has ended is DEDUCED, log 62. -/
def Obligations.SetModeTaken : Prop :=
  ∀ (s : State) (m v : Byte), s.takesNow = true →
    (modeOf v = none → exec (.setMode m v) s = .next (finish s (s.withEntry m (.setMode v) (.formed ⟨.outOfRange, .none⟩))))
    ∧ ∀ g, modeOf v = some g →
      (modeRow s.line.mode g = false →
        exec (.setMode m v) s = .next (finish s (s.withEntry m (.setMode v) (.formed ⟨.wrongState, .none⟩))))
      ∧ (modeRow s.line.mode g = true → g = .production → s.modeCondition g = false →
        exec (.setMode m v) s
          = .next (finish s (s.withEntry m (.setMode v) (.formed ⟨.notConfigured, .notValid s.notValid⟩))))
      ∧ (modeRow s.line.mode g = true → g = .maintenance → s.modeCondition g = false →
        exec (.setMode m v) s = .next (finish s (s.withEntry m (.setMode v)
          (.formed ⟨.wrongState, .notStopped s.interlock.state s.feeder.state⟩))))
      ∧ (modeRow s.line.mode g = true → s.modeCondition g = true →
        ∃ t, exec (.setMode m v) s = .next (finish s t)
          ∧ Queued s t m (.setMode v) (.formed ⟨.ok, .mode t.line.mode⟩)
          ∧ t.line.mode = (if g = .drain ∧ s.packs = [] then .standby
              else if s.line.mode = .maintenance ∧ s.doorClosed = false then .safeHold else g)
          ∧ t.line = { s.line with mode := t.line.mode, cause := if t.line.mode = .safeHold then some .door else none }
          ∧ BaysFollow s t ∧ RunFollows s t
          ∧ (t.runConditions.met = true ∨ (s.interlock.state ≠ .starting ∧ s.interlock.state ≠ .running) →
              t.interlock = { s.interlock with permission := t.runConditions.met })
          ∧ t.feeder.reasons = t.blockReasons
          ∧ LinkKept s t
          ∧ t = { s with
              packs := t.packs, held := t.held, bays := t.bays, line := t.line, interlock := t.interlock
              feeder := t.feeder, link := t.link })

/-- RESUME: with the four conditions met SAFE_HOLD is left for STANDBY, its cause cleared, and the bays take their hold reasons;
otherwise it is refused, with the conditions as they stand where the line is in SAFE_HOLD. A bay that waits for a held event changes its
set alone (DEDUCED, log 14). -/
def Obligations.ResumeTaken : Prop :=
  ∀ (s : State) (m : Byte), s.takesNow = true →
    (s.line.mode ≠ .safeHold → exec (.resume m) s = .next (finish s (s.withEntry m .resume (.formed ⟨.wrongState, .none⟩))))
    ∧ (s.line.mode = .safeHold → s.resumeConditions.met = false →
      exec (.resume m) s
        = .next (finish s (s.withEntry m .resume (.formed ⟨.wrongState, .resumeConditions s.resumeConditions⟩))))
    ∧ (s.line.mode = .safeHold → s.estopActive = false → s.doorClosed = true → s.effect.lineHold = false → s.line.monitor = .normal →
      ∃ t, exec (.resume m) s = .next (finish s t) ∧ Queued s t m .resume (.formed ⟨.ok, .mode .standby⟩)
        ∧ t.line = { s.line with mode := .standby, cause := none }
        ∧ BaysFollow s t ∧ t.feeder.reasons = t.blockReasons
        ∧ LinkKept s t
        ∧ t = { s with
            packs := t.packs, held := t.held, bays := t.bays, line := t.line, interlock := t.interlock
            feeder := t.feeder, link := t.link })

/-- SUBSCRIBE: the class set becomes the subscribed set; a class added becomes pending, a class removed leaves the pending set, and the
two change lists follow their classes; bit 7 is refused. -/
def Obligations.SubscribeTaken : Prop :=
  ∀ (s : State) (m v : Byte), s.takesNow = true →
    (v.getLsbD 7 = true → exec (.subscribe m v) s = .next (answered s m (.subscribe v) ⟨.outOfRange, .none⟩))
    ∧ (v.getLsbD 7 = false →
      let c : BitVec 7 := v.setWidth 7
      let x := s.link.subscribe c
      exec (.subscribe m v) s = .next (answered { s with link := x } m (.subscribe v) ⟨.ok, .classSet c⟩)
      ∧ x.subscribed = c ∧ x.noticePending = ((s.link.noticePending &&& c) ||| (c &&& ~~~s.link.subscribed))
      ∧ (s.link.subscribed.getLsbD 1 = false → c.getLsbD 1 = true → x.baysChanged = 0xff#8)
      ∧ (s.link.subscribed.getLsbD 1 = true → c.getLsbD 1 = false → x.baysChanged = 0#8)
      ∧ (s.link.subscribed.getLsbD 2 = false → c.getLsbD 2 = true → x.overflow = true)
      ∧ (s.link.subscribed.getLsbD 2 = true → c.getLsbD 2 = false → x.packsChanged = [] ∧ x.overflow = false)
      ∧ x = { s.link with
          subscribed := x.subscribed, noticePending := x.noticePending, baysChanged := x.baysChanged
          packsChanged := x.packsChanged, overflow := x.overflow })

/-! ### Configuration -/

/-- The settings requests that reach no bay: CONFIG_ATMOSPHERE in AIR, refused WRONG_STATE in any other state, and CONFIG_FEED, whose
step the supply monitor applies at once; each asks for the rewrite that its reply waits for. -/
def Obligations.PlantConfigured : Prop :=
  ∀ (s : State) (m : Byte), s.takesNow = true →
    (∀ a, s.atm.state ≠ .air →
      exec (.configAtmosphere m a) s = .next (finish s (s.withEntry m (.configAtmosphere a) (.formed ⟨.wrongState, .none⟩))))
    ∧ (∀ a, s.atm.state = .air →
      ∃ t, exec (.configAtmosphere m a) s = .next (finish s t)
        ∧ Queued s t m (.configAtmosphere a) (.waiting (.rewrite .atmosphere false
            ⟨if atmApplied (atmSent a) = atmSent a then .ok else .clamped, .atmosphere (atmApplied (atmSent a))⟩))
        ∧ SettingsOp.erase .atmosphere ∈ t.writer.settingsOps
        ∧ t.writer = { s.writer with settingsOps := t.writer.settingsOps }
        ∧ t = { s with
            atm := { s.atm with settings := atmApplied (atmSent a) }
            feeder := { s.feeder with resettle := (atmApplied (atmSent a)).resettle }
            writer := t.writer, link := t.link }
        ∧ LinkKept s t)
    ∧ (∀ f w, ∃ t, exec (.configFeed m f w) s = .next (finish s t)
        ∧ Queued s t m (.configFeed f w) (.waiting (.rewrite .feed false
            ⟨if feedApplied f w = feedSent f w then .ok else .clamped, .feed (feedApplied f w)⟩))
        ∧ SettingsOp.erase .feed ∈ t.writer.settingsOps
        ∧ t.writer = { s.writer with settingsOps := t.writer.settingsOps }
        ∧ t.feeder.settings = feedApplied f w
        ∧ t.line.monitor = monitorAfter (feedApplied f w).step s.line.supply s.line.monitor
        ∧ (t.line.monitor = s.line.monitor → t = { s with
            feeder := { s.feeder with settings := feedApplied f w }, writer := t.writer, link := t.link }))

/-- CONFIG_CLASS: the class takes its settings as applied and every class but it is as it was; each participant with a pack of the class
forms its limits, wanted current and request again and its command from its grant; the grants are the water-fill of the requests where
some request has changed, and stay where none has; every other bay keeps everything but its grant, command and sustained count, and out
of the arbiter those too. It holds for every order of the bays of one class (log 55); that a bay which has left the arbiter with an event
held keeps its figures is DEDUCED, log 56. A class outside 1 to 8 is refused. CONFIG_BUDGET: budget and exponent are those as applied;
where the effective budget changes the grants are the water-fill of it, each bay whose grant has changed forming its command afresh and
no other bay changing; where it does not change no bay changes. -/
def Obligations.ClassAndBudgetConfigured : Prop :=
  (∀ (s : State) (m : Byte) (a : ClassArgs), s.takesNow = true →
     (classOf a.cls = none →
       exec (.configClass m a) s = .next (finish s (s.withEntry m (.configClass a) (.formed ⟨.outOfRange, .none⟩))))
     ∧ ∀ c, classOf a.cls = some c →
       ∃ t, exec (.configClass m a) s = .next (finish s t)
         ∧ Queued s t m (.configClass a) (.waiting (.rewrite .cls false
             ⟨if classApplied a = classSent a then .ok else .clamped, .cls (classApplied a)⟩))
         ∧ t.classes = vput s.classes c (some (classApplied a))
         ∧ (classApplied a).endMv ≤ (classApplied a).relMv ∧ (classApplied a).relMv ≤ 4500
         ∧ SettingsOp.erase .cls ∈ t.writer.settingsOps
         ∧ (let ofClass (b : BayId) (p : Pack) : Prop := (s.bay b).participant = true ∧ s.bayPack b = some p ∧ p.cls = c
           (∀ b p, ofClass b p →
             let x := formRequest t p (s.bay b)
             t.bay b = { x with
               grant := (t.bay b).grant, command := commandFor (t.bay b).grant x.wanted x.vAvg, sustained := (t.bay b).sustained }
             ∧ ((t.bay b).command < 100 → (t.bay b).sustained = 0))
           ∧ (∀ b, (∀ p, ¬ofClass b p) →
             t.bay b = { s.bay b with
               grant := (t.bay b).grant, command := (t.bay b).command, sustained := (t.bay b).sustained }
             ∧ ((s.bay b).participant = false → t.bay b = s.bay b)
             ∧ ((t.bay b).grant ≠ (s.bay b).grant →
                 (t.bay b).command = commandFor (t.bay b).grant (s.bay b).wanted (s.bay b).vAvg))
           ∧ ((∃ b p, ofClass b p ∧ (formRequest t p (s.bay b)).request ≠ (s.bay b).request) →
             ∀ g ∈ waterFill t.effective t.participants, (t.bay g.1).grant = g.2)
           ∧ ((∀ b p, ofClass b p → (formRequest t p (s.bay b)).request = (s.bay b).request) →
             ∀ b, (t.bay b).grant = (s.bay b).grant))
         ∧ LinkKept s t
         ∧ t = { s with
             classes := t.classes, bays := t.bays, link := t.link
             writer := { s.writer with settingsOps := t.writer.settingsOps } })
  ∧ (∀ (s : State) (m e : Byte) (w : BitVec 16), s.takesNow = true →
       ∃ t, exec (.configBudget m w e) s = .next (finish s t)
         ∧ Queued s t m (.configBudget w e) (.waiting (.rewrite .budget false
             ⟨if budgetApplied w e = budgetSent w e then .ok else .clamped, .budget (budgetApplied w e)⟩))
         ∧ t.budget = budgetApplied w e
         ∧ SettingsOp.erase .budget ∈ t.writer.settingsOps
         ∧ (∀ b, t.bay b = { s.bay b with
             grant := (t.bay b).grant, command := (t.bay b).command, sustained := (t.bay b).sustained })
         ∧ (s.effective = t.effective → t.bays = s.bays)
         ∧ (s.effective ≠ t.effective →
             (∀ g ∈ waterFill t.effective t.participants, (t.bay g.1).grant = g.2)
             ∧ (∀ b, (t.bay b).grant = (s.bay b).grant → t.bay b = s.bay b)
             ∧ (∀ b, (t.bay b).grant ≠ (s.bay b).grant →
                 (t.bay b).command = commandFor (t.bay b).grant (s.bay b).wanted (s.bay b).vAvg
                 ∧ (t.bay b).sustained = if (t.bay b).command < 100 then 0 else (s.bay b).sustained))
         ∧ (s.grantWf = true → t.grantWf = true)
         ∧ LinkKept s t
         ∧ t = { s with
             budget := t.budget, bays := t.bays, link := t.link
             writer := { s.writer with settingsOps := t.writer.settingsOps } })

/-- CONFIG_BAY: taken in EMPTY, LOCKED and PLACED with RESTART, the bay's settings are those as applied and hold reason ZONE follows the
new zone; the zones that an asserted pack-over-limit report leaves and joins take it then. Refused WRONG_STATE in any other bay,
OUT_OF_RANGE for a bay or zone outside its range. -/
def Obligations.BayConfigured : Prop :=
  ∀ (s : State) (m : Byte) (a : BayArgs), s.takesNow = true →
    (bayOf a.bay = none ∨ zoneOf a.zone = none →
      exec (.configBay m a) s = .next (finish s (s.withEntry m (.configBay a) (.formed ⟨.outOfRange, .none⟩))))
    ∧ ∀ b z, bayOf a.bay = some b → zoneOf a.zone = some z →
      ((s.bay b).state ≠ .empty → (s.bay b).state ≠ .locked → ¬((s.bay b).state = .placed ∧ (s.bay b).holds.restart = true) →
        exec (.configBay m a) s = .next (finish s (s.withEntry m (.configBay a) (.formed ⟨.wrongState, .none⟩))))
      ∧ ((s.bay b).state = .empty ∨ (s.bay b).state = .locked ∨ ((s.bay b).state = .placed ∧ (s.bay b).holds.restart = true) →
        ∃ v, exec (.configBay m a) s = .next (finish s ((askRewrite
              (if (s.bay b).overLimit then refreshZones v (movedZones ((s.bay b).settings.map BaySettings.zone) z) .thermal else v)
              .bay).withStage (.waiting (.rewrite .bay false
                ⟨if bayApplied a z = baySent a z then .ok else .clamped, .bay (bayApplied a z)⟩))))
          ∧ Queued s v m (.configBay a) .untaken
          ∧ v.bay b = { s.bay b with
              settings := some (bayApplied a z)
              holds := { (s.bay b).holds with
                line := modeHolds s.line.mode, zone := s.effect.marks[z], cooling := !s.coolingOk } }
          ∧ OtherBays b s v ∧ LinkKept s v ∧ v = { s with bays := v.bays, link := v.link })

/-- CONFIG_ZONE: refused OUT_OF_RANGE for a zone, role or flag without meaning, the flags tested with the zone (DEDUCED, log 65), outside
NORMAL and for a role another zone holds; otherwise the zone takes its settings as applied, a quench pulse ends where quench is turned
off, the zone is evaluated, and the rewrite asked for. -/
def Obligations.ZoneConfigured : Prop :=
  ∀ (s : State) (m : Byte) (a : ZoneArgs), s.takesNow = true →
    (zoneOf a.zone = none ∨ roleOf a.role = none ∨ flagOf a.coincidence = none ∨ flagOf a.quenchEnable = none →
      exec (.configZone m a) s = .next (finish s (s.withEntry m (.configZone a) (.formed ⟨.outOfRange, .none⟩))))
    ∧ ∀ z r c q, zoneOf a.zone = some z → roleOf a.role = some r → flagOf a.coincidence = some c → flagOf a.quenchEnable = some q →
      let sent := zoneSent a c q r
      let v := zoneApplied sent
      let x : Zone := { s.zone z with settings := v }
      let x : Zone := if q then x else { x with quench := false, quenchTimer := none }
      ((s.zone z).main ≠ .normal →
        exec (.configZone m a) s = .next (finish s (s.withEntry m (.configZone a) (.formed ⟨.wrongState, .none⟩))))
      ∧ ((s.zone z).main = .normal → r ≠ .none → (∃ w, w ≠ z ∧ (s.zone w).settings.role = r) →
        exec (.configZone m a) s = .next (finish s (s.withEntry m (.configZone a) (.formed ⟨.duplicate, .none⟩))))
      ∧ ((s.zone z).main = .normal → (r = .none ∨ ∀ w, w ≠ z → (s.zone w).settings.role ≠ r) →
        exec (.configZone m a) s = .next (finish s ((askRewrite
            (evaluateZone (putZone (s.withEntry m (.configZone a) .untaken) z x) z .config false) .zone).withStage
            (.waiting (.rewrite .zone false ⟨if v = sent then .ok else .clamped, .zone v⟩))))
        ∧ v.preThreshold ≤ v.alarmThreshold)

/-- CONFIG_ACTION: the cell is set, the effect set in force is the one the active cells give, and where the effect set comes out as it
was nothing else changes. The active cells of a zone; each action of the effect set stands where some active cell has it, and the
percentage is the lowest of theirs and of 100. A changed effect set at its receivers: hold reason ZONE at the bays, the grants within the
effective budget, the valve, the block reason EFFECT, run permission and the stop of the shredder with its 60 s of rundown, SAFE_HOLD
where LINE_HOLD enters. The statement holds for every order of the parts that is a free value (DESIGN CHOICE, logs 11, 45). A bay that
waits for a held event changes its set alone (DEDUCED, log 14). -/
def Obligations.ActionConfigured : Prop :=
  (∀ (s : State) (m zone column acts pct : Byte), s.takesNow = true →
     (zoneOf zone = none ∨ columnOf column = none ∨ actionsOf acts = none →
       exec (.configAction m zone column acts pct) s
         = .next (finish s (s.withEntry m (.configAction zone column acts pct) (.formed ⟨.outOfRange, .none⟩))))
     ∧ ∀ z c k, zoneOf zone = some z → columnOf column = some c → actionsOf acts = some k →
       ∃ t, exec (.configAction m zone column acts pct) s = .next (finish s t)
         ∧ Queued s t m (.configAction zone column acts pct) (.waiting (.rewrite .action false
             ⟨if pct.toNat ≤ 100 then .ok else .clamped, .cell ⟨k, min 100 pct.toNat⟩⟩))
         ∧ t.cells = vput s.cells z (s.cells[z].put c ⟨k, min 100 pct.toNat⟩)
         ∧ t.effect = effectOf t
         ∧ SettingsOp.erase .action ∈ t.writer.settingsOps
         ∧ t.zones = s.zones ∧ t.packs.length = s.packs.length
         ∧ (t.effect = s.effect → t = { s with
             cells := t.cells, link := t.link, writer := { s.writer with settingsOps := t.writer.settingsOps } })
         ∧ (t.effect ≠ s.effect →
             BaysFollow s t ∧ (s.grantWf = true → t.grantWf = true)
             ∧ (t.effect.inertBoost ≠ s.effect.inertBoost →
                 t.atm = { s.atm with valve := valveFor s.atm.state s.doorClosed t.effect.inertBoost })
             ∧ (t.effect.inertBoost = s.effect.inertBoost → t.atm = s.atm)
             ∧ t.feeder.reasons = t.blockReasons ∧ t.feeder.reasons.effect = t.effect.blockFeed
             ∧ RunFollows s t
             ∧ t.line.mode = (if t.effect.lineHold = true ∧ s.effect.lineHold = false then .safeHold else s.line.mode)
             ∧ t.line.cause = (if t.effect.lineHold = true ∧ s.effect.lineHold = false ∧ s.line.mode ≠ .safeHold then some .lineHold
                 else s.line.cause)))
  ∧ (∀ (s : State) (z : ZoneId) (c : ActionCell), c ∈ s.activeCells z ↔
       ((s.zone z).main = .preAlarm ∧ c = s.cells[z].preAlarm) ∨ ((s.zone z).main = .alarm ∧ c = s.cells[z].alarm)
       ∨ ((s.zone z).main = .released ∧ c = s.cells[z].released) ∨ ((s.zone z).fault = true ∧ c = s.cells[z].fault))
  ∧ (∀ s : State,
       let e := effectOf s
       (e.blockFeed = true ↔ ∃ z, ∃ c ∈ s.activeCells z, c.actions.blockFeed = true)
       ∧ (e.stopShredder = true ↔ ∃ z, ∃ c ∈ s.activeCells z, c.actions.stopShredder = true)
       ∧ (e.inertBoost = true ↔ ∃ z, ∃ c ∈ s.activeCells z, c.actions.inertBoost = true)
       ∧ (e.lineHold = true ↔ ∃ z, ∃ c ∈ s.activeCells z, c.actions.lineHold = true)
       ∧ (∀ z, e.marks[z] = true ↔ ∃ c ∈ s.activeCells z, c.actions.holdBays = true)
       ∧ e.pct ≤ 100 ∧ (∀ z, ∀ c ∈ s.activeCells z, e.pct ≤ c.pct)
       ∧ (e.pct = 100 ∨ ∃ z, ∃ c ∈ s.activeCells z, e.pct = c.pct))

/-- CONFIG_HEAD: OUT_OF_RANGE for an identifier outside its range, the kind and zone of a withdrawal unread; refused while a zone
concerned is outside NORMAL; otherwise the entry is enrolled or withdrawn as sent, the stranger flag is cleared, every other entry is as
it was, and the counts and the fault attribute of the zone it enters, and of the zone it leaves, follow the Head Table. That an enrolled
head sent its own kind and zone again starts afresh is the model's reading of R68 (DEDUCED, log 41). The reply names loop and address
with the entry (DEDUCED, log 54). -/
def Obligations.HeadConfigured : Prop :=
  (∀ (s : State) (m loop addr enrolled kind zone : Byte), s.takesNow = true →
     (loopOf loop = none ∨ addrOf addr = none ∨ flagOf enrolled = none
       ∨ (flagOf enrolled = some true ∧ (kindOf kind = none ∨ zoneOf zone = none))) →
     exec (.configHead m loop addr enrolled kind zone) s
       = .next (finish s (s.withEntry m (.configHead loop addr enrolled kind zone) (.formed ⟨.outOfRange, .none⟩))))
  ∧ (∀ (s : State) (m loop addr enrolled kind zone : Byte) (l : LoopId) (a : HeadAddr) (e : Option Enrollment), s.takesNow = true →
       loopOf loop = some l → addrOf addr = some a →
       ((flagOf enrolled = some false ∧ e = none)
         ∨ (flagOf enrolled = some true ∧ ∃ k z, kindOf kind = some k ∧ zoneOf zone = some z ∧ e = some ⟨k, z⟩)) →
       let out (z : Option ZoneId) : Prop := ∃ y, z = some y ∧ (s.zone y).main ≠ .normal
       (out ((s.head l a).map Head.zone) ∨ out (e.map Enrollment.zone) →
         exec (.configHead m loop addr enrolled kind zone) s
           = .next (finish s (s.withEntry m (.configHead loop addr enrolled kind zone) (.formed ⟨.wrongState, .none⟩))))
       ∧ (¬out ((s.head l a).map Head.zone) → ¬out (e.map Enrollment.zone) →
         ∃ t, exec (.configHead m loop addr enrolled kind zone) s = .next (finish s t)
           ∧ Queued s t m (.configHead loop addr enrolled kind zone) (.waiting (.rewrite .head false ⟨.ok, .head l a (t.head l a)⟩))
           ∧ t.head l a = e.map (fun e =>
               if (s.loop l).state = .short then ⟨e.kind, e.zone, false, .missing, 0, 3, false⟩
               else ⟨e.kind, e.zone, false, .normal, 0, 0, false⟩)
           ∧ (∀ b, b ≠ a → t.head l b = s.head l b) ∧ OtherLoop l s t
           ∧ (t.loop l).stranger = false ∧ (t.loop l).lastStranger = none
           ∧ (t.loop l).cursor = (if e.isSome then some ((s.loop l).cursor.getD a)
               else if (s.loop l).cursor = some a then (t.loop l).nextAfter a else (s.loop l).cursor)
           ∧ (∀ f, e = some f → (t.zone f.zone).counts = t.headCounts f.zone ∧ (t.zone f.zone).fault = t.zoneFault f.zone)
           ∧ (∀ h, s.head l a = some h → (t.zone h.zone).counts = t.headCounts h.zone ∧ (t.zone h.zone).fault = t.zoneFault h.zone)
           ∧ SettingsOp.erase .head ∈ t.writer.settingsOps
           ∧ t.nv = s.nv ∧ t.cells = s.cells ∧ t.classes = s.classes ∧ t.clock = s.clock ∧ t.lots = s.lots))

/-! ### Custody and lots -/

/-- OPEN_LOT: with its checks passed, in their order, an OPEN lot with its LOT_OPEN record; each check that fails names its status.
CLOSE_LOT: the lot becomes CLOSING with its LOT_CLOSE record; with no pack in custody it goes final at once, with LOT_FINAL behind it.
Every other lot is as it was. -/
def Obligations.LotRequestsTaken : Prop :=
  (∀ (s : State) (m : Byte) (n : Tag), s.custodyTakes = true →
     let refused (st : Status) : Prop :=
       exec (.openLot m n) s = .next (finish s (s.withEntry m (.openLot n) (.formed ⟨st, .none⟩)))
     (n = 0#32 → refused .outOfRange)
     ∧ (n ≠ 0#32 → (s.lot n).isSome = true → refused .duplicate)
     ∧ (n ≠ 0#32 → s.lot n = none → s.openLot.isSome = true → refused .wrongState)
     ∧ (n ≠ 0#32 → s.lot n = none → s.openLot = none → 4 ≤ s.lots.length → refused .full)
     ∧ (n ≠ 0#32 → s.lot n = none → s.openLot = none → s.lots.length < 4 → s.freeSpace < s.reserve + 3 → refused .noReserve)
     ∧ (n ≠ 0#32 → s.lot n = none → s.openLot = none → s.lots.length < 4 → s.reserve + 3 ≤ s.freeSpace →
         48 < s.writer.buffer.length → refused .busy)
     ∧ (n ≠ 0#32 → s.lot n = none → s.openLot = none → s.lots.length < 4 → s.reserve + 3 ≤ s.freeSpace →
         s.writer.buffer.length ≤ 48 →
         ∃ t, exec (.openLot m n) s = .next (finish s t) ∧ Queued s t m (.openLot n) (.formed ⟨.ok, .none⟩)
           ∧ t.lots = s.lots ++ [⟨n, .opened, 0, 0, 0, 0, 0, 0, 1, s.writer.nextSeq⟩]
           ∧ Accepts s t [⟨.lotOpen, n, n, .lot .opened, none, 0, 0, 0, 0, .none⟩]
           ∧ LinkKept s t
           ∧ t = { s with lots := t.lots, writer := t.writer, line := t.line, link := t.link }))
  ∧ (∀ (s : State) (m : Byte) (n : Tag), s.custodyTakes = true →
       let refused (st : Status) : Prop :=
         exec (.closeLot m n) s = .next (finish s (s.withEntry m (.closeLot n) (.formed ⟨st, .none⟩)))
       (n = 0#32 → refused .outOfRange)
       ∧ (n ≠ 0#32 → s.lot n = none → refused .notFound)
       ∧ (∀ l, n ≠ 0#32 → s.lot n = some l → l.state = .closing → refused .wrongState)
       ∧ (∀ l, n ≠ 0#32 → s.lot n = some l → l.state ≠ .closing → 48 < s.writer.buffer.length → refused .busy)
       ∧ (∀ l, n ≠ 0#32 → s.lot n = some l → l.state ≠ .closing → s.writer.buffer.length ≤ 48 →
         ∃ t, exec (.closeLot m n) s = .next (finish s t) ∧ LinkKept s t
           ∧ t = { s with lots := t.lots, writer := t.writer, line := t.line, link := t.link }
           ∧ (l.admitted - l.fed - l.removed ≠ 0 →
               t.lots = s.lots.map (fun k => if k.number = n then { l with state := .closing, written := 2 } else k)
               ∧ Queued s t m (.closeLot n) (.formed ⟨.ok, .lotState .closing⟩)
               ∧ Accepts s t [⟨.lotClose, n, n, .lot .closing, none, 0, 0, 0, 0, .none⟩])
           ∧ (l.admitted - l.fed - l.removed = 0 →
               t.lots = s.lots.filter (fun k => k.number ≠ n)
               ∧ Queued s t m (.closeLot n) (.formed ⟨.ok, .lotState .final⟩)
               ∧ Accepts s t [⟨.lotClose, n, n, .lot .closing, none, 0, 0, 0, 0, .none⟩,
                   ⟨.lotFinal, n, n, .lot .final, none, 0, 0, 0, 0,
                     .lotFinal l.admitted l.fed l.removed l.energy l.massFed l.massRemoved (s.atm.gas / 60)⟩])))

/-- ADMIT, its checks passed: a new entry at the end of intake order in the OPEN lot, RELEASED where the declared OCV is at or below the
release voltage and INTAKE otherwise, the lot's admitted count and the ADMIT record. Refused for a field outside its range, and then by
line mode, lot, class, duplicate tag, full table, reserve and record buffer, in that order. -/
def Obligations.PackAdmitted : Prop :=
  (∀ (s : State) (m : Byte) (a : AdmitArgs) (c : ClassId) (l : Lot), s.custodyTakes = true →
     a.tag ≠ 0#32 → classOf a.cls = some c → 1 ≤ a.cells.toNat → a.cells.toNat ≤ 240 → 1 ≤ a.capacity.toNat → a.capacity.toNat ≤ 10000 →
     1 ≤ a.mass.toNat → a.mass.toNat ≤ 20000 → a.ocv.toNat ≤ 100000 → s.line.mode ≠ .drain → s.line.mode ≠ .safeHold →
     s.openLot = some l → (s.classes[c]).isSome = true → s.pack a.tag = none → s.packs.length < 48 → s.reserve + 16 ≤ s.freeSpace →
     s.writer.buffer.length ≤ 48 →
     let low := decide (a.ocv.toNat ≤ a.cells.toNat * (s.classFor c).relMv / 10)
     let st : PackState := if low then .released else .intake
     ∃ t, exec (.admitPack m a) s = .next (finish s t)
       ∧ Queued s t m (.admitPack a) (.formed ⟨.ok, .admitted st s.writer.nextSeq⟩)
       ∧ t.packs = s.packs ++ [{ tag := a.tag, lot := l.number, cls := c, cells := a.cells.toNat, capacity := a.capacity.toNat
                                 mass := a.mass.toNat, ocv := a.ocv.toNat, state := st, bay := none, energy := 0, gap := false
                                 trips := 0, rebounds := 0, charge := 1, firstRecord := s.writer.nextSeq, exposure := none
                                 reason := none }]
       ∧ t.lots = s.lots.map (fun k => if k.number = l.number then { l with admitted := l.admitted + 1 } else k)
       ∧ Accepts s t [⟨.admitted, a.tag, l.number, .pack st, none, 0, 0, 0, 1,
           .admitted c a.cells.toNat a.capacity.toNat a.mass.toNat a.ocv.toNat low⟩]
       ∧ LinkKept s t
       ∧ t = { s with packs := t.packs, lots := t.lots, writer := t.writer, line := t.line, link := t.link })
  ∧ (∀ (s : State) (m : Byte) (a : AdmitArgs), s.custodyTakes = true →
       let refused (st : Status) : Prop :=
         exec (.admitPack m a) s = .next (finish s (s.withEntry m (.admitPack a) (.formed ⟨st, .none⟩)))
       let open_ : Prop := s.line.mode ≠ .drain ∧ s.line.mode ≠ .safeHold
       (a.tag = 0#32 ∨ classOf a.cls = none ∨ a.cells.toNat = 0 ∨ 240 < a.cells.toNat ∨ a.capacity.toNat = 0 ∨ 10000 < a.capacity.toNat
           ∨ a.mass.toNat = 0 ∨ 20000 < a.mass.toNat ∨ 100000 < a.ocv.toNat → admitClass a = none ∧ refused .outOfRange)
       ∧ ∀ (c : ClassId) (l : Lot), admitClass a = some c →
         (s.line.mode = .drain ∨ s.line.mode = .safeHold → refused .wrongMode)
         ∧ (open_ → s.openLot = none → refused .noLot)
         ∧ (open_ → s.openLot = some l → s.classes[c] = none → refused .notConfigured)
         ∧ (open_ → s.openLot = some l → (s.classes[c]).isSome = true → (s.pack a.tag).isSome = true → refused .duplicate)
         ∧ (open_ → s.openLot = some l → (s.classes[c]).isSome = true → s.pack a.tag = none → 48 ≤ s.packs.length → refused .full)
         ∧ (open_ → s.openLot = some l → (s.classes[c]).isSome = true → s.pack a.tag = none → s.packs.length < 48 →
             s.freeSpace < s.reserve + 16 → refused .noReserve)
         ∧ (open_ → s.openLot = some l → (s.classes[c]).isSome = true → s.pack a.tag = none → s.packs.length < 48 →
             s.reserve + 16 ≤ s.freeSpace → 48 < s.writer.buffer.length → refused .busy))

/-- PLACE, its checks passed: the pack is IN_BAY in the bay with its PLACE record, and the bay leaves EMPTY for PLACED with the values
that a visit starts from. Its checks in their order, each with its status: tag and bay in range, line mode, the pack in custody and in
INTAKE, the bay configured and EMPTY, the record buffer. -/
def Obligations.PackPlaced : Prop :=
  (∀ (s : State) (m v : Byte) (n : Tag) (b : BayId) (p : Pack), s.custodyTakes = true →
     n ≠ 0#32 → bayOf v = some b → s.line.mode ≠ .drain → s.line.mode ≠ .safeHold → s.pack n = some p → p.state = .intake →
     (s.bay b).settings.isSome = true → (s.bay b).state = .empty → s.writer.buffer.length ≤ 48 →
     ∃ t, exec (.place m n v) s = .next (finish s t) ∧ Queued s t m (.place n v) (.formed ⟨.ok, .packState (some .inBay)⟩)
       ∧ t.pack n = some { p with state := .inBay, bay := some b, charge := p.charge + 1 } ∧ OtherPacks n s t
       ∧ t.bay b = { s.bay b with
           state := .placed, pack := some n, dischargeMs := 0, clearMs := 0, retryCount := 0, sustained := 0
           lastValid := none, averages := none, block := none, blockWaitsValid := false, reversalDue := true }
       ∧ OtherBays b s t
       ∧ Accepts s t [⟨.placed, n, p.lot, .pack .inBay, some b, p.energy, p.trips, p.rebounds, p.charge + 1, .none⟩]
       ∧ LinkKept s t
       ∧ t = { s with packs := t.packs, bays := t.bays, writer := t.writer, line := t.line, link := t.link })
  ∧ (∀ (s : State) (m v : Byte) (n : Tag), s.custodyTakes = true →
       let refused (st : Status) : Prop :=
         exec (.place m n v) s = .next (finish s (s.withEntry m (.place n v) (.formed ⟨st, .none⟩)))
       (n = 0#32 ∨ bayOf v = none → refused .outOfRange)
       ∧ ∀ b, n ≠ 0#32 → bayOf v = some b →
         (s.line.mode = .drain ∨ s.line.mode = .safeHold → refused .wrongMode)
         ∧ (s.line.mode ≠ .drain → s.line.mode ≠ .safeHold →
           (s.pack n = none → refused .notFound)
           ∧ ∀ p, s.pack n = some p →
             (p.state ≠ .intake → refused .wrongState)
             ∧ (p.state = .intake → (s.bay b).settings = none → refused .notConfigured)
             ∧ (p.state = .intake → (s.bay b).settings.isSome = true → (s.bay b).state ≠ .empty → refused .wrongState)
             ∧ (p.state = .intake → (s.bay b).settings.isSome = true → (s.bay b).state = .empty → 48 < s.writer.buffer.length →
                 refused .busy)))

/-- A quarantine: the pack is QUARANTINED with its reason and its QUARANTINE record, it leaves the queue, and the bay that holds it is
LOCKED with it, out of the arbiter, with no command and no timer. QUARANTINE: accepted in every state but FEEDING and QUARANTINED,
whatever the record charge, with reason REQUESTED. -/
def Obligations.QuarantineTaken : Prop :=
  (∀ (s : State) (p : Pack) (r : QuarReason), s.pack p.tag = some p →
     let t := quarantinePack s p r
     t.pack p.tag = some { p with state := .quarantined, reason := some r, charge := p.charge + 1 } ∧ OtherPacks p.tag s t
     ∧ t.queue = s.queue.filter (· ≠ p.tag)
     ∧ Accepts s t [⟨.quarantine, p.tag, p.lot, .pack .quarantined, p.bay, p.energy, p.trips, p.rebounds, p.charge + 1, .quarantine r⟩]
     ∧ (∀ b, p.bay = some b → (s.bay b).pack = some p.tag →
         (t.bay b).state = .locked ∧ (t.bay b).pack = some p.tag ∧ (t.bay b).command = 0 ∧ (t.bay b).participant = false
         ∧ (t.bay b).retryTimer = none ∧ (t.bay b).restTimer = none
         ∧ (t.bay b).holds = { (s.bay b).holds with requested := false, restart := false } ∧ OtherBaysRegranted b s t)
     ∧ ((∀ b, p.bay = some b → (s.bay b).pack ≠ some p.tag) → t.bays = s.bays)
     ∧ LinkKept s t ∧ t.link.queue = s.link.queue
     ∧ t = { s with packs := t.packs, queue := t.queue, bays := t.bays, writer := t.writer, line := t.line, link := t.link })
  ∧ (∀ (s : State) (m : Byte) (n : Tag), s.custodyTakes = true →
       let refused (st : Status) : Prop :=
         exec (.quarantine m n) s = .next (finish s (s.withEntry m (.quarantine n) (.formed ⟨st, .none⟩)))
       (n = 0#32 → refused .outOfRange)
       ∧ (n ≠ 0#32 → s.pack n = none → refused .notFound)
       ∧ (∀ p, n ≠ 0#32 → s.pack n = some p → (p.state = .feeding ∨ p.state = .quarantined) → refused .wrongState)
       ∧ (∀ p, n ≠ 0#32 → s.pack n = some p → p.state ≠ .feeding → p.state ≠ .quarantined → 48 < s.writer.buffer.length → refused .busy)
       ∧ (∀ p, n ≠ 0#32 → s.pack n = some p → p.state ≠ .feeding → p.state ≠ .quarantined → s.writer.buffer.length ≤ 48 →
           exec (.quarantine m n) s = .next (finish s
             ((quarantinePack (s.withEntry m (.quarantine n) .untaken) p .requested).withStage
               (.formed ⟨.ok, .packState (some .quarantined)⟩)))))

/-- STAGE below record charge 14: the tag joins the tail of the queue, the pack is STAGED without a bay with its STAGE record, a bay it
leaves is EMPTY with no residue; its zone takes the withdrawal of an asserted report, and a READY feeder looks for a feed; the reply says
STAGED whatever that feed makes of the pack (DEDUCED, log 19). At charge 14 the pack is quarantined RECORD_LIMIT instead. Its checks come
first, in their order, each with its status. The start of a feed: a READY feeder with a tag queued and no feeder event held (DEDUCED, log
14) submits FEEDING for the head; taken, the pack is FEEDING, and the feeder FEEDING with its tag, the gate open and the feed timer
running. -/
def Obligations.PackStaged : Prop :=
  (∀ (s : State) (m : Byte) (n : Tag) (p : Pack), s.custodyTakes = true →
     n ≠ 0#32 → s.pack n = some p → p.state = .released → (∀ e, p.exposure = some e → e.cleared = true) → s.queue.length < 12 →
     s.writer.buffer.length ≤ 48 →
     (p.charge < 14 →
       ∃ v, exec (.stage m n) s = .next (finish s ((tryFeed
             (match p.bay with
               | some b => if (s.bay b).overLimit then thermalChange v b else v
               | none => v)).withStage (.formed ⟨.ok, .packState (some .staged)⟩)))
         ∧ Queued s v m (.stage n) .untaken
         ∧ v.queue = s.queue ++ [n]
         ∧ v.pack n = some { p with state := .staged, bay := none, charge := p.charge + 1 } ∧ OtherPacks n s v
         ∧ (∀ b, p.bay = some b →
             v.bay b = { s.bay b with
               state := .empty, pack := none, residue := 0, overLimit := false
               holds := { (s.bay b).holds with requested := false, restart := false } } ∧ OtherBays b s v)
         ∧ (p.bay = none → v.bays = s.bays)
         ∧ Accepts s v [⟨.stage, n, p.lot, .pack .staged, p.bay, p.energy, p.trips, p.rebounds, p.charge + 1, .none⟩]
         ∧ LinkKept s v
         ∧ v = { s with
             packs := v.packs, queue := v.queue, bays := v.bays, writer := v.writer, line := v.line, link := v.link })
     ∧ (14 ≤ p.charge →
       exec (.stage m n) s = .next (finish s ((quarantinePack (s.withEntry m (.stage n) .untaken) p .recordLimit).withStage
         (.formed ⟨.wrongState, .packState (some .quarantined)⟩)))))
  ∧ (∀ (s : State) (m : Byte) (n : Tag), s.custodyTakes = true →
       let refused (st : Status) : Prop :=
         exec (.stage m n) s = .next (finish s (s.withEntry m (.stage n) (.formed ⟨st, .none⟩)))
       (n = 0#32 → refused .outOfRange)
       ∧ (n ≠ 0#32 → s.pack n = none → refused .notFound)
       ∧ ∀ p, n ≠ 0#32 → s.pack n = some p →
         let free : Prop := ∀ e, p.exposure = some e → e.cleared = true
         (p.state ≠ .released → refused .wrongState)
         ∧ (p.state = .released → ¬free → refused .wrongState)
         ∧ (p.state = .released → free → 12 ≤ s.queue.length → refused .full)
         ∧ (p.state = .released → free → s.queue.length < 12 → 48 < s.writer.buffer.length → refused .busy))
  ∧ (∀ s : State,
       let t := tryFeed s
       (s.queue = [] ∨ s.feeder.state ≠ .ready ∨ s.feederWaits = true → t = s)
       ∧ ∀ n l, s.queue = n :: l → s.feeder.state = .ready → s.feederWaits = false →
         (¬s.takesEvents 0 → t = { s with held := s.held ++ [.feeding n] })
         ∧ (s.takesEvents 0 → (∀ p, s.pack n = some p → p.state ≠ .staged) → t = s)
         ∧ (s.takesEvents 0 → ∀ p, s.pack n = some p → p.state = .staged →
             t.pack n = some { p with state := .feeding } ∧ OtherPacks n s t
             ∧ t.feeder = { s.feeder with
                 state := .feeding, gate := true, tag := some n, feedTimer := some (1000 * s.feeder.settings.feedTime)
                 resettleNow := s.feeder.resettle }
             ∧ LinkKept s t ∧ t.link.queue = s.link.queue ∧ t = { s with packs := t.packs, feeder := t.feeder, link := t.link }))

/-- An exit: the exit record, the lot's counters, the entry and its tag gone, a CLOSING lot with no pack left final behind it, every
other lot as it was. REMOVE, accepted in INTAKE and QUARANTINED: the pack exits by removal, a bay that held it stays LOCKED without it,
its zone takes the withdrawal of an asserted report, and a table emptied in DRAIN is reported; its checks in their order. The state that
FED and REMOVE records carry is the one the pack left (DEDUCED, log 38). The report of a table that has become empty: in DRAIN the line
goes to STANDBY and the bays, the interlock, which stops where it runs, and the feeder take what follows, a bay that waits for a held
event changing its set alone (DEDUCED, log 14); in every other case nothing changes. -/
def Obligations.PackRemoved : Prop :=
  (∀ (s : State) (p : Pack) (l : Lot) (k : ExitKind) (late : Bool), s.pack p.tag = some p → s.lot p.lot = some l →
     let t := exitPack s p k late
     let q := l.exit p k
     let d : Draft := match k with
       | .fed => ⟨.fed, p.tag, p.lot, .pack p.state, none, p.energy, p.trips, p.rebounds, p.charge + 1, .fed late⟩
       | .removed => ⟨.removed, p.tag, p.lot, .pack p.state, p.bay, p.energy, p.trips, p.rebounds, p.charge + 1, .none⟩
     t.packs = s.packs.filter (fun u => u.tag ≠ p.tag) ∧ t.queue = s.queue.filter (· ≠ p.tag)
     ∧ q.energy = l.energy + p.energy
     ∧ (k = .fed → q = { l with energy := l.energy + p.energy, fed := l.fed + 1, massFed := min 4294967295 (l.massFed + p.mass) })
     ∧ (k = .removed → q = { l with
         energy := l.energy + p.energy, removed := l.removed + 1, massRemoved := min 4294967295 (l.massRemoved + p.mass) })
     ∧ (q.state = .closing ∧ q.admitted - q.fed - q.removed = 0 →
         t.lots = s.lots.filter (fun u => u.number ≠ p.lot)
         ∧ Accepts s t [d, ⟨.lotFinal, p.lot, p.lot, .lot .final, none, 0, 0, 0, 0,
             .lotFinal q.admitted q.fed q.removed q.energy q.massFed q.massRemoved (s.atm.gas / 60)⟩])
     ∧ (¬(q.state = .closing ∧ q.admitted - q.fed - q.removed = 0) →
         t.lots = s.lots.map (fun u => if u.number = p.lot then q else u) ∧ Accepts s t [d])
     ∧ LinkKept s t ∧ t.link.queue = s.link.queue
     ∧ t = { s with
         packs := t.packs, lots := t.lots, queue := t.queue, writer := t.writer, line := t.line, link := t.link })
  ∧ (∀ (s : State) (m : Byte) (n : Tag), s.custodyTakes = true →
       let refused (st : Status) : Prop :=
         exec (.remove m n) s = .next (finish s (s.withEntry m (.remove n) (.formed ⟨st, .none⟩)))
       (n = 0#32 → refused .outOfRange)
       ∧ (n ≠ 0#32 → s.pack n = none → refused .notFound)
       ∧ ∀ p, n ≠ 0#32 → s.pack n = some p →
         (p.state ≠ .intake → p.state ≠ .quarantined → refused .wrongState)
         ∧ (p.state = .intake ∨ p.state = .quarantined → 48 < s.writer.buffer.length → refused .busy)
         ∧ (p.state = .intake ∨ p.state = .quarantined → s.writer.buffer.length ≤ 48 →
           let j := s.withEntry m (.remove n) .untaken
           let e := exitPack j p .removed false
           let v := match p.bay with
             | some b => putBay e b { s.bay b with pack := none, residue := 0, overLimit := false }
             | none => e
           let w := match p.bay with
             | some b => if (s.bay b).overLimit then thermalChange v b else v
             | none => v
           exec (.remove m n) s = .next (finish s ((reportEmpty j w).withStage (.formed ⟨.ok, .none⟩)))
           ∧ v.pack n = none))
  ∧ (∀ s u : State,
       let t := reportEmpty s u
       (s.packs ≠ [] → u.packs = [] → u.line.mode = .drain →
         t.line = { u.line with mode := .standby, cause := none } ∧ BaysFollow u t
         ∧ RunFollows u t
         ∧ (u.interlock.permission = true → (u.interlock.state = .starting ∨ u.interlock.state = .running) →
             t.interlock.state = .stopping)
         ∧ t.feeder.reasons = t.blockReasons ∧ LinkKept u t ∧ t.link.queue = u.link.queue
         ∧ t = { u with bays := t.bays, line := t.line, interlock := t.interlock, feeder := t.feeder, link := t.link })
       ∧ (s.packs = [] ∨ u.packs ≠ [] ∨ u.line.mode ≠ .drain → t = u))

/-- CLEAR_EXPOSURE: the cleared flag is set, the incident number kept, with an EXPOSE_CLEAR record below charge 14 and without one for a
FEEDING pack at 14; any other pack at 14 is quarantined RECORD_LIMIT. Its checks come first, in their order, each with its status. -/
def Obligations.ExposureCleared : Prop :=
  (∀ (s : State) (m : Byte) (n : Tag) (p : Pack) (i : BitVec 16), s.custodyTakes = true →
     n ≠ 0#32 → s.pack n = some p → p.exposure = some ⟨i, false⟩ → p.state ≠ .quarantined → s.writer.buffer.length ≤ 48 →
     (p.charge < 14 →
       ∃ t, exec (.clearExposure m n) s = .next (finish s t)
         ∧ Queued s t m (.clearExposure n) (.formed ⟨.ok, .packState (some p.state)⟩)
         ∧ t.pack n = some { p with exposure := some ⟨i, true⟩, charge := p.charge + 1 } ∧ OtherPacks n s t
         ∧ Accepts s t [⟨.exposeClear, n, p.lot, .pack p.state, p.bay, p.energy, p.trips, p.rebounds, p.charge + 1, .incident i⟩]
         ∧ LinkKept s t
         ∧ t = { s with packs := t.packs, writer := t.writer, line := t.line, link := t.link })
     ∧ (14 ≤ p.charge → p.state = .feeding →
       ∃ t, exec (.clearExposure m n) s = .next (finish s t)
         ∧ Queued s t m (.clearExposure n) (.formed ⟨.ok, .packState (some .feeding)⟩)
         ∧ t.pack n = some { p with exposure := some ⟨i, true⟩ } ∧ OtherPacks n s t ∧ LinkKept s t
         ∧ t = { s with packs := t.packs, link := t.link })
     ∧ (14 ≤ p.charge → p.state ≠ .feeding →
       exec (.clearExposure m n) s = .next (finish s
         ((quarantinePack (s.withEntry m (.clearExposure n) .untaken) p .recordLimit).withStage
           (.formed ⟨.wrongState, .packState (some .quarantined)⟩)))))
  ∧ (∀ (s : State) (m : Byte) (n : Tag), s.custodyTakes = true →
       let refused (st : Status) : Prop :=
         exec (.clearExposure m n) s = .next (finish s (s.withEntry m (.clearExposure n) (.formed ⟨st, .none⟩)))
       (n = 0#32 → refused .outOfRange)
       ∧ (n ≠ 0#32 → s.pack n = none → refused .notFound)
       ∧ (∀ p, n ≠ 0#32 → s.pack n = some p →
           (p.exposure = none ∨ (∃ i, p.exposure = some ⟨i, true⟩) ∨ p.state = .quarantined) → refused .wrongState)
       ∧ (∀ p i, n ≠ 0#32 → s.pack n = some p → p.exposure = some ⟨i, false⟩ → p.state ≠ .quarantined → 48 < s.writer.buffer.length →
           refused .busy))

/-! ### Bay requests -/

/-- PAUSE_BAY and CONTINUE_BAY: refused in EMPTY and LOCKED; otherwise REQUESTED enters or leaves the set and nothing else of it changes.
A DISCHARGING bay that gains it goes to HELD with no command; a HELD bay with GOOD sense whose set it empties discharges again; in every
other case, that of a bay that waits for a held event among them (DEDUCED, log 14), the set alone changes. CONFIRM_BAY removes RESTART
with a CONFIRM record, or the record-charge limit quarantines the pack; its refusals are WRONG_STATE, NOT_CONFIGURED and BUSY. UNLOCK_BAY
takes a LOCKED-empty bay to EMPTY and refuses every other. All four refuse a bay outside 1 to 8. -/
def Obligations.BayRequestsTaken : Prop :=
  (∀ (s : State) (m v : Byte) (b : BayId) (on : Bool), s.takesNow = true → bayOf v = some b →
     let c : Instr := if on then .pauseBay m v else .continueBay m v
     let k : Request := if on then .pauseBay v else .continueBay v
     let h : Holds := { (s.bay b).holds with requested := on }
     ((s.bay b).state = .empty ∨ (s.bay b).state = .locked →
       exec c s = .next (finish s (s.withEntry m k (.formed ⟨.wrongState, .none⟩))))
     ∧ ((s.bay b).state ≠ .empty → (s.bay b).state ≠ .locked →
       ∃ t, exec c s = .next (finish s t) ∧ Queued s t m k (.formed ⟨.ok, .holds h⟩)
         ∧ (t.bay b).holds = h
         ∧ (s.awaiting b = false → (s.bay b).state = .discharging → (s.bay b).holds.requested = false → on = true →
             (t.bay b).state = .held ∧ (t.bay b).command = 0 ∧ (t.bay b).participant = false ∧ (t.bay b).sustained = 0)
         ∧ (s.awaiting b = false → (s.bay b).state = .held → (s.bay b).holds = ⟨false, false, false, true, false⟩ →
             (s.bay b).sense = .good → on = false →
             (t.bay b).state = .discharging ∧ (t.bay b).participant = true ∧ (t.bay b).block = none)
         ∧ ((s.bay b).holds.requested = on → t.bays = s.bays)
         ∧ ((s.awaiting b = true ∨ ((s.bay b).state ≠ .discharging ∧ (s.bay b).state ≠ .held)
               ∨ ((s.bay b).state = .discharging ∧ h.isEmpty = true)
               ∨ ((s.bay b).state = .held ∧ (h.isEmpty = false ∨ (s.bay b).sense = .lost))) →
             t.bay b = { s.bay b with holds := h } ∧ OtherBays b s t)
         ∧ OtherBaysRegranted b s t ∧ LinkKept s t
         ∧ t = { s with bays := t.bays, link := t.link }))
  ∧ (∀ (s : State) (m v : Byte), s.takesNow = true → bayOf v = none →
       let refused (c : Instr) (k : Request) : Prop := exec c s = .next (finish s (s.withEntry m k (.formed ⟨.outOfRange, .none⟩)))
       refused (.pauseBay m v) (.pauseBay v) ∧ refused (.continueBay m v) (.continueBay v)
       ∧ refused (.confirmBay m v) (.confirmBay v) ∧ refused (.unlockBay m v) (.unlockBay v))
  ∧ (∀ (s : State) (m v : Byte) (b : BayId), s.takesNow = true → bayOf v = some b →
       let refused (st : Status) : Prop :=
         exec (.confirmBay m v) s = .next (finish s (s.withEntry m (.confirmBay v) (.formed ⟨st, .none⟩)))
       let due : Prop := (s.bay b).state = .placed ∧ (s.bay b).holds.restart = true
       (s.bayPack b = none ∨ ¬due → refused .wrongState)
       ∧ ∀ p, s.bayPack b = some p → due →
         ((s.bay b).settings = none ∨ s.classes[p.cls] = none → refused .notConfigured)
         ∧ ((s.bay b).settings.isSome = true → (s.classes[p.cls]).isSome = true → 48 < s.writer.buffer.length → refused .busy))
  ∧ (∀ (s : State) (m v : Byte) (b : BayId), s.takesNow = true → bayOf v = some b →
       (∀ p, s.bayPack b = some p → (s.bay b).state = .placed → (s.bay b).holds.restart = true → (s.bay b).settings.isSome = true →
         (s.classes[p.cls]).isSome = true → s.writer.buffer.length ≤ 48 →
         (p.charge < 14 →
           ∃ t, exec (.confirmBay m v) s = .next (finish s t)
             ∧ Queued s t m (.confirmBay v) (.formed ⟨.ok, .packState (some p.state)⟩)
             ∧ t.bay b = { s.bay b with
                 holds := { (s.bay b).holds with restart := false }, block := none, blockWaitsValid := true }
             ∧ OtherBays b s t ∧ t.pack p.tag = some { p with charge := p.charge + 1 } ∧ OtherPacks p.tag s t
             ∧ Accepts s t [⟨.confirm, p.tag, p.lot, .pack p.state, some b, p.energy, p.trips, p.rebounds, p.charge + 1, .none⟩]
             ∧ LinkKept s t
             ∧ t = { s with packs := t.packs, bays := t.bays, writer := t.writer, line := t.line, link := t.link })
         ∧ (14 ≤ p.charge →
           exec (.confirmBay m v) s = .next (finish s
             ((quarantinePack (s.withEntry m (.confirmBay v) .untaken) p .recordLimit).withStage
               (.formed ⟨.wrongState, .packState (some .quarantined)⟩)))))
       ∧ ((s.bay b).state = .locked → (s.bay b).pack = none →
         ∃ t, exec (.unlockBay m v) s = .next (finish s t) ∧ Queued s t m (.unlockBay v) (.formed ⟨.ok, .bayState .empty⟩)
           ∧ t.bay b = { s.bay b with
               state := .empty, holds := { (s.bay b).holds with requested := false, restart := false } }
           ∧ OtherBays b s t ∧ LinkKept s t ∧ t = { s with bays := t.bays, link := t.link })
       ∧ ((s.bay b).state ≠ .locked ∨ (s.bay b).pack.isSome = true →
         exec (.unlockBay m v) s = .next (finish s (s.withEntry m (.unlockBay v) (.formed ⟨.wrongState, .none⟩)))))

/-- CLEAR_PEAKS: the peaks of the bays named become those of the last valid sample, absent where there is none; the oxygen peak becomes
the control value in force with the line clock in INERT and DRIFT, absent otherwise. -/
def Obligations.PeaksCleared : Prop :=
  ∀ (s : State) (m v : Byte), s.takesNow = true →
    let cleared (b : BayId) : Bay := { s.bay b with
      peaks := (s.bay b).lastValid.map (fun u => ⟨u.current, u.heatsink, u.packTemp⟩) }
    (∀ b, bayOf v = some b → ∃ u, exec (.clearPeaks m v) s = .next (answered u m (.clearPeaks v) ⟨.ok, .none⟩)
      ∧ u.bay b = cleared b ∧ OtherBays b s u ∧ u = { s with bays := u.bays })
    ∧ (v = 0#8 → ∃ u, exec (.clearPeaks m v) s = .next (answered u m (.clearPeaks v) ⟨.ok, .none⟩)
      ∧ (∀ b, u.bay b = cleared b) ∧ u = { s with bays := u.bays })
    ∧ (v = 9#8 → (s.atm.state = .inert ∨ s.atm.state = .drift) → ∀ c, s.atm.control = some c →
      exec (.clearPeaks m v) s
        = .next (answered { s with atm := { s.atm with peak := some ⟨c, s.clock⟩ } } m (.clearPeaks v) ⟨.ok, .none⟩))
    ∧ (v = 9#8 → (s.atm.state ≠ .inert ∧ s.atm.state ≠ .drift) ∨ s.atm.control = none →
      exec (.clearPeaks m v) s
        = .next (answered { s with atm := { s.atm with peak := none } } m (.clearPeaks v) ⟨.ok, .none⟩))
    ∧ (9 < v.toNat → exec (.clearPeaks m v) s = .next (answered s m (.clearPeaks v) ⟨.outOfRange, .none⟩))

/-! ### Zones, heads and loops: requests -/

/-- RESET_ZONE: refused in NORMAL and PRE_ALARM and while a condition holds; otherwise the zone is cleared, the incident closes where no
zone is left in ALARM or RELEASED, its close part handed to the Journal Writer, and the effect set is the one the active cells give.
HOLD_RELEASE pauses a running release timer once, its remaining time kept; it is refused in every other case. At the expiry of the hold
timer the release timer goes on with the time it was paused at. A zone outside 1 to 12 is refused by both, and READ_ZONE gives both
remaining times, that of the hold timer in whole seconds (DEDUCED, log 43). -/
def Obligations.ZoneResetAndHeld : Prop :=
  (∀ (s : State) (m v : Byte) (z : ZoneId), s.takesNow = true → zoneOf v = some z →
     ((s.zone z).main = .normal ∨ (s.zone z).main = .preAlarm ∨ (s.zone z).alarmHolds = true ∨ (s.zone z).preHolds = true →
       exec (.resetZone m v) s = .next (finish s (s.withEntry m (.resetZone v) (.formed ⟨.wrongState, .none⟩))))
     ∧ ((s.zone z).main = .alarm ∨ (s.zone z).main = .released → (s.zone z).alarmHolds = false → (s.zone z).preHolds = false →
       let left : Prop := ∃ w, w ≠ z ∧ ((s.zone w).main = .alarm ∨ (s.zone w).main = .released)
       ∃ t, exec (.resetZone m v) s = .next (finish s t) ∧ Queued s t m (.resetZone v) (.formed ⟨.ok, .zoneMain .normal⟩)
         ∧ t.zone z = { s.zone z with
             main := .normal, suppression := false, sparks := 0, consecutive := 0, window := none
             release := .idle, holdTimer := none, holdUsed := false }
         ∧ OtherZones z s t
         ∧ (¬left → t.incident = ⟨s.incident.number, none⟩)
         ∧ (left → t.incident = s.incident)
         ∧ (∀ p, ¬left → s.incident.progress = some p →
             let c : ClosePart := ⟨s.incident.number, s.clock, (s.now - p.openedAt) / 1000, p.zones, p.releases, p.exposed, p.quarantined⟩
             t.writer = (handPart s (.closed c)).writer
             ∧ (s.writer.incidents.length < 4 → s.writer.droppedOpen ≠ some s.incident.number →
                 t.writer = { s.writer with incidents := s.writer.incidents ++ [.closed c] }))
         ∧ (left ∨ s.incident.progress = none → t.writer = s.writer)
         ∧ t.effect = effectOf t ∧ (s.link.subscribed.getLsbD 0 = true → t.link.noticePending.getLsbD 0 = true)
         ∧ t.writer.buffer = s.writer.buffer ∧ t.nv = s.nv ∧ t.lots = s.lots ∧ t.queue = s.queue ∧ t.loopA = s.loopA
         ∧ t.loopB = s.loopB ∧ t.cells = s.cells ∧ t.clock = s.clock ∧ t.classes = s.classes ∧ t.budget = s.budget))
  ∧ (∀ (s : State) (m v : Byte) (z : ZoneId) (r : Nat), zoneOf v = some z →
       (s.takesNow = true → (s.zone z).release = .running r → (s.zone z).holdUsed = false →
         ∃ t, exec (.holdRelease m v) s = .next (finish s t) ∧ Queued s t m (.holdRelease v) (.formed ⟨.ok, .releaseMs r⟩)
           ∧ t.zone z = { s.zone z with
               release := .paused r, holdTimer := some (1000 * (s.zone z).settings.holdTime), holdUsed := true }
           ∧ OtherZones z s t ∧ LinkKept s t ∧ t = { s with zones := t.zones, link := t.link })
       ∧ (s.takesNow = true → ((s.zone z).release = .running r ∧ (s.zone z).holdUsed = true) ∨ (s.zone z).release = .paused r
           ∨ (s.zone z).release = .idle →
         exec (.holdRelease m v) s = .next (finish s (s.withEntry m (.holdRelease v) (.formed ⟨.wrongState, .none⟩))))
       ∧ (s.inReset = false → (s.zone z).holdTimer.isSome = true → (s.zone z).release = .paused r →
         ∃ t, exec (.holdTimerExpiry z) s = .next (finish s t)
           ∧ t.zone z = { s.zone z with release := .running r, holdTimer := none }
           ∧ OtherZones z s t ∧ LinkKept s t ∧ t.link.queue = s.link.queue ∧ t = { s with zones := t.zones, link := t.link }))
  ∧ (∀ (s : State) (m v : Byte),
       (s.takesNow = true → zoneOf v = none →
         exec (.resetZone m v) s = .next (finish s (s.withEntry m (.resetZone v) (.formed ⟨.outOfRange, .none⟩)))
         ∧ exec (.holdRelease m v) s = .next (finish s (s.withEntry m (.holdRelease v) (.formed ⟨.outOfRange, .none⟩))))
       ∧ (∀ z, (zoneView s z).release = (s.zone z).release
           ∧ (zoneView s z).holdTimer = (s.zone z).holdTimer.map (fun ms => ms / 1000)))

/-- ISOLATE_HEAD and RESTORE_HEAD: the isolated flag, every other field of the entry and every other entry as it was, and the zone's
counts and fault attribute formed from the Head Table; NOT_FOUND for an address without an enrolled head, OUT_OF_RANGE for a loop or
address outside its range. -/
def Obligations.HeadIsolated : Prop :=
  (∀ (s : State) (m v w : Byte) (l : LoopId) (a : HeadAddr) (on : Bool), s.takesNow = true → loopOf v = some l → addrOf w = some a →
     let c : Instr := if on then .isolateHead m v w else .restoreHead m v w
     let k : Request := if on then .isolateHead v w else .restoreHead v w
     (s.head l a = none → exec c s = .next (finish s (s.withEntry m k (.formed ⟨.notFound, .none⟩))))
     ∧ (∀ h, s.head l a = some h → h.isolated = on →
       exec c s = .next (finish s (s.withEntry m k (.formed ⟨.ok, .level h.level on⟩))))
     ∧ (∀ h, s.head l a = some h → h.isolated ≠ on →
       ∃ t, exec c s = .next (finish s t) ∧ Queued s t m k (.formed ⟨.ok, .level h.level on⟩)
         ∧ t.head l a = some { h with isolated := on } ∧ (∀ b, b ≠ a → t.head l b = s.head l b) ∧ OtherLoop l s t
         ∧ (t.zone h.zone).counts = t.headCounts h.zone ∧ (t.zone h.zone).fault = t.zoneFault h.zone
         ∧ t.nv = s.nv ∧ t.writer.settingsOps = s.writer.settingsOps ∧ t.lots = s.lots ∧ t.cells = s.cells
         ∧ t.classes = s.classes ∧ t.clock = s.clock))
  ∧ (∀ (s : State) (m v w : Byte), s.takesNow = true → (loopOf v = none ∨ addrOf w = none) →
       let refused (c : Instr) (k : Request) : Prop := exec c s = .next (finish s (s.withEntry m k (.formed ⟨.outOfRange, .none⟩)))
       refused (.isolateHead m v w) (.isolateHead v w) ∧ refused (.restoreHead m v w) (.restoreHead v w))

/-- LOOP_TEST: TEST_START waits on a closed window and TEST_END on an open one; one taken while either waits queues no further broadcast;
the reply waits for the broadcast, and a SHORT loop refuses, as does a loop that is not A or B. At the expiry of the window timer
TEST_END waits, once. -/
def Obligations.LoopTested : Prop :=
  (∀ (s : State) (m v : Byte) (l : LoopId), loopOf v = some l →
     let x := s.loop l
     let asked (y : Loop) (start : Bool) : Prop :=
       exec (.loopTest m v) s = .next (linkPump ((s.setLoop l y).withEntry m (.loopTest v) (.waiting (.broadcast l start))))
     (s.takesNow = true → x.state = .short → exec (.loopTest m v) s = .next (answered s m (.loopTest v) ⟨.wrongState, .none⟩))
     ∧ (s.takesNow = true → x.state ≠ .short → Broadcast.testStart ∉ x.waiting → Broadcast.testEnd ∉ x.waiting → x.testing = false →
       asked { x with waiting := x.waiting ++ [.testStart] } true)
     ∧ (s.takesNow = true → x.state ≠ .short → Broadcast.testStart ∉ x.waiting → Broadcast.testEnd ∉ x.waiting → x.testing = true →
       asked { x with waiting := x.waiting ++ [.testEnd] } false)
     ∧ (s.takesNow = true → x.state ≠ .short → Broadcast.testStart ∈ x.waiting → asked x true)
     ∧ (s.takesNow = true → x.state ≠ .short → Broadcast.testStart ∉ x.waiting → Broadcast.testEnd ∈ x.waiting → asked x false)
     ∧ (s.inReset = false → x.testTimer.isSome = true → Broadcast.testEnd ∉ x.waiting →
       exec (.testWindowExpiry l) s
         = .next (finish s (s.setLoop l { x with testTimer := none, waiting := x.waiting ++ [.testEnd] })))
     ∧ (s.inReset = false → x.testTimer.isSome = true → Broadcast.testEnd ∈ x.waiting →
       exec (.testWindowExpiry l) s = .next (finish s (s.setLoop l { x with testTimer := none }))))
  ∧ (∀ (s : State) (m v : Byte), s.takesNow = true → loopOf v = none →
       exec (.loopTest m v) s = .next (answered s m (.loopTest v) ⟨.outOfRange, .none⟩))

/-! ### Atmosphere, shredder and feed: requests -/

/-- INERT_START: refused with a chamber already inerted or inerting, an open door or SENSOR_FAIL; otherwise PURGING with the valve at
PURGE and the max purge timer, or INERT at once where the control value in force is at or below the permit limit. INERT_STOP, which has
no row and is taken like any other request, here by REQUEST_TAKEN with no other request untaken (DEDUCED, log 33): OK in AIR; refused
with the interlock not STOPPED or the feeder FEEDING; otherwise AIR with the valve closed, timers, settled mark and fault cause cleared.
-/
def Obligations.InertStarted : Prop :=
  (∀ (s : State) (m : Byte), s.takesNow = true →
     let x := s.atm
     ((x.state ≠ .air ∧ x.state ≠ .fault) ∨ s.doorClosed = false ∨ x.sensorFail = true →
       exec (.inertStart m) s = .next (finish s (s.withEntry m .inertStart (.formed ⟨.wrongState, .none⟩))))
     ∧ ((x.state = .air ∨ x.state = .fault) → s.doorClosed = true → x.sensorFail = false →
       ∃ t, exec (.inertStart m) s = .next (finish s t) ∧ Queued s t m .inertStart (.formed ⟨.ok, .atmState t.atm.state⟩)
         ∧ ((∀ c, x.control = some c → x.settings.permit < c) →
             t.atm = { x with state := .purging, cause := none, maxPurge := some (1000 * x.settings.maxPurge), valve := .purge })
         ∧ (∀ c, x.control = some c → c ≤ x.settings.permit →
             t.atm = { x with
               state := .inert, settled := false, cause := none, maxPurge := none, settle := some (1000 * x.settings.settle)
               valve := if s.effect.inertBoost then .purge else .trim })
         ∧ t.interlock.permission = t.runConditions.met ∧ t.feeder.reasons = t.blockReasons
         ∧ LinkKept s t
         ∧ t = { s with
             packs := t.packs, held := t.held, atm := t.atm, interlock := t.interlock, feeder := t.feeder, link := t.link }))
  ∧ (∀ (s : State) (m : Byte), s.inReset = false → s.link.restart = .none →
       s.link.queue.filter (fun e => e.stage = .untaken) = [⟨m, .known .inertStop, .untaken⟩] →
       let x := s.atm
       let took (t : State) (st : Status) (b : Body) : Prop :=
         exec .requestTaken s = .next (finish s (t.withStage (.formed ⟨st, b⟩)))
       (x.state = .air → took s .ok (.atmState .air))
       ∧ (x.state ≠ .air → (s.interlock.state ≠ .stopped ∨ s.feeder.state = .feeding) → took s .wrongState .none)
       ∧ (x.state ≠ .air → s.interlock.state = .stopped → s.feeder.state ≠ .feeding →
         ∃ t, took t .ok (.atmState .air)
           ∧ t.atm = { x with state := .air, settled := false, cause := none, maxPurge := none, settle := none, valve := .closed }
           ∧ t.interlock.permission = t.runConditions.met ∧ t.feeder.reasons = t.blockReasons
           ∧ LinkKept s t ∧ t.link.queue = s.link.queue
           ∧ t = { s with
               packs := t.packs, held := t.held, atm := t.atm, interlock := t.interlock, feeder := t.feeder, link := t.link }))

/-- SHRED_START makes its checks in order, each refusal with the five conditions; accepted, the interlock is STARTING with 10 s.
SHRED_STOP and a conditioned change of the running feedback act by the interlock's state; the start and rundown timers take it to FAULT.
-/
def Obligations.ShredderTaken : Prop :=
  (∀ (s : State) (m : Byte), s.takesNow = true →
     let x := s.interlock
     let refused (st : Status) : Prop :=
       exec (.shredStart m) s = .next (finish s (s.withEntry m .shredStart (.formed ⟨st, .runConditions s.runConditions⟩)))
     let moved (c : Instr) (k : Request) (y : Interlock) (r : InterlockState) : Prop :=
       ∃ t, exec c s = .next (finish s t) ∧ Queued s t m k (.formed ⟨.ok, .interlock r⟩) ∧ t.interlock = y
         ∧ t.feeder.reasons = t.blockReasons ∧ LinkKept s t
         ∧ t = { s with packs := t.packs, held := t.held, interlock := t.interlock, feeder := t.feeder, link := t.link }
     (x.state ≠ .stopped → refused .wrongState)
     ∧ (x.state = .stopped → s.feedback = true → refused .wrongState)
     ∧ (x.state = .stopped → s.feedback = false → s.line.mode ≠ .production → s.line.mode ≠ .drain → refused .wrongMode)
     ∧ (x.state = .stopped → s.feedback = false → (s.line.mode = .production ∨ s.line.mode = .drain) → s.runConditions.met = false →
         refused .wrongState)
     ∧ (x.state = .stopped → s.feedback = false → s.runConditions.met = true →
         moved (.shredStart m) .shredStart { x with state := .starting, startTimer := some 10000 } .starting)
     ∧ (x.state = .starting ∨ x.state = .running →
         moved (.shredStop m) .shredStop { x with state := .stopping, startTimer := none, rundownTimer := some 60000 } .stopping)
     ∧ (x.state = .stopping →
         exec (.shredStop m) s = .next (finish s (s.withEntry m .shredStop (.formed ⟨.ok, .interlock .stopping⟩))))
     ∧ (x.state = .stopped →
         exec (.shredStop m) s = .next (finish s (s.withEntry m .shredStop (.formed ⟨.ok, .interlock .stopped⟩))))
     ∧ (x.state = .fault → s.feedback = false → moved (.shredStop m) .shredStop { x with state := .stopped, cause := none } .stopped)
     ∧ (x.state = .fault → s.feedback = true →
         exec (.shredStop m) s = .next (finish s (s.withEntry m .shredStop (.formed ⟨.wrongState, .none⟩)))))
  ∧ (∀ (s : State) (v : Bool), s.inReset = false → s.line.inputs.shredRunning.debounce.isSome = true →
       s.line.inputs.shredRunning.raw = v → s.feedback = !v →
       let x := s.interlock
       let moved (y : Interlock) : Prop :=
         ∃ t, exec (.inputConditioned .shredRunning) s = .next (finish s t) ∧ t.interlock = y ∧ t.feedback = v ∧ LinkKept s t
           ∧ t = { s with
               packs := t.packs, held := t.held, interlock := t.interlock, feeder := t.feeder, line := t.line, link := t.link }
       (x.state = .starting → v = true → moved { x with state := .running, startTimer := none })
       ∧ (x.state = .running → v = false →
           moved { x with state := .fault, startTimer := none, rundownTimer := none, cause := some .feedbackLost })
       ∧ (x.state = .stopping → v = false → moved { x with state := .stopped, rundownTimer := none })
       ∧ (x.state = .stopped ∨ x.state = .fault ∨ (x.state = .starting ∧ v = false) ∨ (x.state = .running ∧ v = true)
           ∨ (x.state = .stopping ∧ v = true) → moved x))
  ∧ (∀ s : State, s.inReset = false →
       let x := s.interlock
       let failed (e : Instr) (c : InterlockCause) : Prop :=
         ∃ t, exec e s = .next (finish s t)
           ∧ t.interlock = { x with state := .fault, startTimer := none, rundownTimer := none, cause := some c }
           ∧ t.feeder.reasons = t.blockReasons ∧ LinkKept s t
           ∧ t = { s with packs := t.packs, held := t.held, interlock := t.interlock, feeder := t.feeder, link := t.link }
       (x.state = .starting → x.startTimer.isSome = true → failed .startTimerExpiry .startTimeout)
       ∧ (x.state = .stopping → x.rundownTimer.isSome = true → failed .rundownTimerExpiry .rundownTimeout))

/-- FEED_CLEAR in JAMMED: the pack exits by feeding with the late mark, or is QUARANTINED as requested, and the feed ends; the reply to
outcome FED carries an absent pack state (DEDUCED, log 19); refused OUT_OF_RANGE for another outcome, WRONG_STATE outside JAMMED and BUSY
short of record buffer. FEED_CLEAR met by a held feeder event is log 14, and is no part of this statement. The end of a feed: tag
cleared, gate closed, re-settle timer started unless its time is 0, the block-reason set as its sources give it, and the feeder BLOCKED,
or READY where the set is empty. The feed timer jams the feeder with the gate closed; the re-settle timer's end takes SETTLE out of the
set. The set and its five sources, and what a changed source does in each state: BLOCKED whose set is empty enters READY and looks for a
feed (O30; DEDUCED, log 14, where a feeder event is held), READY that gains a reason enters BLOCKED, FEEDING and JAMMED keep their state
and the reasons that arrive; a change of state, set or gate makes FEED pending. -/
def Obligations.JamCleared : Prop :=
  (∀ (s : State) (m v : Byte) (o : FeedOutcome) (n : Tag) (p : Pack), s.takesNow = true → outcomeOf v = some o →
     (s.feeder.state ≠ .jammed →
       exec (.feedClear m v) s = .next (finish s (s.withEntry m (.feedClear v) (.formed ⟨.wrongState, .none⟩))))
     ∧ (s.feeder.state = .jammed → s.feeder.tag = some n → 48 < s.writer.buffer.length →
       exec (.feedClear m v) s = .next (finish s (s.withEntry m (.feedClear v) (.formed ⟨.busy, .none⟩))))
     ∧ (s.feeder.state = .jammed → s.feeder.tag = some n → s.writer.buffer.length ≤ 48 → s.phase = .running → s.held = [] →
         s.pack n = some p → p.state = .feeding →
       let j := s.withEntry m (.feedClear v) .untaken
       let k := putFeeder j { s.feeder with gate := false, feedTimer := none }
       let e := match o with
         | .fed => exitPack k p .fed true
         | .removed => quarantinePack k p .requested
       exec (.feedClear m v) s = .next (finish s ((reportEmpty j (endFeed e)).withStage
         (.formed ⟨.ok, .packState (((reportEmpty j (endFeed e)).pack n).map Pack.state)⟩)))))
  ∧ (∀ (s : State) (m v : Byte), s.takesNow = true → outcomeOf v = none →
       exec (.feedClear m v) s = .next (finish s (s.withEntry m (.feedClear v) (.formed ⟨.outOfRange, .none⟩))))
  ∧ (∀ s : State,
       (s.feeder.resettleNow ≠ 0 →
         (endFeed s).feeder = { s.feeder with
           state := .blocked, gate := false, feedTimer := none, tag := none
           resettleTimer := some (1000 * s.feeder.resettleNow), reasons := (endFeed s).blockReasons }
         ∧ (endFeed s).blockReasons.settle = true ∧ (endFeed s).packs = s.packs)
       ∧ (s.feeder.resettleNow = 0 →
         (endFeed s).feeder.resettleTimer = none ∧ (endFeed s).feeder.reasons.settle = false
         ∧ (let k := putFeeder s { s.feeder with
              state := .blocked, gate := false, feedTimer := none, tag := none, resettleTimer := none }
            let r := k.blockReasons
            (r.isEmpty = true → endFeed s = tryFeed (putFeeder k { k.feeder with state := .ready, reasons := r }))
            ∧ (r.isEmpty = true → s.queue = [] → (endFeed s).feeder.state = .ready)
            ∧ (r.isEmpty = false → endFeed s = putFeeder k { k.feeder with reasons := r })
            ∧ (r.isEmpty = false → (endFeed s).feeder.state = .blocked)))
       ∧ endFeed s = { s with
           packs := (endFeed s).packs, held := (endFeed s).held, feeder := (endFeed s).feeder, link := (endFeed s).link })
  ∧ (∀ s : State, s.inReset = false →
       (s.feeder.state = .feeding → s.feeder.feedTimer.isSome = true →
         exec .feedTimerExpiry s = .next (finish s (putFeeder s { s.feeder with state := .jammed, gate := false, feedTimer := none })))
       ∧ (s.feeder.resettleTimer.isSome = true →
         ∃ t, exec .resettleTimerExpiry s = .next (finish s t)
           ∧ t = updateFeeder { s with feeder := { s.feeder with resettleTimer := none } }
           ∧ t.feeder.resettleTimer = none ∧ t.feeder.reasons.settle = false ∧ t.feeder.reasons = t.blockReasons ∧ LinkKept s t
           ∧ t = { s with packs := t.packs, held := t.held, feeder := t.feeder, link := t.link }))
  ∧ (∀ s : State,
       let r := s.blockReasons
       let x := s.feeder
       let t := updateFeeder s
       (x.state = .blocked → r.isEmpty = true → t = tryFeed (putFeeder s { x with state := .ready, reasons := r }))
       ∧ (x.state = .blocked → r.isEmpty = true → s.queue = [] → t.feeder.state = .ready)
       ∧ (x.state = .blocked → r.isEmpty = false → t = putFeeder s { x with reasons := r })
       ∧ (x.state = .ready → r.isEmpty = true → t = putFeeder s { x with reasons := r })
       ∧ (x.state = .ready → r.isEmpty = false → t = putFeeder s { x with state := .blocked, reasons := r })
       ∧ (x.state = .feeding ∨ x.state = .jammed → t = putFeeder s { x with reasons := r })
       ∧ (r.isEmpty = true ↔ r = ⟨false, false, false, false, false⟩)
       ∧ r = {
           mode := !(s.line.mode = .production || s.line.mode = .drain), atmosphere := !(s.atm.state = .inert && s.atm.settled)
           settle := x.resettleTimer.isSome, shredder := s.interlock.state ≠ .running, effect := s.effect.blockFeed }
       ∧ (∀ y : Feeder, putFeeder s y = { s with
           feeder := y
           link := if y.state = x.state ∧ y.reasons = x.reasons ∧ y.gate = x.gate then s.link else s.link.mark .feed }))

/-! ### Journal requests -/

/-- READ_JOURNAL and READ_INCIDENT: answered at once from the buffers where they hold all that is asked, and waiting for a read of
priority 4 otherwise; a count outside 1 to 6 is refused, and a start below the oldest present record is NOT_FOUND; the oldest is the
lowest sequence held in the journal area or the buffer, and with no record present the next sequence to be given (DESIGN CHOICE, log 42).
Each asked sequence, none past the newest, gives its record from the buffer or else from the journal area, and is marked unreadable where
neither holds it (DEDUCED, log 53); an incident gives its open part and its close part where present, buffered ones before those of its
slot, and NOT_FOUND without an open part. -/
def Obligations.JournalRead : Prop :=
  (∀ (s : State) (m c : Byte) (n : BitVec 32) (i : BitVec 16), s.takesNow = true →
     (c.toNat = 0 ∨ 6 < c.toNat →
       exec (.readJournal m n c) s = .next (finish s (s.withEntry m (.readJournal n c) (.formed ⟨.outOfRange, .none⟩))))
     ∧ (1 ≤ c.toNat → c.toNat ≤ 6 → n.toNat < s.oldest →
       exec (.readJournal m n c) s = .next (finish s (s.withEntry m (.readJournal n c) (.formed ⟨.notFound, .none⟩))))
     ∧ (1 ≤ c.toNat → c.toNat ≤ 6 → s.oldest ≤ n.toNat → (∀ k ∈ s.askedSeqs n.toNat c.toNat, (s.buffered k).isSome = true) →
       exec (.readJournal m n c) s
         = .next (finish s (s.withEntry m (.readJournal n c) (.formed (s.journalReply n.toNat c.toNat)))))
     ∧ (1 ≤ c.toNat → c.toNat ≤ 6 → s.oldest ≤ n.toNat → (∃ k ∈ s.askedSeqs n.toNat c.toNat, s.buffered k = none) →
       exec (.readJournal m n c) s
         = .next (finish s ((queueRead s (.journal n.toNat c.toNat)).withEntry m (.readJournal n c)
             (.waiting (.read (.journal n.toNat c.toNat))))))
     ∧ (∀ o, openWaiting s.writer.incidents i = some o →
       exec (.readIncident m i) s = .next (finish s (s.withEntry m (.readIncident i)
         (.formed ⟨.ok, .incident o (closeWaiting s.writer.incidents i)⟩))))
     ∧ (openWaiting s.writer.incidents i = none →
       exec (.readIncident m i) s
         = .next (finish s ((queueRead s (.incident i)).withEntry m (.readIncident i) (.waiting (.read (.incident i)))))))
  ∧ (∀ (s : State) (n c : Nat),
       let held (q : Nat) : Prop :=
         (∃ k r, (k, Slot.good r) ∈ s.nv.journal ∧ r.seq = q) ∨ ∃ b ∈ s.writer.buffer, b.record.seq = q
       (∀ q, held q → s.oldest ≤ q) ∧ ((∃ q, held q) → held s.oldest) ∧ ((∀ q, ¬held q) → s.oldest = s.writer.nextSeq)
       ∧ s.journalReply n c = ⟨.ok, .journal ((s.askedSeqs n c).map s.journalItem)⟩
       ∧ s.askedSeqs n c = (List.range (min c (s.writer.nextSeq - n))).map (fun i => n + i)
       ∧ (∀ r, s.buffered n = some r → s.journalItem n = .record r)
       ∧ (∀ r, s.buffered n = none → s.stored n = some r → s.journalItem n = .record r)
       ∧ (s.buffered n = none → s.stored n = none → s.journalItem n = .unreadable n)
       ∧ (∀ r, s.buffered n = some r → r.seq = n ∧ ∃ b ∈ s.writer.buffer, b.record = r)
       ∧ (s.buffered n = none ↔ ∀ b ∈ s.writer.buffer, b.record.seq ≠ n)
       ∧ (∀ r, s.stored n = some r → r.seq = n ∧ ∃ k, (k, Slot.good r) ∈ s.nv.journal)
       ∧ (s.stored n = none ↔ ∀ k r, (k, Slot.good r) ∈ s.nv.journal → r.seq ≠ n))
  ∧ (∀ (s : State) (i : BitVec 16),
       let w := s.writer.incidents
       let x := s.nv.incidents[incidentSlotOf i.toNat]
       let opens (o : OpenPart) : Prop := openWaiting w i = some o ∨ (openWaiting w i = none ∧ x.opened = .good o ∧ o.number = i)
       let closes (c : ClosePart) : Prop := closeWaiting w i = some c ∨ (closeWaiting w i = none ∧ x.closed = .good c ∧ c.number = i)
       (∀ o c, opens o → closes c → s.incidentReply i = ⟨.ok, .incident o (some c)⟩)
       ∧ (∀ o, opens o → (∀ c, ¬closes c) → s.incidentReply i = ⟨.ok, .incident o none⟩)
       ∧ ((∀ o, ¬opens o) → s.incidentReply i = ⟨.notFound, .none⟩)
       ∧ (∀ o, openWaiting w i = some o → IncidentPart.opened o ∈ w ∧ o.number = i)
       ∧ (openWaiting w i = none ↔ ∀ o, IncidentPart.opened o ∈ w → o.number ≠ i)
       ∧ (∀ c, closeWaiting w i = some c → IncidentPart.closed c ∈ w ∧ c.number = i)
       ∧ (closeWaiting w i = none ↔ ∀ c, IncidentPart.closed c ∈ w → c.number ≠ i))

/-- EXPORT_MARK: at or below the present mark nothing changes; above it the mark becomes the lower of the sequence and the clamp; the
reply waits for the EXPORT rewrite. The clamp is the lowest of its bounds: the newest sequence, the one below the first record of every
pack in custody, and the one below the opening record of every lot; the tables that a rebuild has still to put in place count (DEDUCED,
log 21). -/
def Obligations.MarkRaised : Prop :=
  ∀ (s : State) (m : Byte) (n : BitVec 32), s.takesNow = true →
    let r : Tables := s.rebuilt.getD ⟨[], [], []⟩
    (∀ p ∈ s.packs ++ r.packs, s.clamp ≤ p.firstRecord - 1) ∧ (∀ l ∈ s.lots ++ r.lots, s.clamp ≤ l.opening - 1)
    ∧ s.clamp ≤ s.writer.nextSeq - 1
    ∧ (s.clamp = s.writer.nextSeq - 1 ∨ (∃ p ∈ s.packs ++ r.packs, s.clamp = p.firstRecord - 1)
        ∨ (∃ l ∈ s.lots ++ r.lots, s.clamp = l.opening - 1))
    ∧ (n.toNat ≤ s.writer.mark →
      exec (.exportMark m n) s = .next (finish s (s.withEntry m (.exportMark n) (.formed ⟨.ok, .mark s.writer.mark⟩))))
    ∧ (s.writer.mark < n.toNat → s.clamp ≤ s.writer.mark →
      exec (.exportMark m n) s
        = .next (finish s (s.withEntry m (.exportMark n) (.formed ⟨.clamped, .mark s.writer.mark⟩))))
    ∧ (s.writer.mark < n.toNat → s.writer.mark < s.clamp →
      let k := min n.toNat s.clamp
      ∃ t, exec (.exportMark m n) s = .next (finish s t)
        ∧ Queued s t m (.exportMark n) (.waiting (.rewrite .exported false ⟨if n.toNat ≤ s.clamp then .ok else .clamped, .mark k⟩))
        ∧ t.writer.mark = k ∧ t.writer.nextSeq = s.writer.nextSeq
        ∧ t.writer.buffer.map Buffered.record = s.writer.buffer.map Buffered.record
        ∧ SettingsOp.erase .exported ∈ t.writer.settingsOps
        ∧ LinkKept s t ∧ t = { s with writer := t.writer, link := t.link })

/-! ### The host link's events -/

/-- The receiver takes a byte by its state, and a gap discards a frame begun; a request of any row joins the queue, is discarded where
four are queued and counted in the discarded-request count alone (DEDUCED, log 59), waits untaken behind another untaken one, after an
accepted RESTART, while the rebuild has not ended (kinds 0x20 to 0x2A; DEDUCED for those of the Lot Table and the Staging Queue, log 20)
and, a RESTART, while an earlier reply is to be sent, and is taken at once otherwise. The last byte of a good frame puts its request in
the queue, or discards it where four are queued, and then, as REQUEST_TAKEN does, takes those that wait untaken in arrival order, each as
soon as the one before it has been taken, up to the first that may not be taken; each that changes the sign of free space minus the
reserve minus 16 makes JOURNAL pending. A good frame asks the request whose payload it carries, UNKNOWN_KIND outside the catalogue,
BAD_LENGTH for a payload of another length; a frame of a known kind waits as its kind's requests do, whatever its length. That a request
row is its own arrival, with its taking where it may be taken, is DESIGN CHOICE, log 1. -/
def Obligations.LinkEvents : Prop :=
  (∀ (s : State) (b : Byte), s.inReset = false →
     (s.link.rx = .hunting → b ≠ 0xc3#8 → exec (.hostByteReceived b) s = .next (linkPump s))
     ∧ (s.link.rx = .hunting → b = 0xc3#8 →
       exec (.hostByteReceived b) s = .next (linkPump { s with link := { s.link with rx := .length, gap := some 2 } }))
     ∧ (s.link.rx = .length → 2 ≤ b.toNat → b.toNat ≤ 252 →
       exec (.hostByteReceived b) s
         = .next (linkPump { s with link := { s.link with rx := .collecting b.toNat [], gap := some 2 } }))
     ∧ (s.link.rx = .length → (b.toNat < 2 ∨ 252 < b.toNat) →
       exec (.hostByteReceived b) s = .next (linkPump { s with link := { s.link with
         rx := .hunting, gap := none, discards := min 255 (s.link.discards + 1) } }))
     ∧ (∀ n l, s.link.rx = .collecting n l → l.length + 1 < n + 2 →
       exec (.hostByteReceived b) s
         = .next (linkPump { s with link := { s.link with rx := .collecting n (l ++ [b]), gap := some 2 } }))
     ∧ (∀ n l, s.link.rx = .collecting n l → l.length = n + 1 → crc16 (BitVec.ofNat 8 n :: l.take n) ≠ word16 (l.getD n 0#8) b →
       exec (.hostByteReceived b) s = .next (linkPump { s with link := { s.link with
         rx := .hunting, gap := none, discards := min 255 (s.link.discards + 1) } }))
     ∧ (s.link.gap.isSome = true →
       exec .interByteTimeout s = .next (linkPump { s with link := { s.link with
         rx := .hunting, gap := none, discards := min 255 (s.link.discards + 1) } }))
     ∧ (∀ n l k m p, s.link.rx = .collecting n l → l.length = n + 1 → l.take n = k :: m :: p →
       crc16 (BitVec.ofNat 8 n :: l.take n) = word16 (l.getD n 0#8) b →
       let ends (x : Link) : State := { s with link := { x with rx := .hunting, gap := none } }
       (s.link.queue.length < 4 → exec (.hostByteReceived b) s
         = .next (finish s (takeAll 4 (ends { s.link with queue := s.link.queue ++ [⟨m, askedOf k p, .untaken⟩] }))))
       ∧ (4 ≤ s.link.queue.length → exec (.hostByteReceived b) s
         = .next (linkPump (ends { s.link with discardedRequests := min 255 (s.link.discardedRequests + 1) }))))
     ∧ exec .requestTaken s = .next (finish s (takeAll 4 s)))
  ∧ (∀ (s : State) (n : Nat),
       takeAll 0 s = s
       ∧ ((∀ k, s.link.untaken = some k → s.takeable k = false) → takeAll n s = s)
       ∧ (∀ k, s.link.untaken = some k → s.takeable k = true →
           let u := (runAsked s k).1.withStage (runAsked s k).2
           takeAll (n + 1) s = takeAll n (u.markIf (s.reserveLeft ≠ u.reserveLeft) .journal))
       ∧ (s.reserveLeft = true ↔ s.reserve + 16 ≤ s.freeSpace))
  ∧ (∀ (s : State) (m : Byte) (r : Request) (c : Instr), s.inReset = false → r.row m = some c →
       let ends (t : State) : Prop := exec c s = .next (if r.linkOnly then linkPump t else finish s t)
       let waits : Prop := s.link.untaken.isSome = true ∨ s.link.restart ≠ .none
         ∨ (0x20 ≤ r.kind.toNat ∧ r.kind.toNat ≤ 0x2a ∧ s.phase ≠ .running)
         ∨ (r = .restart ∧ (s.link.replying = true ∨ s.link.queue ≠ []))
       let j := s.withEntry m r .untaken
       (4 ≤ s.link.queue.length →
         ends { s with link := { s.link with discardedRequests := min 255 (s.link.discardedRequests + 1) } })
       ∧ (s.link.queue.length < 4 → waits → ends j)
       ∧ (s.link.queue.length < 4 → ¬waits → ends ((runRequest j r).1.withStage (runRequest j r).2)))
  ∧ (∀ (k : Byte) (p : List Byte),
       (k ∉ knownKinds → askedOf k p = .unknownKind k)
       ∧ (∀ r : Request, r.kind = k → r.payload.length = p.length → ∃ q : Request, askedOf k p = .known q ∧ q.kind = k ∧ q.payload = p)
       ∧ (∀ r : Request, r.kind = k → r.payload.length ≠ p.length → askedOf k p = .badLength k))
  ∧ (∀ (s : State) (r : Request) (k : Byte),
       s.takeable (.badLength r.kind) = s.takeable (.known r) ∧ s.takeable (.unknownKind k) = decide (s.link.restart = .none))

/-! ### Bay events -/

/-- A sample event: the channel takes its mark, its validity and its values, the block in progress and the averages it completes, the
pack-over-limit report, the pack its energy but in EMPTY, READY and LOCKED, an invalid sample giving both from the last valid sample, and
then the bay acts; where the report has changed, the bay and its zone take it in an order that is a free value (DESIGN CHOICE, log 10). A
record marked VALID outside its ranges is taken as SATURATED; a miss is an invalid sample, shown with the mark INVALID (DEDUCED, log 44).
A block starts afresh with the sample that regains sense or restarts a TRIPPED bay, none under its over-limit report restarting (DEDUCED,
log 26). -/
def Obligations.SampleTaken : Prop :=
  (∀ (s : State) (b : BayId) (v i h p : Int) (k : SampleMark), s.inReset = false →
    let u : Sample := ⟨v, i, h, p⟩
    let x := s.bay b
    let n := min 255 (x.invalidRun + 1)
    let mk : SampleMark := if k = .valid ∧ inRange u = false then .saturated else k
    let acted (r : State × SampleEvent) : State :=
      if x.overLimit = (r.1.bay b).overLimit then bayActs r.1 b r.2
      else eitherOrder Config.zoneFirst s.free (thermalChange (bayActs r.1 b r.2) b) (bayActs (thermalChange r.1 b) b r.2)
    let valid := bayMeasures s b .valid (some u) 150
    let lost := bayMeasures s b mk none 150
    let miss := bayMeasures s b .invalid none 100
    let limit : Bool := (valid.1.bay b).overLimit
    let drop : Bool := x.sense = .lost
      || (x.state = .tripped && x.retryTimer.isNone && !s.awaiting b && decide (h ≤ x.settingsFor.restartTemp) && !limit)
    (k = .valid → inRange u = true → exec (.baySampleArrival b v i h p k) s = .next (finish s (acted valid)))
    ∧ (¬(k = .valid ∧ inRange u = true) → exec (.baySampleArrival b v i h p k) s = .next (finish s (acted lost)))
    ∧ exec (.baySampleMiss b) s = .next (finish s (acted miss))
    ∧ (valid.1.bay b).lastValid = some u ∧ (valid.1.bay b).lastMark = some .valid ∧ (valid.1.bay b).invalidRun = 0
    ∧ (valid.1.bay b).sense = .good ∧ (valid.1.bay b).peaks = some (raisePeaks x.peaks u)
    ∧ (valid.1.bay b).missTimer = 150 ∧ (valid.1.bay b).blockWaitsValid = false
    ∧ (let r := blockAdd s.budget.exponent (if drop then none else x.block) u
       (valid.1.bay b).block = r.1 ∧ (valid.1.bay b).averages = r.2.or x.averages
       ∧ valid.2 = ⟨some u, true, r.2.isSome, false, x.sense = .lost⟩)
    ∧ (∀ q c, s.bayPack b = some q → s.classes[q.cls] = some c → limit = decide (c.limit < p))
    ∧ ((s.bayPack b = none ∨ ∃ q, s.bayPack b = some q ∧ s.classes[q.cls] = none) → limit = false)
    ∧ (miss.1.bay b).lastValid = x.lastValid ∧ (miss.1.bay b).lastMark = some .invalid
    ∧ (miss.1.bay b).invalidRun = n ∧ (miss.1.bay b).peaks = x.peaks
    ∧ (miss.1.bay b).sense = (if 3 ≤ n then .lost else x.sense) ∧ (miss.1.bay b).missTimer = 100
    ∧ (x.lastValid = none →
        (miss.1.bay b).block = x.block ∧ (miss.1.bay b).averages = x.averages ∧ miss.2 = ⟨none, false, false, decide (n = 3), false⟩)
    ∧ (∀ w, x.lastValid = some w → x.blockWaitsValid = true →
        (miss.1.bay b).block = x.block ∧ (miss.1.bay b).averages = x.averages ∧ miss.2 = ⟨some w, false, false, decide (n = 3), false⟩)
    ∧ (∀ w, x.lastValid = some w → x.blockWaitsValid = false →
        let r := blockAdd s.budget.exponent x.block w
        (miss.1.bay b).block = r.1 ∧ (miss.1.bay b).averages = r.2.or x.averages
        ∧ miss.2 = ⟨some w, false, r.2.isSome, decide (n = 3), false⟩)
    ∧ lost.2 = miss.2 ∧ lost.1.bay b = { miss.1.bay b with lastMark := some mk, missTimer := 150 }
    ∧ (∀ q, s.bayPack b = some q → takesEnergy x.state = true →
        let e := x.residue + v.toNat * i.toNat
        (valid.1.bay b).residue = e % 3600000
        ∧ valid.1.pack q.tag = some { q with energy := min 4294967295 (q.energy + e / 3600000) })
    ∧ (∀ q w, s.bayPack b = some q → takesEnergy x.state = true → x.lastValid = some w →
        let e := x.residue + w.voltage.toNat * w.current.toNat
        (miss.1.bay b).residue = e % 3600000
        ∧ miss.1.pack q.tag = some { q with energy := min 4294967295 (q.energy + e / 3600000) })
    ∧ (∀ w, x.lastValid = some w →
        (∀ q c, s.bayPack b = some q → s.classes[q.cls] = some c → (miss.1.bay b).overLimit = decide (c.limit < w.packTemp))
        ∧ ((s.bayPack b = none ∨ ∃ q, s.bayPack b = some q ∧ s.classes[q.cls] = none) → (miss.1.bay b).overLimit = false))
    ∧ (x.lastValid = none →
        (miss.1.bay b).overLimit = x.overLimit ∧ (miss.1.bay b).residue = x.residue ∧ miss.1.packs = s.packs)
    ∧ (∀ r ∈ [valid, lost, miss], (s.bayPack b = none ∨ x.state = .empty ∨ x.state = .ready ∨ x.state = .locked) →
        (r.1.bay b).residue = x.residue ∧ r.1.packs = s.packs)
    ∧ lost.1.packs = miss.1.packs ∧ (∀ q, s.bayPack b = some q → OtherPacks q.tag s valid.1 ∧ OtherPacks q.tag s miss.1)
    ∧ (∀ r ∈ [valid, lost, miss], OtherBays b s r.1 ∧ LinkKept s r.1 ∧ r.1.link.queue = s.link.queue
        ∧ r.1 = { s with bays := r.1.bays, packs := r.1.packs, link := r.1.link }))
  ∧ (∀ (n : Nat) (o : Option Block) (u : Sample),
       let k := o.getD ⟨2 ^ n, 0, 0, 0, 0⟩
       (k.count + 1 < k.length → blockAdd n o u
         = (some ⟨k.length, k.count + 1, k.voltage + u.voltage, k.current + u.current, k.heatsink + u.heatsink⟩, none))
       ∧ (k.length ≤ k.count + 1 → blockAdd n o u
         = (none, some ⟨(k.voltage + u.voltage).tdiv k.length, (k.current + u.current).tdiv k.length,
             (k.heatsink + u.heatsink).tdiv k.length⟩)))

/-- The trip tests of a DISCHARGING bay's sample event, in their order; and a trip whose event is taken at once: no command, out of the
arbiter, one more trip of bay and pack and its TRIP record. Below the caps the bay is TRIPPED with its retry delay; the trip that reaches
8 quarantines the pack TRIP_LIMIT; a PACK_THERMAL trip, and one past the retry limit, quarantine it for that reason; at record charge 14
the RECORD_LIMIT quarantine takes the place of the TRIP record. In the last four the bay is LOCKED with the pack. That the trips of a
pack stay at 8 where a reset has lost its QUARANTINE record is DEDUCED, log 60. -/
def Obligations.TripTaken : Prop :=
  (∀ (x : Bay) (v : BaySettings) (u : Sample) (e : SampleEvent),
     let cur : Prop := (v.tripCurrent : Int) < u.current
     let rev : Prop := u.current < -100
     let hot : Prop := e.completed = true ∧ v.tripTemp ≤ x.hAvg
     (x.overLimit = true → tripTest x v u e = some .packThermal)
     ∧ (x.overLimit = false → e.lostNow = true → tripTest x v u e = some .sense)
     ∧ (x.overLimit = false → e.lostNow = false → cur → tripTest x v u e = some .overcurrent)
     ∧ (x.overLimit = false → e.lostNow = false → ¬cur → rev → tripTest x v u e = some .reverse)
     ∧ (x.overLimit = false → e.lostNow = false → ¬cur → ¬rev → hot → tripTest x v u e = some .heatsink)
     ∧ (x.overLimit = false → e.lostNow = false → ¬cur → ¬rev → ¬hot → 20 ≤ x.sustained → tripTest x v u e = some .sustained)
     ∧ (x.overLimit = false → e.lostNow = false → ¬cur → ¬rev → ¬hot → x.sustained < 20 → tripTest x v u e = none))
  ∧ (∀ (s : State) (b : BayId) (p : Pack) (v : BaySettings) (k : TripKind),
       (s.bay b).state = .discharging → s.bayPack b = some p → p.state = .inBay → p.bay = some b → (s.bay b).settings = some v →
       (s.bay b).retryCount < 8 →
       let t := bayTrip s b k
       let n := (s.bay b).retryCount + 1
       let tripped : Pack := { p with trips := min 8 (p.trips + 1), charge := p.charge + 1 }
       let d := drafted tripped .trip (some b) (.trip k)
       let locked (q : Pack) (r : QuarReason) (ds : List Draft) : Prop :=
         let z := q.quarantinedFor r
         PackLocked b s t z (ds ++ [drafted z .quarantine (some b) (.quarantine r)])
         ∧ (t.bay b).retryCount = n ∧ (t.bay b).clearMs = 0
       (s.takesEvents 1 → p.charge < 14 → p.trips < 7 → k ≠ .packThermal → n ≤ v.retryLimit →
           (t.bay b).state = .tripped ∧ (t.bay b).command = 0 ∧ (t.bay b).participant = false ∧ (t.bay b).clearMs = 0
           ∧ (t.bay b).sustained = 0 ∧ (t.bay b).retryCount = n
           ∧ (t.bay b).retryTimer = some (1000 * v.retryDelay) ∧ OtherBaysRegranted b s t
           ∧ t.pack p.tag = some tripped ∧ OtherPacks p.tag s t ∧ Accepts s t [d] ∧ LinkKept s t ∧ t.link.queue = s.link.queue
           ∧ t = { s with packs := t.packs, bays := t.bays, writer := t.writer, line := t.line, link := t.link })
       ∧ (s.takesEvents 2 → p.charge < 14 → 7 ≤ p.trips → locked tripped .tripLimit [d])
       ∧ (s.takesEvents 2 → p.charge < 14 → p.trips < 7 → k = .packThermal → locked tripped .packThermal [d])
       ∧ (s.takesEvents 2 → p.charge < 14 → p.trips < 7 → k ≠ .packThermal → v.retryLimit < n → locked tripped .retryLimit [d])
       ∧ (s.takesEvents 1 → 14 ≤ p.charge → locked { p with trips := min 8 (p.trips + 1) } .recordLimit []))

/-- The bay's timers and times: the retry timer and the clear period change their own item alone; the rest timer's end decides the rest
where sense is GOOD; the time limit quarantines the pack and locks the bay. What the decisions come to, the event taken at once: READY,
the pack RELEASED and the bay READY; REBOUND, counted, the bay HELD under a hold reason and DISCHARGING without one; the fourth REBOUND,
and at record charge 14 either event, the pack quarantined and the bay LOCKED, rebounds as they were (DEDUCED, log 50); the bay's own
quarantine. The end of discharge: RESTING with the class rest time, decided at once where that is 0 and sense is GOOD. While a pack event
of the bay is held, the rows of its timers and times change nothing (R155; log 14). That a bay which goes from HELD to LOCKED keeps its
block in progress is DEDUCED, log 61. -/
def Obligations.BayTimers : Prop :=
  (∀ (s : State) (b : BayId), s.inReset = false → s.awaiting b = false →
     ((s.bay b).retryTimer.isSome = true →
       exec (.retryTimerExpiry b) s = .next (finish s (s.setBay b { s.bay b with retryTimer := none })))
     ∧ ((s.bay b).state = .discharging →
       exec (.clearPeriod b) s = .next (finish s (s.setBay b { s.bay b with retryCount := 0 })))
     ∧ ((s.bay b).restTimer.isSome = true →
       let u := s.setBay b { s.bay b with restTimer := none }
       exec (.restTimerExpiry b) s = .next (finish s (if (s.bay b).sense = .good then restDecision u b else u)))
     ∧ (∀ p, (s.bay b).state = .discharging → s.bayPack b = some p → p.state = .inBay → p.bay = some b → s.takesEvents 1 →
       let q := p.quarantinedFor .timeLimit
       ∃ t, exec (.maxDischargeTime b) s = .next (finish s t)
         ∧ PackLocked b s t q [drafted q .quarantine (some b) (.quarantine .timeLimit)]))
  ∧ (∀ (s : State) (b : BayId), s.inReset = false → s.awaiting b = true →
       exec (.retryTimerExpiry b) s = .next (finish s s) ∧ exec (.clearPeriod b) s = .next (finish s s)
       ∧ exec (.restTimerExpiry b) s = .next (finish s s) ∧ exec (.maxDischargeTime b) s = .next (finish s s))
  ∧ (∀ (s : State) (b : BayId) (p : Pack), s.bayPack b = some p → p.bay = some b → (s.bay b).state ≠ .locked →
       let locked (t : State) (r : QuarReason) : Prop :=
         let q := p.quarantinedFor r
         PackLocked b s t q [drafted q .quarantine (some b) (.quarantine r)]
       (∀ a, (s.bay b).averages = some a → a.voltage ≤ (s.releaseVoltage p : Int) → restDecision s b = bayReady s b)
       ∧ (∀ a, (s.bay b).averages = some a → (s.releaseVoltage p : Int) < a.voltage → restDecision s b = bayRebound s b)
       ∧ ((s.bay b).averages = none → restDecision s b = s)
       ∧ (∀ r, (p.state = .inBay ∨ p.state = .released) → s.takesEvents 1 → locked (bayQuarantine s b r) r)
       ∧ (p.state = .inBay → s.takesEvents 1 →
         (p.charge < 14 →
           let q : Pack := { p with state := .released, charge := p.charge + 1 }
           let t := bayReady s b
           t.pack p.tag = some q ∧ OtherPacks p.tag s t ∧ Accepts s t [drafted q .ready (some b) .none]
           ∧ (t.bay b).state = .ready ∧ (t.bay b).command = 0 ∧ (t.bay b).participant = false ∧ OtherBaysRegranted b s t
           ∧ t = { s with packs := t.packs, bays := t.bays, writer := t.writer, line := t.line, link := t.link })
         ∧ (14 ≤ p.charge → locked (bayReady s b) .recordLimit)
         ∧ (p.charge < 14 → p.rebounds < 3 →
           let q : Pack := { p with rebounds := p.rebounds + 1, charge := p.charge + 1 }
           let t := bayRebound s b
           t.pack p.tag = some q ∧ OtherPacks p.tag s t ∧ Accepts s t [drafted q .rebound (some b) .none]
           ∧ ((s.bay b).holds.isEmpty = false → (t.bay b).state = .held ∧ (t.bay b).command = 0 ∧ (t.bay b).participant = false)
           ∧ ((s.bay b).holds.isEmpty = true → (t.bay b).state = .discharging ∧ (t.bay b).participant = true)
           ∧ (t.bay b).restTimer = (s.bay b).restTimer ∧ OtherBaysRegranted b s t
           ∧ t = { s with packs := t.packs, bays := t.bays, writer := t.writer, line := t.line, link := t.link })
         ∧ (14 ≤ p.charge → p.rebounds < 3 → locked (bayRebound s b) .recordLimit)
         ∧ (3 ≤ p.rebounds → locked (bayRebound s b) .reboundLimit)))
  ∧ (∀ (s : State) (b : BayId) (p : Pack),
       let r := (s.classFor p.cls).rest
       ∃ v, enterResting s b p = (if r = 0 ∧ (s.bay b).sense = .good then restDecision v b else v)
         ∧ v.bay b = { s.bay b with
             state := .resting, restTimer := if r = 0 then none else some (1000 * r), participant := false, request := 0, grant := 0
             command := 0, sustained := 0 }
         ∧ OtherBaysRegranted b s v ∧ LinkKept s v ∧ v = { s with bays := v.bays, link := v.link })

/-- What a bay does on a sample event, state by state: nothing while its pack's event is held, without a pack or without used values.
PLACED: the reversal test of the first valid sample, the pack over its limit, and the decision on a completed voltage average;
DISCHARGING: the sustained count, the trip tests, the end test and a request formed afresh; HELD: the return on regained sense; TRIPPED:
the restart; RESTING: the decision left open by a lost sense; every one of them but DISCHARGING quarantines a pack over its limit, READY
too. The report tested on each sample and before the other tests of its state is DEDUCED, log 26; that the end test never succeeds on an
end voltage above 100,000 is the sentence of R34 and R55 against the bare comparison (DEDUCED, log 58). -/
def Obligations.BayActs : Prop :=
  (∀ (s : State) (b : BayId) (e : SampleEvent), s.awaiting b = true ∨ e.used = none ∨ s.bayPack b = none → bayActs s b e = s)
  ∧ (∀ (s : State) (b : BayId) (e : SampleEvent) (p : Pack) (u : Sample), s.awaiting b = false → e.used = some u → s.bayPack b = some p →
       let x := s.bay b
       let t := bayActs s b e
       (x.state = .empty ∨ x.state = .locked → t = s)
       ∧ (x.state = .placed → x.reversalDue = true → e.valid = true → u.voltage < -100 → t = bayQuarantine s b .placeFault)
       ∧ (x.state = .placed → ¬(x.reversalDue = true ∧ e.valid = true ∧ u.voltage < -100) →
         let y := s.setBay b { x with reversalDue := x.reversalDue && !e.valid }
         let due : Prop := x.overLimit = false ∧ e.completed = true ∧ x.sense = .good ∧ x.holds.restart = false
         (x.overLimit = true → t = bayQuarantine y b .packThermal)
         ∧ (due → x.vAvg < -100 → t = bayQuarantine y b .placeFault)
         ∧ (due → -100 ≤ x.vAvg → x.vAvg ≤ (s.releaseVoltage p : Int) → t = bayReady y b)
         ∧ (due → -100 ≤ x.vAvg → (s.releaseVoltage p : Int) < x.vAvg → x.holds.isEmpty = true → t = enterDischarging y b)
         ∧ (due → -100 ≤ x.vAvg → (s.releaseVoltage p : Int) < x.vAvg → x.holds.isEmpty = false →
             t = putApart y b { y.bay b with state := .held })
         ∧ (x.overLimit = false → ¬due → t = y))
       ∧ (x.state = .discharging →
         let i := (x.averages.map Averages.current).getD 0
         let f : Int := ((x.command * 125 / 100 : Nat) : Int)
         let n := if 100 ≤ x.command ∧ f < i then min 20 (x.sustained + 1) else if e.completed = true ∧ i ≤ f then 0 else x.sustained
         let z : Bay := { x with sustained := n }
         let y := s.setBay b z
         let ended : Prop := s.endVoltage p ≤ 100000 ∧ x.vAvg ≤ (s.endVoltage p : Int)
         (∀ k, tripTest z x.settingsFor u e = some k → t = bayTrip y b k)
         ∧ (tripTest z x.settingsFor u e = none → e.completed = false → t = y)
         ∧ (tripTest z x.settingsFor u e = none → e.completed = true → ended → t = enterResting y b p)
         ∧ (tripTest z x.settingsFor u e = none → e.completed = true → ¬ended → t = renewRequest y b))
       ∧ ((x.state = .held ∨ x.state = .tripped ∨ x.state = .resting ∨ x.state = .ready) → x.overLimit = true →
           t = bayQuarantine s b .packThermal)
       ∧ (x.state = .held → x.overLimit = false →
           t = if e.regained = true ∧ x.holds.isEmpty = true then enterDischarging s b else s)
       ∧ (x.state = .tripped → x.overLimit = false →
         let restarts : Prop := x.retryTimer = none ∧ e.valid = true ∧ u.heatsink ≤ x.settingsFor.restartTemp
         (restarts → x.holds.isEmpty = true → t = enterDischarging s b)
         ∧ (restarts → x.holds.isEmpty = false → t = putApart s b { x with state := .held })
         ∧ (¬restarts → t = s))
       ∧ (x.state = .resting → x.overLimit = false →
           t = if x.restTimer = none ∧ e.completed = true ∧ x.sense = .good then restDecision s b else s)
       ∧ (x.state = .ready → x.overLimit = false → t = s))
  ∧ (∀ (s : State) (b : BayId) (x : Bay),
       let t := putApart s b x
       t.bay b = { x with participant := false, request := 0, grant := 0, command := 0, sustained := 0 }
       ∧ OtherBaysRegranted b s t ∧ LinkKept s t ∧ t = { s with bays := t.bays, link := t.link })
  ∧ (∀ (s : State) (b : BayId) (p : Pack), s.bayPack b = some p →
       let t := renewRequest s b
       let x := formRequest s p (s.bay b)
       t.bay b = { x with grant := (t.bay b).grant, command := (t.bay b).command, sustained := (t.bay b).sustained }
       ∧ ((s.bay b).participant = true → (t.bay b).command = commandFor (t.bay b).grant x.wanted x.vAvg)
       ∧ ((s.bay b).participant = true → x.request ≠ (s.bay b).request →
           ∀ g ∈ waterFill s.effective t.participants, (t.bay g.1).grant = g.2)
       ∧ OtherBaysRegranted b s t ∧ LinkKept s t ∧ t = { s with bays := t.bays, link := t.link })

/-- The oldest held pack event stays held while the rebuild has not ended and while its records do not fit; a FEEDING that the feeder
would no longer start is dropped (DEDUCED, log 14); any other is taken, its submitter then going on. An event submitted is taken at once
where none is held, the rebuild has ended and its records fit. Each kind's outcome: TRIP counted, up to 8 (DEDUCED, log 60), at 8 with
the TRIP_LIMIT quarantine behind its record, and the record-charge limit; REBOUND counted, or the fourth, or the record-charge limit with
rebounds as they were (DEDUCED, log 50); READY; the bay's quarantine; FEEDING, FED and FEED_REMOVED; EXPOSE; an event whose pack is not
where it is expected is ignored. What a bay does once its TRIP has its outcome: LOCKED where the pack is quarantined; where step 4
submits a quarantine event, LOCKED once that is taken, at once or, held, waiting as it stands (log 14); TRIPPED with its retry delay
otherwise. -/
def Obligations.HeldEventTaken : Prop :=
  (∀ (s : State) (e : PackEvent) (r : List PackEvent), s.inReset = false → s.held = e :: r →
     let a := applyEvent { s with held := r } e
     let wanted : Prop := ∀ n, e = .feeding n → s.feeder.state = .ready ∧ s.queue.head? = some n
     (s.phase = .starting → exec .heldPackEventTaken s = .next (finish s s))
     ∧ (s.phase = .running → ¬wanted → exec .heldPackEventTaken s = .next (finish s (tryFeed { s with held := r })))
     ∧ (s.phase = .running → wanted → 64 < a.1.writer.buffer.length → exec .heldPackEventTaken s = .next (finish s s))
     ∧ (s.phase = .running → wanted → a.1.writer.buffer.length ≤ 64 →
         exec .heldPackEventTaken s = .next (finish s (match e with
           | .trip b n k => afterTrip a.1 b n k a.2
           | .rebound b n => afterRebound a.1 b n a.2
           | .ready b n => afterReady a.1 b n a.2
           | .bayQuarantine b n _ => if (a.1.bay b).pack = some n then lockBay a.1 b else a.1
           | .feeding n => if a.2 = .continued then openFeed a.1 n else tryFeed a.1
           | .fed n _ => answerFeed (reportEmpty s (endFeed a.1)) n
           | .feedRemoved n => answerFeed (reportEmpty s (endFeed a.1)) n
           | .expose _ _ => a.1))))
  ∧ (∀ (s : State) (e : PackEvent),
       let a := applyEvent s e
       (s.phase = .running → s.held = [] → a.1.writer.buffer.length ≤ 64 → submit s e = (a.1, some a.2))
       ∧ (s.phase ≠ .running ∨ s.held ≠ [] ∨ 64 < a.1.writer.buffer.length → submit s e = ({ s with held := s.held ++ [e] }, none)))
  ∧ (∀ (s : State) (b : BayId) (n : Tag) (k : TripKind) (r : QuarReason) (late : Bool) (i : BitVec 16),
       let here (p : Pack) : Prop := p.state = .inBay ∧ p.bay = some b
       let fed (p : Pack) : Prop := p.state = .feeding
       let open_ (p : Pack) : Prop :=
         p.state = .inBay ∨ p.state = .staged ∨ p.state = .feeding ∨ (p.state = .released ∧ p.bay.isSome = true)
       ((∀ p, s.pack n = some p → ¬here p) →
           applyEvent s (.trip b n k) = (s, .ignored) ∧ applyEvent s (.rebound b n) = (s, .ignored)
           ∧ applyEvent s (.ready b n) = (s, .ignored))
       ∧ ((∀ p, s.pack n = some p → ¬((p.state = .inBay ∨ p.state = .released) ∧ p.bay = some b)) →
           applyEvent s (.bayQuarantine b n r) = (s, .ignored))
       ∧ ((∀ p, s.pack n = some p → ¬(p.state = .staged ∧ s.queue.head? = some n)) → applyEvent s (.feeding n) = (s, .ignored))
       ∧ ((∀ p, s.pack n = some p → ¬fed p) →
           applyEvent s (.fed n late) = (s, .ignored) ∧ applyEvent s (.feedRemoved n) = (s, .ignored))
       ∧ ((∀ p, s.pack n = some p → ¬open_ p) → applyEvent s (.expose n i) = (s, .ignored))
       ∧ ∀ p, s.pack n = some p →
         let limited (a : State × Answer) : Prop := a = (quarantinePack s p .recordLimit, .quarantined)
         let wrote (a : State × Answer) (q : Pack) (d : Draft) : Prop := a.2 = .continued ∧ PackWritten s a.1 q d
         (here p → p.charge < 14 → p.trips < 7 →
             let q : Pack := { p with trips := p.trips + 1, charge := p.charge + 1 }
             wrote (applyEvent s (.trip b n k)) q (drafted q .trip (some b) (.trip k)))
         ∧ (here p → p.charge < 14 → 7 ≤ p.trips →
             let q : Pack := { p with trips := 8, charge := p.charge + 1 }
             ∃ u, PackWritten s u q (drafted q .trip (some b) (.trip k))
               ∧ applyEvent s (.trip b n k) = (quarantinePack u q .tripLimit, .quarantined))
         ∧ (here p → 14 ≤ p.charge → applyEvent s (.trip b n k)
             = (quarantinePack s { p with trips := min 8 (p.trips + 1) } .recordLimit, .quarantined))
         ∧ (here p → p.charge < 14 → p.rebounds < 3 →
             let q : Pack := { p with rebounds := p.rebounds + 1, charge := p.charge + 1 }
             wrote (applyEvent s (.rebound b n)) q (drafted q .rebound (some b) .none))
         ∧ (here p → 14 ≤ p.charge → p.rebounds < 3 → limited (applyEvent s (.rebound b n)))
         ∧ (here p → 3 ≤ p.rebounds → applyEvent s (.rebound b n) = (quarantinePack s p .reboundLimit, .quarantined))
         ∧ (here p → p.charge < 14 →
             let q : Pack := { p with state := .released, charge := p.charge + 1 }
             wrote (applyEvent s (.ready b n)) q (drafted q .ready (some b) .none))
         ∧ (here p → 14 ≤ p.charge → limited (applyEvent s (.ready b n)))
         ∧ ((p.state = .inBay ∨ p.state = .released) → p.bay = some b →
             applyEvent s (.bayQuarantine b n r) = (quarantinePack s p r, .quarantined))
         ∧ (p.state = .staged → s.queue.head? = some n →
             let a := applyEvent s (.feeding n)
             a.2 = .continued ∧ a.1.pack n = some { p with state := .feeding } ∧ OtherPacks n s a.1 ∧ LinkKept s a.1
             ∧ a.1 = { s with packs := a.1.packs, link := a.1.link })
         ∧ (fed p → applyEvent s (.fed n late) = (exitPack s p .fed late, .continued))
         ∧ (fed p → applyEvent s (.feedRemoved n) = (quarantinePack s p .requested, .quarantined))
         ∧ (open_ p → p.exposure = some ⟨i, false⟩ → applyEvent s (.expose n i) = (s, .continued))
         ∧ (open_ p → p.exposure ≠ some ⟨i, false⟩ → p.charge < 14 →
             let q : Pack := { p with exposure := some ⟨i, false⟩, charge := p.charge + 1 }
             wrote (applyEvent s (.expose n i)) q (drafted q .expose p.bay (.incident i)))
         ∧ (open_ p → p.exposure ≠ some ⟨i, false⟩ → 14 ≤ p.charge → ¬fed p → limited (applyEvent s (.expose n i)))
         ∧ (p.exposure ≠ some ⟨i, false⟩ → 14 ≤ p.charge → fed p →
             let a := applyEvent s (.expose n i)
             a.2 = .continued ∧ a.1.pack n = some { p with exposure := some ⟨i, false⟩ } ∧ OtherPacks n s a.1 ∧ LinkKept s a.1
             ∧ a.1 = { s with packs := a.1.packs, link := a.1.link }))
  ∧ (∀ (s : State) (b : BayId) (n : Tag) (k : TripKind) (a : Answer) (v : BaySettings), (s.bay b).settings = some v →
       let x := s.bay b
       let t := afterTrip s b n k a
       let waits : Prop := x.pack = some n ∧ x.state ≠ .locked
       let limit (r : QuarReason) : Prop :=
         (k = .packThermal ∧ r = .packThermal) ∨ (k ≠ .packThermal ∧ v.retryLimit < x.retryCount ∧ r = .retryLimit)
       let event (r : QuarReason) := applyEvent s (.bayQuarantine b n r)
       (¬waits → t = s)
       ∧ (waits → a = .quarantined → (∀ r, ¬limit r) → t = lockBay s b)
       ∧ (∀ r, waits → a ≠ .quarantined → limit r → s.phase = .running → s.held = [] → (event r).1.writer.buffer.length ≤ 64 →
           t = lockBay (event r).1 b)
       ∧ (∀ r, waits → a ≠ .quarantined → limit r →
           (s.phase ≠ .running ∨ s.held ≠ [] ∨ 64 < (event r).1.writer.buffer.length) →
           t = { s with held := s.held ++ [.bayQuarantine b n r] })
       ∧ (waits → a ≠ .quarantined → (∀ r, ¬limit r) →
           let y := s.setBay b { x with retryTimer := some (1000 * v.retryDelay) }
           t = putApart y b { y.bay b with state := .tripped }))

/-! ### Loop events -/

/-- A loop's sending: the first frame due begins at gap expiry on a free loop, a broadcast before a POLL; a seizure withdraws it; a POLL
sent opens its answer window; a broadcast sent leaves the queue, its own effect follows, and every LOOP_TEST that waited for it is
answered OK with the window open or closed. That LOOP_GAP_EXPIRY acts whether or not the gap is seen to run, and that one on a loop not
free ends the gap, is DEDUCED, log 23. -/
def Obligations.LoopSends : Prop :=
  ∀ (s : State) (l : LoopId), s.inReset = false →
    let x := s.loop l
    let moved (c : Instr) (y : Loop) : Prop := exec c s = .next (finish s (putLoop s l y))
    let idle : Prop := x.state = .idle ∧ x.sending = none
    (∀ b r, idle → x.waiting = b :: r → moved (.loopGapExpiry l true) { x with sending := some (.broadcast b), gap := none })
    ∧ (∀ a, idle → x.waiting = [] → x.cursor = some a →
        moved (.loopGapExpiry l true) { x with state := .polling, sending := some (.poll a), polled := some a, gap := none })
    ∧ (idle → x.waiting = [] → x.cursor = none → moved (.loopGapExpiry l true) { x with gap := none })
    ∧ (idle → moved (.loopGapExpiry l false) { x with gap := none })
    ∧ ((x.state = .idle ∨ (x.state = .polling ∧ x.answer = none)) →
        moved (.loopSeized l) { x with state := .receiving, sending := none, gap := none, polled := none, orphan := false })
    ∧ (∀ a, x.sending = some (.poll a) → moved (.pollSent l) { x with sending := none, answer := some 25 })
    ∧ (∀ b, x.sending = some (.broadcast b) →
        ∃ t, exec (.broadcastSent l) s = .next (finish s t) ∧ OtherLoop l s t
          ∧ t.loop l = { x with
              state := .idle, gap := some 5, sending := none, polled := none, answer := none, orphan := false
              waiting := x.waiting.drop 1, testing := (t.loop l).testing, testTimer := (t.loop l).testTimer
              cursor := (t.loop l).cursor, heads := (t.loop l).heads }
          ∧ (t.loop l).testing = (match b with | .resync => x.testing | .testStart => true | .testEnd => false)
          ∧ (t.loop l).testTimer = (match b with | .resync => x.testTimer | .testStart => some 60000 | .testEnd => none)
          ∧ (t.loop l).cursor = (match b with | .resync => x.lowest | _ => x.cursor)
          ∧ (∀ (a : HeadAddr) (h : Head), b = .testStart → x.heads[a] = some h → (t.loop l).heads[a] = some { h with tested := false })
          ∧ (b ≠ .testStart → (t.loop l).heads = x.heads)
          ∧ t.link.queue = s.link.queue.map (fun e => match b with
              | .resync => e
              | .testStart => if e.stage = .waiting (.broadcast l true) then { e with stage := .formed ⟨.ok, .window true⟩ } else e
              | .testEnd => if e.stage = .waiting (.broadcast l false) then { e with stage := .formed ⟨.ok, .window false⟩ } else e)
          ∧ LinkKept s t
          ∧ t = { s with loopA := t.loopA, loopB := t.loopB, link := t.link })

/-- A good ANSWER to the POLL whose window is open, and a window that runs out: the entry, the cursor and the gap; three misses make the
head MISSING. For a polled head withdrawn meanwhile, or with no entry, either ends the window with no entry changed and the cursor where
the withdrawal put it (logs 24, 49). Any other ANSWER is counted as a frame error, in IDLE too (DEDUCED, log 22), and ends a reception
with a gap and the acknowledge slot left recessive (log 68); one with a value out of its kind's range is counted, and the window runs on
(log 24). The range of a HEAT value is PRESUMED, log 24. -/
def Obligations.PollAnswered : Prop :=
  (∀ (s : State) (l : LoopId) (a : HeadAddr) (h : Head) (lv : FrameLevel) (v : Int) (test : Bool), s.inReset = false →
    let x := s.loop l
    x.state = .polling → x.answer.isSome = true → x.polled = some a → x.orphan = false → x.heads[a] = some h →
    (valueOk h.kind v = true →
      ∃ t, exec (.answerReceived l a lv v test) s = .next (finish s t)
        ∧ t.head l a = some (if test && x.testing then { h with tested := true, missed := 0 }
            else { h with level := frameLevel lv, value := v, missed := 0 })
        ∧ (∀ b, b ≠ a → t.head l b = s.head l b) ∧ OtherLoop l s t
        ∧ t.loop l = { x with
            state := .idle, gap := some 5, sending := none, polled := none, answer := none, cursor := x.nextAfter a
            heads := (t.loop l).heads }
        ∧ (h.level ≠ frameLevel lv → h.isolated = false → (test && x.testing) = false →
            (t.zone h.zone).counts = t.headCounts h.zone ∧ (t.zone h.zone).fault = t.zoneFault h.zone)
        ∧ ((h.level = frameLevel lv ∨ h.isolated = true ∨ (test && x.testing) = true) → t.zones = s.zones ∧ t.packs = s.packs))
    ∧ (∃ t, exec (.answerWindowExpiry l) s = .next (finish s t)
        ∧ t.head l a = some (if 2 ≤ h.missed then { h with missed := 3, level := .missing } else { h with missed := h.missed + 1 })
        ∧ (∀ b, b ≠ a → t.head l b = s.head l b) ∧ OtherLoop l s t
        ∧ t.loop l = { x with
            state := .idle, gap := some 5, sending := none, polled := none, answer := none, cursor := x.nextAfter a
            heads := (t.loop l).heads }
        ∧ (h.level ≠ .missing → 2 ≤ h.missed → h.isolated = false →
            (t.zone h.zone).counts = t.headCounts h.zone ∧ (t.zone h.zone).fault = t.zoneFault h.zone))
    ∧ (valueOk h.kind v = false → exec (.answerReceived l a lv v test) s
        = .next (finish s (putLoop s l { x with frameErrors := min 65535 (x.frameErrors + 1) }))))
  ∧ (∀ (s : State) (l : LoopId) (a : HeadAddr) (lv : FrameLevel) (v : Int) (test : Bool), s.inReset = false →
    let x := s.loop l
    let n := min 65535 (x.frameErrors + 1)
    let quiet : Loop := { x with state := .idle, gap := some 5, sending := none, polled := none, answer := none, orphan := false }
    let expected : Prop := x.state = .polling ∧ x.answer.isSome = true ∧ x.polled = some a
    let moved (c : Instr) (y : Loop) : Prop := exec c s = .next (finish s (putLoop s l y))
    (∀ c, (c = .answerReceived l a lv v test ∨ c = .answerWindowExpiry l) → expected → (x.orphan = true ∨ x.heads[a] = none) →
        moved c { quiet with cursor := if x.orphan = true then x.cursor else x.nextAfter a })
    ∧ (¬expected → (x.state = .idle ∨ x.state = .polling) → moved (.answerReceived l a lv v test) { x with frameErrors := n })
    ∧ (¬expected → x.state = .receiving → moved (.answerReceived l a lv v test) { quiet with frameErrors := n, ack := some false })
    ∧ (¬expected → x.state = .short → moved (.answerReceived l a lv v test) x))
  ∧ (∀ v : Int,
    (valueOk .heat v = true ↔ -32768 ≤ v ∧ v ≤ 32767) ∧ (valueOk .gas v = true ↔ 0 ≤ v ∧ v ≤ 65535)
    ∧ (valueOk .spark v = true ↔ 0 ≤ v ∧ v ≤ 255) ∧ (valueOk .flame v = true ↔ 0 ≤ v ∧ v ≤ 255))

/-- A REPORT with its acknowledge slot complete: the entry of an enrolled head, a changed level of one not isolated with the counts and
the fault attribute of its zone, with its sparks to the zone; the stranger flag, address and count otherwise. A REPORT whose value is out
of its kind's range is counted as a frame error and ends with a gap (log 24). A frame that is not taken is counted, and ends a reception
with a gap; SHORT counts none. That a good ANSWER in IDLE is counted as a frame error is DEDUCED, log 22. A report of sparks adds to the
spark counter, starts a window of the zone's length where none runs, one that runs going on, and starts a quench pulse of full length,
counted, where quench is enabled. That the REPORT of a stranger is taken whatever its value is DEDUCED, log 24. The acknowledge slot is
driven dominant for the REPORT of an enrolled head that is taken, and left recessive for a stranger's and for a frame that fails its
check or is not taken; where State shows the level is DESIGN CHOICE, log 68. -/
def Obligations.ReportTaken : Prop :=
  (∀ (s : State) (l : LoopId) (a : HeadAddr) (lv : FrameLevel) (v : Int) (test : Bool), s.inReset = false →
     let x := s.loop l
     let quenchKept (z : ZoneId) (t : State) : Prop :=
       (t.zone z).quench = (s.zone z).quench ∧ (t.zone z).quenchTimer = (s.zone z).quenchTimer
       ∧ (t.zone z).quenchCount = (s.zone z).quenchCount
     x.state = .receiving →
     (∀ h, x.heads[a] = some h → valueOk h.kind v = true →
       ∃ t, exec (.reportReceived l a lv v test) s = .next (finish s t)
         ∧ t.head l a = some (if test && x.testing then { h with tested := true, missed := 0 }
             else { h with level := frameLevel lv, value := v, missed := 0 })
         ∧ (∀ b, b ≠ a → t.head l b = s.head l b) ∧ OtherLoop l s t
         ∧ t.loop l = { x with
             state := .idle, gap := some 5, sending := none, polled := none, answer := none, orphan := false, ack := some true
             heads := (t.loop l).heads }
         ∧ (h.level ≠ frameLevel lv → h.isolated = false → (test && x.testing) = false →
             (t.zone h.zone).counts = t.headCounts h.zone ∧ (t.zone h.zone).fault = t.zoneFault h.zone)
         ∧ ((h.level = frameLevel lv ∨ h.isolated = true ∨ (test && x.testing) = true) →
             ∀ w, (t.zone w).counts = (s.zone w).counts ∧ (t.zone w).fault = (s.zone w).fault)
         ∧ (h.kind = .spark → 1 ≤ v → h.isolated = false → (test && x.testing) = false →
             (t.zone h.zone).sparks = min 65535 ((s.zone h.zone).sparks + v.toNat)
             ∧ (t.zone h.zone).lastSpark = some (l, a)
             ∧ (t.zone h.zone).window = some ((s.zone h.zone).window.getD (s.zone h.zone).settings.window)
             ∧ ((s.zone h.zone).settings.quenchEnable = true →
                 (t.zone h.zone).quench = true ∧ (t.zone h.zone).quenchTimer = some (s.zone h.zone).settings.quenchPulse
                 ∧ (t.zone h.zone).quenchCount = min 65535 ((s.zone h.zone).quenchCount + 1))
             ∧ ((s.zone h.zone).settings.quenchEnable = false → quenchKept h.zone t))
         ∧ ((h.kind ≠ .spark ∨ v < 1 ∨ h.isolated = true ∨ (test && x.testing) = true) →
             (t.zone h.zone).sparks = (s.zone h.zone).sparks ∧ (t.zone h.zone).lastSpark = (s.zone h.zone).lastSpark
             ∧ (t.zone h.zone).window = (s.zone h.zone).window ∧ quenchKept h.zone t))
     ∧ (∀ h, x.heads[a] = some h → valueOk h.kind v = false →
       exec (.reportReceived l a lv v test) s = .next (finish s (putLoop s l { x with
         frameErrors := min 65535 (x.frameErrors + 1), state := .idle, gap := some 5, sending := none, polled := none, answer := none
         orphan := false, ack := some false })))
     ∧ (x.heads[a] = none →
       ∃ t, exec (.reportReceived l a lv v test) s = .next (finish s t)
         ∧ t.loop l = { x with
             state := .idle, gap := some 5, sending := none, polled := none, answer := none, orphan := false, ack := some false
             stranger := true, lastStranger := some a, strangerCount := min 65535 (x.strangerCount + 1) }
         ∧ OtherLoop l s t
         ∧ t = { s with loopA := t.loopA, loopB := t.loopB, link := t.link }))
  ∧ (∀ (s : State) (l : LoopId) (a : HeadAddr) (c : Instr), s.inReset = false → (c = .loopFrameError l ∨ c = .goodAnswerNotTaken l a) →
       let x := s.loop l
       let n := min 65535 (x.frameErrors + 1)
       (x.state = .idle ∨ x.state = .polling → exec c s = .next (finish s (putLoop s l { x with frameErrors := n })))
       ∧ (x.state = .receiving → exec c s = .next (finish s (putLoop s l { x with
           frameErrors := n, state := .idle, gap := some 5, sending := none, polled := none, answer := none, orphan := false
           ack := some false })))
       ∧ (x.state = .short → exec c s = .next (finish s (putLoop s l x))))

/-- A short makes every enrolled head of the loop MISSING with three missed polls, closes its test window, keeps the broadcasts that
wait, one cut short in mid-frame among them (DEDUCED, log 64), and reaches the zones that have heads on it; its end puts RESYNC alone in
the queue, sent at once (once only, DEDUCED, log 48), and the LOOP_TESTs that waited are answered, WRONG_STATE for TEST_START and OK with
the window closed for TEST_END. -/
def Obligations.LoopShorts : Prop :=
  ∀ (s : State) (l : LoopId), s.inReset = false →
    let x := s.loop l
    (x.state ≠ .short →
      ∃ t, exec (.loopShort l) s = .next (finish s t)
        ∧ t.loop l = { x with
            state := .short, testing := false, testTimer := none, gap := none, answer := none, sending := none, polled := none
            orphan := false, heads := (t.loop l).heads }
        ∧ (∀ a : HeadAddr, (t.loop l).heads[a] = (x.heads[a]).map (fun h => { h with level := .missing, missed := 3 }))
        ∧ (∀ (a : HeadAddr) (h : Head), x.heads[a] = some h → (t.zone h.zone).counts = t.headCounts h.zone ∧ (t.zone h.zone).fault = t.zoneFault h.zone)
        ∧ OtherLoop l s t)
    ∧ (x.state = .short →
      ∃ t, exec (.loopRecessive l) s = .next (finish s t)
        ∧ t.loop l = { x with state := .idle, waiting := [.resync], sending := some (.broadcast .resync), gap := none }
        ∧ t.link.queue = s.link.queue.map (fun e =>
            if e.stage = .waiting (.broadcast l true) then { e with stage := .formed ⟨.wrongState, .none⟩ }
            else if e.stage = .waiting (.broadcast l false) then { e with stage := .formed ⟨.ok, .window false⟩ } else e)
        ∧ (∀ (a : HeadAddr) (h : Head), x.heads[a] = some h → (t.zone h.zone).fault = t.zoneFault h.zone)
        ∧ OtherLoop l s t)

/-! ### Zone timers -/

/-- The PRE clear timer ends PRE_ALARM; the spark window's end counts a window with sparks and starts the next, or ends the run; the
release timer's end releases the zone; the quench timer's end turns the output off. -/
def Obligations.ZoneTimers : Prop :=
  ∀ (s : State) (z : ZoneId), s.inReset = false →
    let x := s.zone z
    (x.main = .preAlarm → x.preClear.isSome = true → x.alarmHolds = false → x.preHolds = false →
      ∃ t, exec (.preClearTimerExpiry z) s = .next (finish s t)
        ∧ t.zone z = { x with main := .normal, preClear := none } ∧ OtherZones z s t ∧ t.effect = effectOf t
        ∧ t.incident = s.incident ∧ t.nv = s.nv ∧ t.writer = s.writer)
    ∧ (x.window.isSome = true → x.sparks = 0 →
      exec (.windowTimerExpiry z) s = .next (finish s
        (evaluateZone (putZone s z { x with consecutive := 0, window := none }) z (.window 0) false)))
    ∧ (x.window.isSome = true → 0 < x.sparks →
      exec (.windowTimerExpiry z) s = .next (finish s
        (evaluateZone (putZone s z { x with
          consecutive := min 255 (x.consecutive + 1), sparks := 0, window := some x.settings.window }) z (.window x.sparks) false)))
    ∧ (∀ r, x.release = .running r →
      ∃ t, exec (.releaseTimerExpiry z) s = .next (finish s t)
        ∧ t.zone z = { x with
            main := .released, suppression := true, release := .idle, releaseCount := min 65535 (x.releaseCount + 1) }
        ∧ OtherZones z s t ∧ t.effect = effectOf t
        ∧ t.incident = { s.incident with
            progress := s.incident.progress.map (fun p => { p with releases := min 65535 (p.releases + 1) }) }
        ∧ t.nv = s.nv ∧ t.writer = s.writer)
    ∧ (x.quenchTimer.isSome = true →
      exec (.quenchTimerExpiry z) s = .next (finish s (putZone s z { x with quench := false, quenchTimer := none })))

/-! ### Atmosphere events -/

/-- An oxygen sample: a VALID record of at most 2,500 is a valid sample, every other an invalid one, and a miss is an invalid one; the
channel, the control value, the flags and the state follow (a channel's two runs, its validity, its last valid value, the used value
measured or held, the block of 2^M used values at the length it started with, its truncated average, and whether the event completed it),
and the valve, the permission and the block reasons after them. The control value is formed where the event completes a block or makes
the channel usable or not: the higher of the two averages, DISAGREE where they lie further apart than the limit, one average alone with
DEGRADED, none with SENSOR_FAIL; the peak follows it in INERT and DRIFT. A control value as the state in force takes it, and SENSOR_FAIL.
That an average completed by an INVALID channel outlasts an invalid sample is DEDUCED, log 69. -/
def Obligations.OxygenTaken : Prop :=
  (∀ (s : State) (k : OxyChan) (v : Nat) (m : OxyMark), s.inReset = false →
     let n := s.atm.settings.exponent
     let c (ms : Nat) : Channel := { s.atm.chan k with missTimer := ms }
     let took (e : Instr) (r : Channel × Bool) : Prop :=
       ∃ t, exec e s = .next (finish s t)
         ∧ t.atm = { s.atm.after k r s.clock with
             valve := valveFor (s.atm.after k r s.clock).state s.doorClosed s.effect.inertBoost }
         ∧ t.interlock.permission = t.runConditions.met ∧ t.feeder.reasons = t.blockReasons ∧ LinkKept s t
         ∧ t = { s with
             packs := t.packs, held := t.held, atm := t.atm, interlock := t.interlock, feeder := t.feeder, link := t.link }
     (m = .valid → v ≤ 2500 → took (.oxygenSampleArrival k v m) ((c 375).good n v))
     ∧ (m = .invalid ∨ 2500 < v → took (.oxygenSampleArrival k v m) ((c 375).bad n))
     ∧ took (.oxygenSampleMiss k) ((c 250).bad n)
     ∧ ((c 375).good n v).1.last = some v ∧ ((c 375).good n v).1.invalidRun = 0
     ∧ ((c 375).good n v).1.validRun = min 255 ((s.atm.chan k).validRun + 1)
     ∧ ((s.atm.chan k).invalidRun = 3 → (s.atm.chan k).valid = true →
         ((c 375).bad n).1.valid = false ∧ ((c 375).bad n).1.average = none ∧ ((c 375).bad n).1.block = none)
     ∧ ((s.atm.chan k).validRun = 3 → ((c 375).good n v).1.valid = true))
  ∧ (∀ (c : Channel) (n v : Nat),
       let k := c.block.getD ⟨2 ^ n, 0, 0⟩
       let ends := decide (k.length ≤ k.count + 1)
       let block : Option OxyBlock := if ends then none else some ⟨k.length, k.count + 1, k.sum + v⟩
       let average : Option Nat := if ends then some ((k.sum + v) / k.length) else c.average
       let lost : Channel := { c with validRun := 0, invalidRun := min 255 (c.invalidRun + 1) }
       c.good n v = ({ c with
           valid := c.valid || decide (c.validRun = 3), last := some v, invalidRun := 0, validRun := min 255 (c.validRun + 1)
           block := block, average := average }, ends)
       ∧ (c.valid = true → c.invalidRun ≠ 3 → c.last = some v → c.bad n = ({ lost with block := block, average := average }, ends))
       ∧ (c.valid = true → c.invalidRun = 3 → c.bad n = ({ lost with valid := false, block := none, average := none }, false))
       ∧ (c.valid = false → c.bad n = ({ lost with block := none }, false)))
  ∧ (∀ (x : Atmosphere) (k : OxyChan) (r : Channel × Bool) (t : Stamp),
       let y : Atmosphere := match k with
         | .a => { x with chanA := r.1 }
         | .b => { x with chanB := r.1 }
       let due : Prop := r.2 = true ∨ ((x.chan k).usable.isSome ≠ r.1.usable.isSome)
       (due → x.after k r t = y.form t) ∧ (¬due → x.after k r t = y)
       ∧ r.1.usable = (if r.1.valid then r.1.average else none))
  ∧ (∀ (x : Atmosphere) (t : Stamp) (a b : Nat),
       let formed (v : Nat) (disagree degraded : Bool) : Atmosphere :=
         ({ x with control := some v, disagree := disagree, degraded := degraded, sensorFail := false }.raisePeak v t).takes v
       (x.chanA.usable = some a → x.chanB.usable = some b →
         x.form t = formed (max a b) (decide (x.settings.disagree < max a b - min a b)) false)
       ∧ (x.chanA.usable = some a → x.chanB.usable = none → x.form t = formed a false true)
       ∧ (x.chanA.usable = none → x.chanB.usable = some b → x.form t = formed b false true)
       ∧ (x.chanA.usable = none → x.chanB.usable = none →
         x.form t = { x with control := none, disagree := false, degraded := false, sensorFail := true }.takesFail)
       ∧ ((x.state = .inert ∨ x.state = .drift) → (∀ p, x.peak = some p → p.value < a) →
           x.raisePeak a t = { x with peak := some ⟨a, t⟩ })
       ∧ ((x.state ≠ .inert ∧ x.state ≠ .drift) ∨ (∃ p, x.peak = some p ∧ a ≤ p.value) → x.raisePeak a t = x))
  ∧ (∀ (x : Atmosphere) (v : Nat),
       let inert : Atmosphere := { x with
         state := .inert, settled := false, maxPurge := none, settle := some (1000 * x.settings.settle) }
       (x.state = .air ∨ x.state = .fault → x.takes v = x ∧ x.takesFail = x)
       ∧ (x.state = .purging ∨ x.state = .breach → x.takes v = if v ≤ x.settings.permit then inert else x)
       ∧ (x.state = .inert → v ≤ x.settings.permit → x.takes v = x)
       ∧ (x.state = .inert → x.settings.permit < v → v ≤ x.settings.breach →
           (x.takes v).settled = false ∧ (x.takes v).settle = none ∧ (x.takes v).state = .drift)
       ∧ (x.state = .inert → x.settings.permit < v → x.settings.breach < v →
           x.takes v = { x with state := .breach, settled := false, settle := none, maxPurge := some (1000 * x.settings.maxPurge) })
       ∧ (x.state = .drift → x.settings.breach < v → x.takes v = { x with state := .breach, maxPurge := some (1000 * x.settings.maxPurge) })
       ∧ (x.state = .drift → v ≤ x.settings.breach → v ≤ x.settings.permit - x.settings.hysteresis → x.takes v = inert)
       ∧ (x.state = .drift → v ≤ x.settings.breach → x.settings.permit - x.settings.hysteresis < v → x.takes v = x)
       ∧ (x.state ≠ .air → x.state ≠ .fault → x.takesFail = { x with
           state := .fault, settled := false, cause := some .sensorFail, maxPurge := none, settle := none }))

/-- The chamber's timers: settled at the end of the settle timer, FAULT at the end of the max purge timer; and the gas accumulator takes
the flow of the valve command in force. -/
def Obligations.ChamberTimers : Prop :=
  ∀ s : State, s.inReset = false →
    let x := s.atm
    let took (e : Instr) (y : Atmosphere) : Prop :=
      ∃ t, exec e s = .next (finish s t)
        ∧ t.atm = { y with valve := valveFor y.state s.doorClosed s.effect.inertBoost }
        ∧ t.interlock.permission = t.runConditions.met ∧ t.feeder.reasons = t.blockReasons ∧ LinkKept s t
        ∧ t = { s with
            packs := t.packs, held := t.held, atm := t.atm, interlock := t.interlock, feeder := t.feeder, link := t.link }
    (x.settle.isSome = true → took .settleTimerExpiry { x with settle := none, settled := true })
    ∧ (x.maxPurge.isSome = true → took .maxPurgeTimerExpiry { x with
        state := .fault, settled := false, cause := some .purgeTimeout, maxPurge := none, settle := none })
    ∧ (x.valve = .purge → exec .gasCounterSecond s = .next { s with atm := { x with
        gas := min 4294967295 (x.gas + x.settings.purgeFlow), openMs := x.openMs - 1000 } })
    ∧ (x.valve = .trim → exec .gasCounterSecond s = .next { s with atm := { x with
        gas := min 4294967295 (x.gas + x.settings.trimFlow), openMs := x.openMs - 1000 } })
    ∧ (x.valve = .closed → exec .gasCounterSecond s = .next s)

/-! ### Inputs, supply, resets -/

/-- A raw input change starts the 20 ms afresh, or ends them where it reverts, in reset too (DEDUCED, log 30); an input that has held its
level is conditioned; one that is conditioned at the level taken before, at its safe value the first time, hands nothing on and makes no
class pending (DEDUCED, log 25), but an active E-stop and an open door are causes of SAFE_HOLD even then. A changed level makes LINE
pending where subscribed and goes to its receivers: SAFE_HOLD with its cause, kept where the line is in SAFE_HOLD already, and with it
LINE at the bays, run permission with the shredder's stop and the feeder's reasons, for an E-stop and for an open door, the door at the
chamber too, COOLING at every bay, and a pass at the feeder: the end of a feed or of a jam, a stray pass at an idle feeder. A bay that
waits for a held event changes its set alone (DEDUCED, log 14). -/
def Obligations.InputsConditioned : Prop :=
  ∀ (s : State) (i : InputId) (v : Bool),
    let x := s.line.inputs.get i
    let put (y : Input) : State := { s with line := { s.line with inputs := s.line.inputs.put i y } }
    (x.raw = v → exec (.rawInputChange i v) s = .next s)
    ∧ (x.raw ≠ v → x.cond = some v → exec (.rawInputChange i v) s = .next (put { x with raw := v, debounce := none }))
    ∧ (x.raw ≠ v → x.cond ≠ some v → exec (.rawInputChange i v) s = .next (put { x with raw := v, debounce := some 20 }))
    ∧ (s.inReset = false → x.debounce.isSome = true → s.level i = x.raw → i ≠ .estop → i ≠ .doorClosed →
      exec (.inputConditioned i) s = .next (finish s (put { x with cond := some x.raw, debounce := none })))
    ∧ (s.inReset = false → x.debounce.isSome = true →
      ∃ t, exec (.inputConditioned i) s = .next (finish s t) ∧ t.level i = x.raw
        ∧ (s.level i ≠ x.raw → s.link.subscribed.getLsbD 5 = true → t.link.noticePending.getLsbD 5 = true)
        ∧ (i = .estop → x.raw = true → t.line.mode = .safeHold)
        ∧ (i = .doorClosed → x.raw = false → s.line.mode ≠ .maintenance → t.line.mode = .safeHold)
        ∧ (∀ h, (i = .estop ∧ x.raw = true ∧ h = .estop) ∨ (i = .doorClosed ∧ x.raw = false ∧ s.line.mode ≠ .maintenance ∧ h = .door) →
            (s.line.mode = .safeHold → t.line.cause = s.line.cause)
            ∧ (s.line.mode ≠ .safeHold →
                t.line.cause = some h ∧ BaysFollow s t ∧ RunFollows s t ∧ t.feeder.reasons = t.blockReasons))
        ∧ (i = .estop ∨ i = .doorClosed → s.level i ≠ x.raw → RunFollows s t)
        ∧ (i = .doorClosed → s.level i ≠ x.raw → t.feeder.reasons = t.blockReasons)
        ∧ (i = .doorClosed → s.level i ≠ x.raw → x.raw = false →
            ((s.atm.state = .air ∨ s.atm.state = .fault) → t.atm = { s.atm with valve := .closed })
            ∧ (s.atm.state ≠ .air → s.atm.state ≠ .fault →
                t.atm = { s.atm with state := .air, settled := false, maxPurge := none, settle := none, valve := .closed }))
        ∧ (i = .doorClosed → s.level i ≠ x.raw → x.raw = true →
            t.atm = { s.atm with valve := valveFor s.atm.state true s.effect.inertBoost })
        ∧ (i = .coolingOk → s.level i ≠ x.raw → BaysFollow s t)
        ∧ (i = .packPassed → x.raw = true → s.level i = false → (s.feeder.state = .blocked ∨ s.feeder.state = .ready) →
            t.feeder = { s.feeder with strays := min 65535 (s.feeder.strays + 1) })
        ∧ (∀ n p, i = .packPassed → x.raw = true → s.level i = false → (s.feeder.state = .feeding ∨ s.feeder.state = .jammed) →
            s.feeder.tag = some n → s.feederWaits = false → s.pack n = some p → p.state = .feeding → s.takesEvents 2 →
            let j := (put { x with cond := some true, debounce := none }).mark .line
            let k := putFeeder j { s.feeder with gate := false, feedTimer := none }
            t = reportEmpty j (endFeed (exitPack k p .fed (s.feeder.state = .jammed))))
        ∧ t.nv = s.nv ∧ t.clock = s.clock ∧ t.cells = s.cells ∧ t.classes = s.classes)

/-- The supply: below 16.0 V the power reset is taken; else below the warning level WARNING, with SAFE_HOLD and what it hands on (LINE at
the bays, run permission with the shredder's stop, the feeder's reasons) where the line is not in it already, a bay that waits for a held
event changing its set alone (DEDUCED, log 14), and the flush-done mark set where the buffer is empty; at the warning level plus 0.5 V or
above NORMAL, with the flush-done mark clear; its state kept between them. Either supply row carries any voltage, and each of them is
taken on both sides of every level (DESIGN CHOICE, log 6). -/
def Obligations.SupplyMonitored : Prop :=
  ∀ (s : State) (v : Nat) (c : Instr), (c = .supplyWarning v ∨ c = .supplyNormal v) →
    let w := 1900 + 50 * (s.feeder.settings.step - 1)
    (v < 1600 → exec c s = .next (holdReset { s with line := { s.line with supply := v } } .inPowerReset))
    ∧ (s.inReset = false → 1600 ≤ v → v < w → s.line.monitor = .normal →
      ∃ t, exec c s = .next (finish s t) ∧ t.line.monitor = .warning ∧ t.line.mode = .safeHold ∧ t.line.supply = v
        ∧ (s.line.mode ≠ .safeHold → t.line.cause = some .supply) ∧ (s.line.mode = .safeHold → t.line.cause = s.line.cause)
        ∧ (s.writer.buffer = [] → t.line.flushDone = true) ∧ (s.writer.buffer ≠ [] → t.line.flushDone = s.line.flushDone)
        ∧ (s.line.mode ≠ .safeHold → BaysFollow s t ∧ RunFollows s t ∧ t.feeder.reasons = t.blockReasons)
        ∧ (s.line.mode = .safeHold → t.bays = s.bays ∧ t.interlock = s.interlock ∧ t.feeder = s.feeder)
        ∧ LinkKept s t
        ∧ t = { s with
            bays := t.bays, line := { s.line with
              supply := v, monitor := .warning, mode := .safeHold, cause := t.line.cause, flushDone := t.line.flushDone }
            interlock := t.interlock, feeder := t.feeder, link := t.link })
    ∧ (s.inReset = false → w + 50 ≤ v → s.line.monitor = .warning →
      ∃ t, exec c s = .next (finish s t)
        ∧ t.line = { s.line with supply := v, monitor := .normal, flushDone := false }
        ∧ LinkKept s t ∧ t = { s with line := t.line, link := t.link })
    ∧ (s.inReset = false →
        (1600 ≤ v ∧ v < w ∧ s.line.monitor = .warning) ∨ (w ≤ v ∧ v < w + 50) ∨ (w + 50 ≤ v ∧ s.line.monitor = .normal) →
      exec c s = .next (finish s { s with line := { s.line with supply := v } }))

/-- The resets: a part held in a POWER or PIN reset keeps the NV array but for an operation cut short, with its packs, lots, staging
queue, record buffer and request queue empty and the run output, the gate, the valves, quench and suppression off; at 17.0 V and at the
pin's release it starts up from the array, its tables to be rebuilt by replay, the bays, zones, chamber, shredder, feeder and link as
after reset; the energy-gap marks stay for the rebuild (DEDUCED, log 40). What the scan gives: the settings and valid flag of every
section that passes its check and the defaults of every other, the heads enrolled at NORMAL, the export mark or the one below the oldest
record, the next sequence, the write pointer behind the newest record (segment 0 where the journal holds none, DESIGN CHOICE, log 7), the
erase-ahead, which the free array has started, the number of the most recent incident (of several candidates one, DESIGN CHOICE, log 28), and the tables that the records
above the mark give, replayed in sequence order. That a release below 17.0 V leaves the part held, that PIN_RESET is taken outside a
POWER reset alone, and that a supply row of 17.0 V or above releases it too, are DEDUCED, log 30; that the scan ends within the releasing
step is DESIGN CHOICE, log 4; what an operation cut short leaves, and a suspended erase, alone or with the operation that runs, is
DEDUCED, log 9. The first comparison of the supply: NORMAL at the warning level or above it; below it WARNING and SAFE_HOLD, and the
flush-done mark set, since the flush request arrives with the buffer empty (DEDUCED, log 67). The first notice of start-up is being sent:
JOURNAL, which fell due at the end of the scan, with no class pending beside it; or, below the warning level, LINE with JOURNAL pending,
since the notice is chosen at the end of the step (DEDUCED, log 71). That the array is free for the erase-ahead as the replay begins is
DEDUCED, log 4. -/
def Obligations.ResetsTaken : Prop :=
  (∀ (s : State) (v : Nat) (c : Instr),
    let held (t : State) (p : Phase) : Prop :=
      t.phase = p ∧ t.nv = s.cutNv ∧ t.packs = [] ∧ t.lots = [] ∧ t.queue = [] ∧ t.writer.buffer = [] ∧ t.link.queue = []
      ∧ t.interlock.runOutput = false ∧ t.feeder.gate = false ∧ t.atm.valve = .closed
      ∧ (∀ z, (t.zone z).quench = false ∧ (t.zone z).suppression = false) ∧ t.pending = s.pending ∧ t.gaps = s.gaps
    (∃ t, exec .powerReset s = .next t ∧ held t .inPowerReset)
    ∧ (s.phase ≠ .inPowerReset → ∃ t, exec .pinReset s = .next t ∧ held t .inPinReset)
    ∧ (s.phase = .inPowerReset → exec .pinReset s = .next s)
    ∧ (s.phase = .inPowerReset → v < 1700 →
      exec (.powerResetRelease v) s = .next { s with line := { s.line with supply := v } })
    ∧ (s.phase = .inPowerReset → 1700 ≤ v → (c = .powerResetRelease v ∨ c = .supplyWarning v ∨ c = .supplyNormal v) →
      exec c s = .next (startUp { s with line := { s.line with supply := v } }))
    ∧ (s.phase = .inPinReset → exec .pinResetRelease s = .next (startUp s))
    ∧ (startUp s).phase = .starting ∧ (startUp s).nv = s.cutNv ∧ (startUp s).packs = [] ∧ (startUp s).lots = [] ∧ (startUp s).held = []
    ∧ (startUp s).writer.buffer = [] ∧ (startUp s).link.queue = [] ∧ (startUp s).gaps = s.gaps
    ∧ (startUp s).link.subscribed = 0x7f#7 ∧ (startUp s).interlock.state = .stopped ∧ (startUp s).feeder.state = .blocked
    ∧ (startUp s).feeder.gate = false ∧ (startUp s).atm.state = .air ∧ (startUp s).incident.progress = none
    ∧ (∀ b, ((startUp s).bay b).state = .empty ∧ ((startUp s).bay b).command = 0 ∧ ((startUp s).bay b).residue = 0)
    ∧ (∀ z, ((startUp s).zone z).main = .normal ∧ ((startUp s).zone z).suppression = false))
  ∧ (∀ s : State,
       (s.writer.suspended = none → (s.writer.running = none ∨ ∃ o, s.writer.running = some (.read o)) → s.cutNv = s.nv)
       ∧ (s.writer.suspended = none → ∀ k, s.writer.running = some (.journalProgram k) →
           s.cutNv = { s.nv with journal := s.cutNv.journal }
           ∧ (∀ n, (∃ b ∈ s.writer.buffer.take k, b.slot = some n) → journalAt s.cutNv.journal n = some .failed)
           ∧ (∀ n, (∀ b ∈ s.writer.buffer.take k, b.slot ≠ some n) → journalAt s.cutNv.journal n = journalAt s.nv.journal n))
       ∧ (∀ g, (s.writer.suspended = some (.journal g) ∧ s.writer.running = none)
             ∨ (s.writer.suspended = none ∧ ∃ n u, s.writer.running = some (.erase (.journal g) n u)) →
           s.cutNv = { s.nv with journal := s.cutNv.journal }
           ∧ (∀ n, segOf n = g → journalAt s.cutNv.journal n = some .failed)
           ∧ (∀ n, segOf n ≠ g → journalAt s.cutNv.journal n = journalAt s.nv.journal n))
       ∧ (∀ i, (s.writer.suspended = some (.incident i) ∧ s.writer.running = none)
             ∨ (s.writer.suspended = none ∧ ∃ n u, s.writer.running = some (.erase (.incident i) n u)) →
           s.cutNv = { s.nv with incidents := vput s.nv.incidents (incidentSlotOf i) ⟨.failed, .failed⟩ })
       ∧ (s.writer.suspended = none → ∀ p l, s.writer.running = some .incidentProgram → s.writer.incidents = p :: l →
           let j := incidentSlotOf p.number.toNat
           let o := s.nv.incidents[j]
           let f : IncidentSlot := if p.isClosed then { o with closed := .failed } else { o with opened := .failed }
           s.cutNv = { s.nv with incidents := vput s.nv.incidents j f })
       ∧ (s.writer.suspended = none → ∀ c, (s.writer.running = some (.settingsErase c) ∨ ∃ d, s.writer.running = some (.settingsProgram c d)) →
           s.cutNv = { s.nv with sections := vput s.nv.sections (sectionIdx c) .failed })
       ∧ (let c := ({ s with writer := { s.writer with suspended := none } } : State).cutNv
          (∀ g, s.writer.suspended = some (.journal g) →
             s.cutNv = { c with journal := s.cutNv.journal }
             ∧ (∀ n, segOf n = g → journalAt s.cutNv.journal n = some .failed)
             ∧ (∀ n, segOf n ≠ g → journalAt s.cutNv.journal n = journalAt c.journal n))
          ∧ (∀ i, s.writer.suspended = some (.incident i) →
             s.cutNv = { c with incidents := vput c.incidents (incidentSlotOf i) ⟨.failed, .failed⟩ })))
  ∧ (∀ s : State,
       let u := startUp s
       let w := 1900 + 50 * (u.feeder.settings.step - 1)
       u.line.supply = s.line.supply
       ∧ (w ≤ s.line.supply → u.line.monitor = .normal ∧ u.line.flushDone = false
           ∧ u.link = { Link.initial with tx := some (.notice (noticeContent u .journal)) })
       ∧ (s.line.supply < w → u.line.monitor = .warning ∧ u.line.mode = .safeHold ∧ u.line.flushDone = true
           ∧ u.link = { Link.initial with tx := some (.notice (noticeContent u .line)), noticePending := noticeBit .journal }))
  ∧ (∀ s : State,
       let n := s.cutNv
       let u := startUp s
       let holds (c : Section) (d : SectionData) : Prop := n.sections[sectionIdx c] = .good d
       let fresh (e : Enrollment) : Head := ⟨e.kind, e.zone, false, .normal, 0, 0, false⟩
       (∀ c, u.writer.valid[sectionIdx c] = true ↔ ∃ d, holds c d)
       ∧ (∀ v, holds .cls (.cls v) → u.classes = v)
       ∧ ((∀ v, ¬holds .cls (.cls v)) → ∀ c : ClassId, u.classes[c] = none)
       ∧ (∀ v, holds .bay (.bay v) → ∀ b : BayId, (u.bay b).settings = v[b])
       ∧ ((∀ v, ¬holds .bay (.bay v)) → ∀ b, (u.bay b).settings = none)
       ∧ (∀ v, holds .budget (.budget v) → u.budget = v)
       ∧ ((∀ v, ¬holds .budget (.budget v)) → u.budget = ⟨24000, 3⟩)
       ∧ (∀ v, holds .zone (.zone v) → ∀ z : ZoneId, (u.zone z).settings = v[z])
       ∧ ((∀ v, ¬holds .zone (.zone v)) → ∀ z, (u.zone z).settings = ⟨true, 30, 60, 1000, 2, 8, 3, true, 500, .none⟩)
       ∧ (∀ v, holds .action (.action v) → u.cells = v)
       ∧ ((∀ v, ¬holds .action (.action v)) → ∀ z : ZoneId, u.cells[z] =
           ⟨⟨⟨false, true, false, false, false⟩, 50⟩, ⟨⟨true, true, true, true, false⟩, 0⟩, ⟨⟨true, true, true, true, true⟩, 0⟩,
             ⟨⟨false, false, false, false, false⟩, 100⟩⟩)
       ∧ (∀ p q, holds .head (.head p q) → ∀ a : HeadAddr, u.head .a a = (p[a]).map fresh ∧ u.head .b a = (q[a]).map fresh)
       ∧ ((∀ p q, ¬holds .head (.head p q)) → ∀ l a, u.head l a = none)
       ∧ (∀ v, holds .atmosphere (.atmosphere v) → u.atm.settings = v)
       ∧ ((∀ v, ¬holds .atmosphere (.atmosphere v)) → u.atm.settings = ⟨400, 50, 800, 30, 10, 900, 2, 150, 400, 40⟩)
       ∧ u.feeder.resettle = u.atm.settings.resettle
       ∧ (∀ v, holds .feed (.feed v) → u.feeder.settings = v)
       ∧ ((∀ v, ¬holds .feed (.feed v)) → u.feeder.settings = ⟨20, 4⟩)
       ∧ (∀ m, holds .exported (.exported m) → u.writer.mark = m)
       ∧ ((∀ m, ¬holds .exported (.exported m)) →
           ((∀ k r, (k, Slot.good r) ∉ n.journal) → u.writer.mark = 0)
           ∧ (∀ k r, (k, Slot.good r) ∈ n.journal → (∀ i q, (i, Slot.good q) ∈ n.journal → r.seq ≤ q.seq) → u.writer.mark = r.seq - 1)))
  ∧ (∀ s : State,
       let j := s.cutNv.journal
       let u := startUp s
       let w := u.writer
       ((∀ k r, (k, Slot.good r) ∉ j) →
         w.nextSeq = 1 ∧ w.current = 0 ∧ w.used ≤ 16 ∧ (∀ i, i < w.used → (journalAt j i).isSome = true)
         ∧ (w.used < 16 → journalAt j w.used = none))
       ∧ (∀ k r, (k, Slot.good r) ∈ j → (∀ i q, (i, Slot.good q) ∈ j → q.seq < r.seq ∨ (i = k ∧ q = r)) →
         w.nextSeq = r.seq + 1 ∧ w.current = segOf k ∧ k % 16 < w.used ∧ w.used ≤ 16
         ∧ (∀ i, k % 16 < i → i < w.used → (journalAt j (16 * segOf k + i)).isSome = true)
         ∧ (w.used < 16 → journalAt j (16 * segOf k + w.used) = none))
       ∧ w.aheads = [] ∧ w.suspended = none
       ∧ w.running = (if 0 < w.used ∧ u.reusable w.next = true ∧ segErased j w.next = false then some (.erase (.journal w.next) false false)
           else none)
       ∧ (∃ l : List Record, l.Perm ((journalRecords j).filter (fun r => w.mark < r.seq)) ∧ l.Pairwise (fun a b => a.seq ≤ b.seq)
           ∧ u.rebuilt = some (l.foldl replayRecord ⟨[], [], []⟩))
       ∧ (∀ r : Record, r ∈ journalRecords j ↔ ∃ k, (k, Slot.good r) ∈ j)
       ∧ (let slots := s.cutNv.incidents
          let last (o : OpenPart) : Prop := ∃ i : Fin 16, slots[i].opened = .good o
            ∧ ∀ p, slots[incidentSlotOf (i.val + 1)].opened = .good p → p.number ≠ o.number + 1#16
          ((∀ o, ¬last o) → u.incident = ⟨0#16, none⟩ ∧ w.lastIncident = none)
          ∧ ((∃ o, last o) → ∃ o, last o ∧ u.incident = ⟨o.number, none⟩ ∧ w.lastIncident = some o.number)))

/-- The end of the rebuild: the tables in place, packs in bays IN_BAY with the energy gap, a mark once set still set (DEDUCED, log 40),
their bays PLACED with RESTART, quarantined ones LOCKED; then a READY feeder looks for a feed, JOURNAL is pending where the sign of R159
has changed, and the requests that waited for the rebuild are taken in their turn. The replay of one record, kind by kind; a STAGED pack
comes back without a bay and an ADMIT of a tag in the table is a fresh entry (DEDUCED, log 29), and a CONFIRM record sets the energy-gap
mark (DEDUCED, log 40). -/
def Obligations.RebuildEnds : Prop :=
  (∀ (s : State) (r : Tables), s.phase = .starting → s.rebuilt = some r →
     ∃ v, exec .rebuildComplete s
           = .next (finish s (takeAll 4 ((tryFeed v).markIf (s.reserveLeft ≠ (tryFeed v).reserveLeft) .journal)))
       ∧ v.phase = .running ∧ v.rebuilt = none ∧ v.lots = r.lots ∧ v.queue = r.queue ∧ v.packs = r.packs.map (rebuiltPack s.gaps)
       ∧ (∀ p, (p.state = .inBay ∨ p.state = .released) → p.bay.isSome = true →
           rebuiltPack s.gaps p = { p with state := .inBay, gap := true })
       ∧ (∀ p, ¬((p.state = .inBay ∨ p.state = .released) ∧ p.bay.isSome = true) →
           rebuiltPack s.gaps p = { p with gap := p.gap || decide ((p.tag, p.firstRecord) ∈ s.gaps) })
       ∧ v.gaps = (v.packs.filter Pack.gap).map (fun p => (p.tag, p.firstRecord))
       ∧ (∀ b p, v.packs.find? (fun q => q.bay = some b) = some p → p.state = .inBay →
           v.bay b = { s.bay b with
             state := .placed, pack := some p.tag, holds := { (s.bay b).holds with restart := true } })
       ∧ (∀ b p, v.packs.find? (fun q => q.bay = some b) = some p → p.state = .quarantined →
           v.bay b = { s.bay b with state := .locked, pack := some p.tag })
       ∧ (∀ b, v.packs.find? (fun q => q.bay = some b) = none → v.bay b = s.bay b)
       ∧ v.writer = s.writer ∧ v.nv = s.nv ∧ v.line = s.line)
  ∧ (∀ (t : Tables) (r : Record),
       let u := replayRecord t r
       (r.kind = .lotOpen → u = { t with lots := t.lots ++ [⟨r.subject, .opened, 0, 0, 0, 0, 0, 0, 1, r.seq⟩] })
       ∧ (r.kind = .lotClose → u = { t with
           lots := t.lots.map (fun l => if l.number = r.subject then { l with state := .closing, written := 2 } else l) })
       ∧ (r.kind = .lotFinal → u = { t with lots := t.lots.filter (fun l => l.number ≠ r.subject) })
       ∧ (∀ c cells capacity mass ocv bypass st, r.kind = .admitted → r.detail = .admitted c cells capacity mass ocv bypass →
           r.after = .pack st → st ≠ .staged → st ≠ .feeding →
           let known : Prop := ∃ l ∈ t.lots, l.number = r.lot
           let counted (l : Lot) : Lot := if l.number = r.lot then { l with admitted := l.admitted + 1 } else l
           u.packs = t.packs.filter (fun p => p.tag ≠ r.subject) ++
             [{ tag := r.subject, lot := r.lot, cls := c, cells := cells, capacity := capacity, mass := mass, ocv := ocv, state := st
                bay := r.bay, energy := r.energy, gap := false, trips := r.trips, rebounds := r.rebounds, charge := r.charge
                firstRecord := r.seq, exposure := none, reason := none }]
           ∧ u.queue = t.queue
           ∧ (known → u.lots = t.lots.map counted)
           ∧ (¬known → u.lots = t.lots.map counted ++ [⟨r.lot, .closing, 1, 0, 0, 0, 0, 0, 2, r.seq⟩]))
       ∧ (let ofPack : Prop := r.kind ≠ .lotOpen ∧ r.kind ≠ .lotClose ∧ r.kind ≠ .lotFinal ∧ r.kind ≠ .admitted
          (ofPack → (∀ p ∈ t.packs, p.tag ≠ r.subject) → u = t)
          ∧ ∀ p st, ofPack → t.packs.find? (fun p => p.tag = r.subject) = some p → r.after = .pack st →
            let q : Pack := { p with
              state := if st = .feeding then .staged else st, bay := if st = .staged ∨ st = .feeding then none else r.bay
              energy := r.energy, trips := r.trips, rebounds := r.rebounds, charge := r.charge
              gap := p.gap || decide (r.kind = .confirm)
              exposure := match r.kind, r.detail with
                | .expose, .incident n => some ⟨n, false⟩
                | .exposeClear, .incident n => some ⟨n, true⟩
                | _, _ => p.exposure
              reason := match r.detail with
                | .quarantine w => some w
                | _ => p.reason }
            let put := t.packs.map (fun k => if k.tag = r.subject then q else k)
            let rest := t.queue.filter (· ≠ r.subject)
            let exits (l : Lot) : Lot := { l with energy := l.energy + r.energy }
            (r.kind = .stage → u = ⟨put, t.lots, rest ++ [r.subject]⟩)
            ∧ (r.kind = .quarantine → u = ⟨put, t.lots, rest⟩)
            ∧ (r.kind = .fed → u = ⟨t.packs.filter (fun k => k.tag ≠ r.subject), t.lots.map (fun l => if l.number = p.lot then
                { exits l with fed := l.fed + 1, massFed := min 4294967295 (l.massFed + p.mass) } else l), rest⟩)
            ∧ (r.kind = .removed → u = ⟨t.packs.filter (fun k => k.tag ≠ r.subject), t.lots.map (fun l => if l.number = p.lot then
                { exits l with removed := l.removed + 1, massRemoved := min 4294967295 (l.massRemoved + p.mass) } else l), rest⟩)
            ∧ (r.kind ≠ .stage → r.kind ≠ .quarantine → r.kind ≠ .fed → r.kind ≠ .removed → u = { t with packs := put })))

/-! ### The NV array -/

/-- A journal program's end: its records leave the buffer and read from their slots; an incident program's end: the part reads from its
slot, and after a close part the erase of the next slot waits; a settings erase leaves its section blank with its program waiting, a
settings program leaves it valid with its replies formed, an erase leaves its segment blank, an acknowledged suspension frees the array,
and a read forms its reply. An erase that could not be queued beside the one that ends is queued then, that of a segment which records
wait to be programmed in before that of the next (DEDUCED, log 16). An incident part handed to the Journal Writer joins the buffer; with
four held it takes the place of the oldest waiting close part or is dropped, and the close part of a dropped open part is dropped too
(DEDUCED, log 17). A read answers the first request that waits for it. -/
def Obligations.ArrayOperationsEnd : Prop :=
  (∀ s : State, s.inReset = false →
     (∀ n, s.writer.running = some (.journalProgram n) →
       ∃ t, exec .journalProgramDone s = .next (finish s t)
         ∧ t.writer = { s.writer with running := none, buffer := s.writer.buffer.drop n }
         ∧ t.nv = { s.nv with journal := programRecords (s.writer.buffer.take n) s.nv.journal }
         ∧ LinkKept s t ∧ t = { s with writer := t.writer, nv := t.nv, line := t.line, link := t.link }
         ∧ (s.line.monitor = .warning → s.writer.buffer.drop n = [] → t.line.flushDone = true))
     ∧ (∀ (j : List (Nat × Slot)) (r : Record) (n k : Nat),
         journalAt (programRecords [⟨r, some n⟩] j) n = some (.good r)
         ∧ (k ≠ n → journalAt (programRecords [⟨r, some n⟩] j) k = journalAt j k))
     ∧ (∀ p l, s.writer.running = some .incidentProgram → s.writer.incidents = p :: l →
       let i := incidentSlotOf p.number.toNat
       ∃ t, exec .incidentProgramDone s = .next (finish s t)
         ∧ t.nv = { s.nv with incidents := vput s.nv.incidents i (s.nv.incidents[i].hold p) }
         ∧ t.writer.incidents = l ∧ t.writer.running = none ∧ t.writer.lastIncident = some p.number
         ∧ t.writer.buffer = s.writer.buffer
         ∧ (p.isClosed = false → t.writer.aheads = s.writer.aheads)
           ∧ (p.isClosed = true →
               let e := EraseTarget.incident ((p.number.toNat + 1) % 16)
               e ∉ s.writer.aheads → s.writer.suspended ≠ some e →
               slotErased s.nv.incidents[incidentSlotOf (p.number.toNat + 1)] = false → t.writer.aheads = s.writer.aheads ++ [e])
         ∧ LinkKept s t ∧ t = { s with writer := t.writer, nv := t.nv, link := t.link }))
  ∧ (∀ s : State, s.inReset = false →
       (∀ c, s.writer.running = some (.settingsErase c) →
         exec .settingsEraseDone s = .next (finish s { s with
           writer := { s.writer with running := none, settingsOps := s.writer.settingsOps ++ [.program c] }
           nv := { s.nv with sections := vput s.nv.sections (sectionIdx c) .blank } }))
       ∧ (∀ c d, s.writer.running = some (.settingsProgram c d) →
         ∃ t, exec .settingsProgramDone s = .next (finish s t)
           ∧ t.writer = { s.writer with running := none, valid := vput s.writer.valid (sectionIdx c) true }
           ∧ t.nv = { s.nv with sections := vput s.nv.sections (sectionIdx c) (.good d) }
           ∧ (∀ m k r, (⟨m, k, .waiting (.rewrite c true r)⟩ : Entry) ∈ s.link.queue → (⟨m, k, .formed r⟩ : Entry) ∈ t.link.queue)
           ∧ t = { s with writer := t.writer, nv := t.nv, link := { s.link with queue := t.link.queue } })
       ∧ (∀ g n u, s.writer.running = some (.erase (.journal g) n u) →
         let j := s.nv.journal.filter (fun e => segOf e.1 ≠ g)
         exec .nvEraseDone s = .next (finish s (eraseEnded { s with
           writer := { s.writer with running := none }, nv := { s.nv with journal := j } }))
         ∧ segErased j g = true ∧ (∀ k, segOf k ≠ g → journalAt j k = journalAt s.nv.journal k))
       ∧ (∀ i n u, s.writer.running = some (.erase (.incident i) n u) →
         exec .nvEraseDone s = .next (finish s (eraseEnded { s with
           writer := { s.writer with running := none }
           nv := { s.nv with incidents := vput s.nv.incidents (incidentSlotOf i) ⟨.blank, .blank⟩ } })))
       ∧ (∀ g, s.writer.running = some (.erase g false true) →
         ∃ t, exec .eraseSuspendAck s = .next (finish s t)
           ∧ t.writer = { s.writer with running := none, suspended := some g }
           ∧ LinkKept s t ∧ t.link.queue = s.link.queue ∧ t = { s with writer := t.writer, link := t.link })
       ∧ (∀ o, s.writer.running = some (.read o) →
         exec .nvReadDone s = .next (finish s { s with
           writer := { s.writer with running := none }
           link := { s.link with queue := answerRead o (s.readReply o) s.link.queue } })))
  ∧ (∀ (s : State) (n k : Nat) (i : BitVec 16) (o : ReadOp) (r : Reply) (e : Entry) (a b : List Entry),
       s.readReply (.journal n k) = s.journalReply n k ∧ s.readReply (.incident i) = s.incidentReply i
       ∧ ((∀ c ∈ a, c.stage ≠ .waiting (.read o)) →
           answerRead o r a = a
           ∧ (e.stage = .waiting (.read o) → answerRead o r (a ++ e :: b) = a ++ { e with stage := .formed r } :: b)))
  ∧ (∀ s : State,
       let w := s.writer
       let due : Prop := (∃ g, EraseTarget.journal g ∈ w.aheads) ∨ (∃ g n u, w.running = some (.erase (.journal g) n u))
         ∨ ∃ g, w.suspended = some (.journal g)
       let queued (g : Nat) : State := { s with writer := { w with aheads := w.aheads ++ [.journal g] } }
       (due → eraseEnded s = s)
       ∧ (∀ g, ¬due → s.eraseOwed = some g → eraseEnded s = queued g)
       ∧ (¬due → s.eraseOwed = none → 0 < w.used → s.reusable w.next = true → segErased s.nv.journal w.next = false →
           eraseEnded s = queued w.next)
       ∧ (s.eraseOwed = none → (w.used = 0 ∨ s.reusable w.next = false ∨ segErased s.nv.journal w.next = true) → eraseEnded s = s)
       ∧ (s.eraseOwed = none ↔ ∀ b ∈ w.buffer, ∀ n, b.slot = some n → journalAt s.nv.journal n = none)
       ∧ (∀ g, s.eraseOwed = some g → ∃ b ∈ w.buffer, ∃ n, b.slot = some n ∧ segOf n = g ∧ (journalAt s.nv.journal n).isSome = true))
  ∧ (∀ (s : State) (p : IncidentPart),
       let w := s.writer
       let held (l : List IncidentPart) (d : Option (BitVec 16)) : State :=
         { s with writer := { w with incidents := l, droppedOpen := d } }
       let kept : Option (BitVec 16) := if p.isClosed then w.droppedOpen else none
       let n := if w.running = some .incidentProgram then 1 else 0
       let own : Prop := p.isClosed = true ∧ w.droppedOpen = some p.number
       (own → handPart s p = held w.incidents none)
       ∧ (¬own → w.incidents.length < 4 → handPart s p = held (w.incidents ++ [p]) kept)
       ∧ (∀ a c b, ¬own → 4 ≤ w.incidents.length → w.incidents.drop n = a ++ c :: b → (∀ q ∈ a, q.isClosed = false) → c.isClosed = true →
           handPart s p = held (w.incidents.take n ++ (a ++ b) ++ [p]) kept)
       ∧ (¬own → 4 ≤ w.incidents.length → (∀ q ∈ w.incidents.drop n, q.isClosed = false) →
           handPart s p = if p.isClosed then s else held w.incidents (some p.number)))
end

