-- ==== Sys2Proof/Laws/State.lean ====
section
/-! SUPPORT. What reading a part of the state gives after a part has been replaced: one lemma per part and per update. -/

namespace Sys2Proof.Machine

/-! ### Tables -/

@[simp] theorem vput_same {α : Type} {n : Nat} (v : Vector α n) (i : Fin n) (x : α) : (vput v i x)[i.val] = x := by
  simp [vput]

@[simp] theorem vput_other {α : Type} {n : Nat} (v : Vector α n) (i j : Fin n) (x : α) (h : j ≠ i) :
    (vput v i x)[j.val] = v[j.val] := by
  have : i.val ≠ j.val := fun e => h (Fin.ext e.symm)
  simp [vput, this]

/-! ### One bay, zone or loop replaced -/

@[simp] theorem bay_setBay (s : State) (b : BayId) (x : Bay) : (s.setBay b x).bay b = x := by
  simp [State.bay, State.setBay]
@[simp] theorem bay_setBay_other (s : State) (b c : BayId) (x : Bay) (h : c ≠ b) : (s.setBay b x).bay c = s.bay c := by
  simp [State.bay, State.setBay, h]
@[simp] theorem zone_setZone (s : State) (z : ZoneId) (x : Zone) : (s.setZone z x).zone z = x := by
  simp [State.zone, State.setZone]
@[simp] theorem zone_setZone_other (s : State) (z w : ZoneId) (x : Zone) (h : w ≠ z) : (s.setZone z x).zone w = s.zone w := by
  simp [State.zone, State.setZone, h]
@[simp] theorem loop_setLoop (s : State) (l : LoopId) (x : Loop) : (s.setLoop l x).loop l = x := by cases l <;> rfl

/-! ### Notices and change lists leave everything but the Link Port alone -/

@[simp] theorem mark_link (s : State) (c : NoticeClass) : (s.mark c).link = s.link.mark c := rfl
@[simp] theorem bay_mark (s : State) (c : NoticeClass) (b : BayId) : (s.mark c).bay b = s.bay b := rfl
@[simp] theorem zone_mark (s : State) (c : NoticeClass) (z : ZoneId) : (s.mark c).zone z = s.zone z := rfl
@[simp] theorem loop_mark (s : State) (c : NoticeClass) (l : LoopId) : (s.mark c).loop l = s.loop l := by cases l <;> rfl
@[simp] theorem pack_mark (s : State) (c : NoticeClass) (t : Tag) : (s.mark c).pack t = s.pack t := rfl
@[simp] theorem writer_mark (s : State) (c : NoticeClass) : (s.mark c).writer = s.writer := rfl
@[simp] theorem feeder_mark (s : State) (c : NoticeClass) : (s.mark c).feeder = s.feeder := rfl
@[simp] theorem bay_markIf (s : State) (d : Bool) (c : NoticeClass) (b : BayId) : (s.markIf d c).bay b = s.bay b := by
  unfold State.markIf; split <;> rfl
@[simp] theorem zone_markIf (s : State) (d : Bool) (c : NoticeClass) (z : ZoneId) : (s.markIf d c).zone z = s.zone z := by
  unfold State.markIf; split <;> rfl
@[simp] theorem loop_markIf (s : State) (d : Bool) (c : NoticeClass) (l : LoopId) : (s.markIf d c).loop l = s.loop l := by
  unfold State.markIf; split <;> simp
@[simp] theorem writer_markIf (s : State) (d : Bool) (c : NoticeClass) : (s.markIf d c).writer = s.writer := by
  unfold State.markIf; split <;> rfl
@[simp] theorem feeder_markIf (s : State) (d : Bool) (c : NoticeClass) : (s.markIf d c).feeder = s.feeder := by
  unfold State.markIf; split <;> rfl
@[simp] theorem packs_markIf (s : State) (d : Bool) (c : NoticeClass) : (s.markIf d c).packs = s.packs := by
  unfold State.markIf; split <;> rfl
@[simp] theorem bay_listBay (s : State) (b c : BayId) : (s.listBay b).bay c = s.bay c := rfl
@[simp] theorem bay_listPack (s : State) (t : Tag) (e : Option ExitKind) (b : BayId) : (s.listPack t e).bay b = s.bay b := rfl
@[simp] theorem pack_listPack (s : State) (t u : Tag) (e : Option ExitKind) : (s.listPack t e).pack u = s.pack u := rfl
@[simp] theorem writer_listPack (s : State) (t : Tag) (e : Option ExitKind) : (s.listPack t e).writer = s.writer := rfl
@[simp] theorem feeder_listPack (s : State) (t : Tag) (e : Option ExitKind) : (s.listPack t e).feeder = s.feeder := rfl

/-! ### A part replaced with its notices -/

@[simp] theorem bay_putBay (s : State) (b : BayId) (x : Bay) : (putBay s b x).bay b = x := by
  unfold putBay; simp only [bay_markIf]; split <;> simp
@[simp] theorem bay_putBay_other (s : State) (b c : BayId) (x : Bay) (h : c ≠ b) : (putBay s b x).bay c = s.bay c := by
  unfold putBay; simp only [bay_markIf]; split <;> simp [h]
@[simp] theorem zone_putZone (s : State) (z : ZoneId) (x : Zone) : (putZone s z x).zone z = x := by
  unfold putZone; simp
@[simp] theorem zone_putZone_other (s : State) (z w : ZoneId) (x : Zone) (h : w ≠ z) : (putZone s z x).zone w = s.zone w := by
  unfold putZone; simp [h]
@[simp] theorem loop_putLoop (s : State) (l : LoopId) (x : Loop) : (putLoop s l x).loop l = x := by
  unfold putLoop; simp
@[simp] theorem head_putHead (s : State) (l : LoopId) (a : HeadAddr) (h : Option Head) : (putHead s l a h).head l a = h := by
  unfold putHead State.head; simp
@[simp] theorem writer_putBay (s : State) (b : BayId) (x : Bay) : (putBay s b x).writer = s.writer := by
  unfold putBay; simp only [writer_markIf]; split <;> rfl
@[simp] theorem feeder_putBay (s : State) (b : BayId) (x : Bay) : (putBay s b x).feeder = s.feeder := by
  unfold putBay; simp only [feeder_markIf]; split <;> rfl
@[simp] theorem packs_putBay (s : State) (b : BayId) (x : Bay) : (putBay s b x).packs = s.packs := by
  unfold putBay; simp only [packs_markIf]; split <;> rfl

/-- A table of packs with the entry of `p`'s tag replaced, read at tag `t`. -/
theorem find_put (l : List Pack) (p : Pack) (t : Tag) :
    (l.map (fun q => if q.tag = p.tag then p else q)).find? (fun q => q.tag = t)
      = if t = p.tag then (l.find? (fun q => q.tag = t)).map (fun _ => p) else l.find? (fun q => q.tag = t) := by
  induction l with
  | nil => simp
  | cons q r ih =>
    rw [List.map_cons, List.find?_cons, List.find?_cons, ih]
    by_cases hq : q.tag = p.tag
    · by_cases ht : t = p.tag
      · simp [hq, ht]
      · have h₁ : ¬p.tag = t := fun e => ht e.symm
        simp [hq, ht, h₁]
    · by_cases ht : t = p.tag
      · subst ht; simp [hq]
      · simp only [hq, ht, if_false]

/-- A pack put in place of the entry of its tag is what the table then holds under that tag, where it held one. -/
theorem pack_setPack (s : State) (p : Pack) (h : (s.pack p.tag).isSome) : (s.setPack p).pack p.tag = some p := by
  have e := find_put s.packs p p.tag
  unfold State.pack State.setPack at *
  rw [e]
  obtain ⟨q, hq⟩ := Option.isSome_iff_exists.mp h
  simp [hq]

/-- A pack put in place leaves every other tag's entry as it was. -/
theorem pack_setPack_other (s : State) (p : Pack) (t : Tag) (h : t ≠ p.tag) : (s.setPack p).pack t = s.pack t := by
  have e := find_put s.packs p t
  unfold State.pack State.setPack at *
  rw [e, if_neg h]

end Sys2Proof.Machine
end

