-- ==== Sys2Proof/Laws/Frame.lean ====
section
/-! SUPPORT. What each shared operation leaves alone: `plant` and `core` for the bays, the custody tables and the feeder, `core` alone for the zones, the chamber, the shredder and the line mode. -/

set_option linter.unusedSimpArgs false
set_option linter.unreachableTactic false
set_option linter.unnecessarySeqFocus false
set_option linter.unusedTactic false

namespace Sys2Proof.Machine

/-- What no operation below a command's own touches: the NV array and what it has in hand, the link's frames and queue, the time, the
commands that wait, the settings, the loops, the inputs and the supply. -/
structure Core where
  pending : List Instr
  phase : Phase
  now : Nat
  clock : Stamp
  rebuilt : Option Tables
  gaps : List (Tag × Nat)
  classes : Vector (Option ClassSettings) 8
  budget : Budget
  loopA : Loop
  loopB : Loop
  cells : Vector ZoneCells 12
  nv : Nv
  inputs : Inputs
  supply : Nat
  monitor : Monitor
  running : Option NvOp
  suspended : Option EraseTarget
  reads : List ReadOp
  valid : Vector Bool 9
  exported : Nat
  lastIncident : Option (BitVec 16)
  rx : Receiver
  gap : Option Nat
  discards : Nat
  discardedRequests : Nat
  requests : List Entry
  tx : Option OutFrame
  subscribed : BitVec 7
  restart : Restart

/-- The core of a state. -/
def State.core (s : State) : Core where
  pending := s.pending
  phase := s.phase
  now := s.now
  clock := s.clock
  rebuilt := s.rebuilt
  gaps := s.gaps
  classes := s.classes
  budget := s.budget
  loopA := s.loopA
  loopB := s.loopB
  cells := s.cells
  nv := s.nv
  inputs := s.line.inputs
  supply := s.line.supply
  monitor := s.line.monitor
  running := s.writer.running
  suspended := s.writer.suspended
  reads := s.writer.reads
  valid := s.writer.valid
  exported := s.writer.mark
  lastIncident := s.writer.lastIncident
  rx := s.link.rx
  gap := s.link.gap
  discards := s.link.discards
  discardedRequests := s.link.discardedRequests
  requests := s.link.queue
  tx := s.link.tx
  subscribed := s.link.subscribed
  restart := s.link.restart

/-- What the zones, the chamber, the shredder and the line mode hold of their own. -/
structure Plant where
  zones : Vector Zone 12
  incident : Incident
  effect : EffectSet
  atm : Atmosphere
  interlock : Interlock
  mode : LineMode
  cause : Option HoldCause
  incidents : List IncidentPart
  droppedOpen : Option (BitVec 16)
  free : Nat

/-- The plant of a state. -/
def State.plant (s : State) : Plant where
  zones := s.zones
  incident := s.incident
  effect := s.effect
  atm := s.atm
  interlock := s.interlock
  mode := s.line.mode
  cause := s.line.cause
  incidents := s.writer.incidents
  droppedOpen := s.writer.droppedOpen
  free := s.free

theorem foldl_core {α : Type} (f : State → α → State) (h : ∀ s a, (f s a).core = s.core) (l : List α) (s : State) :
    (l.foldl f s).core = s.core := by
  induction l generalizing s with
  | nil => rfl
  | cons a t ih => rw [List.foldl_cons, ih, h]

theorem foldl_plant {α : Type} (f : State → α → State) (h : ∀ s a, (f s a).plant = s.plant) (l : List α) (s : State) :
    (l.foldl f s).plant = s.plant := by
  induction l generalizing s with
  | nil => rfl
  | cons a t ih => rw [List.foldl_cons, ih, h]

theorem eitherOrder_core (pick : Nat → Bool) (n : Nat) (a b : State) (c : Core) (ha : a.core = c) (hb : b.core = c) :
    (eitherOrder pick n a b).core = c := by
  unfold eitherOrder State.spendFree; (repeat' split) <;> assumption

/-! ### The line's own state and everything the bays, the custody tables and the feeder leave alone -/

@[simp] theorem setBay_core (s : State) (b : BayId) (x : Bay) : (State.setBay s b x).core = s.core := by
  unfold State.setBay
  try dsimp only
  (repeat' split) <;> (try simp [apply_ite State.core]) <;> (try rfl)

@[simp] theorem setBay_plant (s : State) (b : BayId) (x : Bay) : (State.setBay s b x).plant = s.plant := by
  unfold State.setBay
  try dsimp only
  (repeat' split) <;> (try simp [apply_ite State.plant]) <;> (try rfl)

@[simp] theorem mark_core (s : State) (c : NoticeClass) : (State.mark s c).core = s.core := by
  unfold State.mark
  try dsimp only
  (repeat' split) <;> (try simp [apply_ite State.core]) <;> (try rfl)

@[simp] theorem mark_plant (s : State) (c : NoticeClass) : (State.mark s c).plant = s.plant := by
  unfold State.mark
  try dsimp only
  (repeat' split) <;> (try simp [apply_ite State.plant]) <;> (try rfl)

@[simp] theorem markIf_core (s : State) (due : Bool) (c : NoticeClass) : (State.markIf s due c).core = s.core := by
  unfold State.markIf
  try dsimp only
  (repeat' split) <;> (try simp [apply_ite State.core]) <;> (try rfl)

@[simp] theorem markIf_plant (s : State) (due : Bool) (c : NoticeClass) : (State.markIf s due c).plant = s.plant := by
  unfold State.markIf
  try dsimp only
  (repeat' split) <;> (try simp [apply_ite State.plant]) <;> (try rfl)

@[simp] theorem listBay_core (s : State) (b : BayId) : (State.listBay s b).core = s.core := by
  unfold State.listBay
  try dsimp only
  (repeat' split) <;> (try simp [apply_ite State.core]) <;> (try rfl)

@[simp] theorem listBay_plant (s : State) (b : BayId) : (State.listBay s b).plant = s.plant := by
  unfold State.listBay
  try dsimp only
  (repeat' split) <;> (try simp [apply_ite State.plant]) <;> (try rfl)

@[simp] theorem listPack_core (s : State) (t : Tag) (exit : Option ExitKind) : (State.listPack s t exit).core = s.core := by
  unfold State.listPack Link.listPack
  (repeat' split) <;> rfl

@[simp] theorem listPack_plant (s : State) (t : Tag) (exit : Option ExitKind) : (State.listPack s t exit).plant = s.plant := by
  unfold State.listPack Link.listPack
  (repeat' split) <;> rfl

@[simp] theorem putBay_core (s : State) (b : BayId) (x : Bay) : (putBay s b x).core = s.core := by
  unfold putBay
  try dsimp only
  (repeat' split) <;> (try simp [apply_ite State.core]) <;> (try rfl)

@[simp] theorem putBay_plant (s : State) (b : BayId) (x : Bay) : (putBay s b x).plant = s.plant := by
  unfold putBay
  try dsimp only
  (repeat' split) <;> (try simp [apply_ite State.plant]) <;> (try rfl)

@[simp] theorem setPack_core (s : State) (p : Pack) : (State.setPack s p).core = s.core := by
  unfold State.setPack
  try dsimp only
  (repeat' split) <;> (try simp [apply_ite State.core]) <;> (try rfl)

@[simp] theorem setPack_plant (s : State) (p : Pack) : (State.setPack s p).plant = s.plant := by
  unfold State.setPack
  try dsimp only
  (repeat' split) <;> (try simp [apply_ite State.plant]) <;> (try rfl)

@[simp] theorem putPack_core (s : State) (p : Pack) : (putPack s p).core = s.core := by
  unfold putPack
  try dsimp only
  (repeat' split) <;> (try simp [apply_ite State.core]) <;> (try rfl)

@[simp] theorem putPack_plant (s : State) (p : Pack) : (putPack s p).plant = s.plant := by
  unfold putPack
  try dsimp only
  (repeat' split) <;> (try simp [apply_ite State.plant]) <;> (try rfl)

@[simp] theorem setLot_core (s : State) (l : Lot) : (State.setLot s l).core = s.core := by
  unfold State.setLot
  try dsimp only
  (repeat' split) <;> (try simp [apply_ite State.core]) <;> (try rfl)

@[simp] theorem setLot_plant (s : State) (l : Lot) : (State.setLot s l).plant = s.plant := by
  unfold State.setLot
  try dsimp only
  (repeat' split) <;> (try simp [apply_ite State.plant]) <;> (try rfl)

@[simp] theorem queueJournalErase_core (s : State) (seg : Nat) : (queueJournalErase s seg).core = s.core := by
  unfold queueJournalErase
  try dsimp only
  (repeat' split) <;> (try simp [apply_ite State.core]) <;> (try rfl)

@[simp] theorem queueJournalErase_plant (s : State) (seg : Nat) : (queueJournalErase s seg).plant = s.plant := by
  unfold queueJournalErase
  try dsimp only
  (repeat' split) <;> (try simp [apply_ite State.plant]) <;> (try rfl)

@[simp] theorem eraseAhead_core (s : State) : (eraseAhead s).core = s.core := by
  unfold eraseAhead
  try dsimp only
  (repeat' split) <;> (try simp [apply_ite State.core]) <;> (try rfl)

@[simp] theorem eraseAhead_plant (s : State) : (eraseAhead s).plant = s.plant := by
  unfold eraseAhead
  try dsimp only
  (repeat' split) <;> (try simp [apply_ite State.plant]) <;> (try rfl)

@[simp] theorem queueIncidentErase_core (s : State) (n : Nat) : (queueIncidentErase s n).core = s.core := by
  unfold queueIncidentErase
  try dsimp only
  (repeat' split) <;> (try simp [apply_ite State.core]) <;> (try rfl)

@[simp] theorem queueIncidentErase_plant (s : State) (n : Nat) : (queueIncidentErase s n).plant = s.plant := by
  unfold queueIncidentErase
  try dsimp only
  (repeat' split) <;> (try simp [apply_ite State.plant]) <;> (try rfl)

@[simp] theorem assignSlot_core (s : State) : (assignSlot s).1.core = s.core := by
  unfold assignSlot
  try dsimp only
  (repeat' split) <;> (try simp [apply_ite State.core]) <;> (try rfl)

@[simp] theorem assignSlot_plant (s : State) : (assignSlot s).1.plant = s.plant := by
  unfold assignSlot
  try dsimp only
  (repeat' split) <;> (try simp [apply_ite State.plant]) <;> (try rfl)

@[simp] theorem accept_core (s : State) (d : Draft) : (accept s d).core = s.core := by
  unfold accept
  dsimp only
  (repeat' split) <;> first | rfl | exact assignSlot_core s

@[simp] theorem accept_plant (s : State) (d : Draft) : (accept s d).plant = s.plant := by
  unfold accept
  dsimp only
  (repeat' split) <;> first | rfl | exact assignSlot_plant s

@[simp] theorem assignList_core (l : List Buffered) (s : State) : (assignList l s).2.core = s.core := by
  induction l generalizing s with
  | nil => rfl
  | cons b t ih =>
    unfold assignList
    have h := assignSlot_core s
    split
    · exact ih s
    · split <;> simp_all
@[simp] theorem assignWaiting_core (s : State) : (assignWaiting s).core = s.core := by
  exact assignList_core _ s

@[simp] theorem assignList_plant (l : List Buffered) (s : State) : (assignList l s).2.plant = s.plant := by
  induction l generalizing s with
  | nil => rfl
  | cons b t ih =>
    unfold assignList
    have h := assignSlot_plant s
    split
    · exact ih s
    · split <;> simp_all
@[simp] theorem assignWaiting_plant (s : State) : (assignWaiting s).plant = s.plant := by
  exact assignList_plant _ s

@[simp] theorem askRewrite_core (s : State) (sec : Section) : (askRewrite s sec).core = s.core := by
  unfold askRewrite
  try dsimp only
  (repeat' split) <;> (try simp [apply_ite State.core]) <;> (try rfl)

@[simp] theorem askRewrite_plant (s : State) (sec : Section) : (askRewrite s sec).plant = s.plant := by
  unfold askRewrite
  try dsimp only
  (repeat' split) <;> (try simp [apply_ite State.plant]) <;> (try rfl)

@[simp] theorem reportFlushed_core (s : State) : (reportFlushed s).core = s.core := by
  unfold reportFlushed
  try dsimp only
  (repeat' split) <;> (try simp [apply_ite State.core]) <;> (try rfl)

@[simp] theorem reportFlushed_plant (s : State) : (reportFlushed s).plant = s.plant := by
  unfold reportFlushed
  try dsimp only
  (repeat' split) <;> (try simp [apply_ite State.plant]) <;> (try rfl)

@[simp] theorem takeGrant_core (s : State) (g : BayId × Nat) : (takeGrant s g).core = s.core := by
  unfold takeGrant
  try dsimp only
  (repeat' split) <;> (try simp [apply_ite State.core]) <;> (try rfl)

@[simp] theorem takeGrant_plant (s : State) (g : BayId × Nat) : (takeGrant s g).plant = s.plant := by
  unfold takeGrant
  try dsimp only
  (repeat' split) <;> (try simp [apply_ite State.plant]) <;> (try rfl)

@[simp] theorem regrant_core (s : State) : (regrant s).core = s.core := by
  exact foldl_core _ (fun s g => takeGrant_core s g) _ s

@[simp] theorem regrant_plant (s : State) : (regrant s).plant = s.plant := by
  exact foldl_plant _ (fun s g => takeGrant_plant s g) _ s

@[simp] theorem reform_core (s : State) (b : BayId) : (reform s b).core = s.core := by
  unfold reform
  try dsimp only
  (repeat' split) <;> (try simp [apply_ite State.core]) <;> (try rfl)

@[simp] theorem reform_plant (s : State) (b : BayId) : (reform s b).plant = s.plant := by
  unfold reform
  try dsimp only
  (repeat' split) <;> (try simp [apply_ite State.plant]) <;> (try rfl)

@[simp] theorem putApart_core (s : State) (b : BayId) (x : Bay) : (putApart s b x).core = s.core := by
  unfold putApart
  try dsimp only
  (repeat' split) <;> (try simp [apply_ite State.core]) <;> (try rfl)

@[simp] theorem putApart_plant (s : State) (b : BayId) (x : Bay) : (putApart s b x).plant = s.plant := by
  unfold putApart
  try dsimp only
  (repeat' split) <;> (try simp [apply_ite State.plant]) <;> (try rfl)

@[simp] theorem enterDischarging_core (s : State) (b : BayId) : (enterDischarging s b).core = s.core := by
  unfold enterDischarging
  try dsimp only
  (repeat' split) <;> (try simp [apply_ite State.core]) <;> (try rfl)

@[simp] theorem enterDischarging_plant (s : State) (b : BayId) : (enterDischarging s b).plant = s.plant := by
  unfold enterDischarging
  try dsimp only
  (repeat' split) <;> (try simp [apply_ite State.plant]) <;> (try rfl)

@[simp] theorem renewRequest_core (s : State) (b : BayId) : (renewRequest s b).core = s.core := by
  unfold renewRequest
  try dsimp only
  (repeat' split) <;> (try simp [apply_ite State.core]) <;> (try rfl)

@[simp] theorem renewRequest_plant (s : State) (b : BayId) : (renewRequest s b).plant = s.plant := by
  unfold renewRequest
  try dsimp only
  (repeat' split) <;> (try simp [apply_ite State.plant]) <;> (try rfl)

@[simp] theorem lockBay_core (s : State) (b : BayId) : (lockBay s b).core = s.core := by
  unfold lockBay
  try dsimp only
  (repeat' split) <;> (try simp [apply_ite State.core]) <;> (try rfl)

@[simp] theorem lockBay_plant (s : State) (b : BayId) : (lockBay s b).plant = s.plant := by
  unfold lockBay
  try dsimp only
  (repeat' split) <;> (try simp [apply_ite State.plant]) <;> (try rfl)

@[simp] theorem enterApart_core (s : State) (b : BayId) (st : BayState) : (enterApart s b st).core = s.core := by
  unfold enterApart
  try dsimp only
  (repeat' split) <;> (try simp [apply_ite State.core]) <;> (try rfl)

@[simp] theorem enterApart_plant (s : State) (b : BayId) (st : BayState) : (enterApart s b st).plant = s.plant := by
  unfold enterApart
  try dsimp only
  (repeat' split) <;> (try simp [apply_ite State.plant]) <;> (try rfl)

@[simp] theorem holdOrDischarge_core (s : State) (b : BayId) : (holdOrDischarge s b).core = s.core := by
  unfold holdOrDischarge
  try dsimp only
  (repeat' split) <;> (try simp [apply_ite State.core]) <;> (try rfl)

@[simp] theorem holdOrDischarge_plant (s : State) (b : BayId) : (holdOrDischarge s b).plant = s.plant := by
  unfold holdOrDischarge
  try dsimp only
  (repeat' split) <;> (try simp [apply_ite State.plant]) <;> (try rfl)

@[simp] theorem setHolds_core (s : State) (b : BayId) (h : Holds) : (setHolds s b h).core = s.core := by
  unfold setHolds
  try dsimp only
  (repeat' split) <;> (try simp [apply_ite State.core]) <;> (try rfl)

@[simp] theorem setHolds_plant (s : State) (b : BayId) (h : Holds) : (setHolds s b h).plant = s.plant := by
  unfold setHolds
  try dsimp only
  (repeat' split) <;> (try simp [apply_ite State.plant]) <;> (try rfl)

@[simp] theorem syncHolds_core (s : State) : (syncHolds s).core = s.core := by
  exact foldl_core _ (fun s b => setHolds_core s b _) _ s

@[simp] theorem syncHolds_plant (s : State) : (syncHolds s).plant = s.plant := by
  exact foldl_plant _ (fun s b => setHolds_plant s b _) _ s

@[simp] theorem addEnergy_core (s : State) (b : BayId) (u : Sample) : (addEnergy s b u).core = s.core := by
  unfold addEnergy
  try dsimp only
  (repeat' split) <;> (try simp [apply_ite State.core]) <;> (try rfl)

@[simp] theorem addEnergy_plant (s : State) (b : BayId) (u : Sample) : (addEnergy s b u).plant = s.plant := by
  unfold addEnergy
  try dsimp only
  (repeat' split) <;> (try simp [apply_ite State.plant]) <;> (try rfl)

@[simp] theorem writePack_core (s : State) (p : Pack) (k : RecordKind) (bay : Option BayId) (d : Detail) : (writePack s p k bay d).core = s.core := by
  unfold writePack
  try dsimp only
  (repeat' split) <;> (try simp [apply_ite State.core]) <;> (try rfl)

@[simp] theorem writePack_plant (s : State) (p : Pack) (k : RecordKind) (bay : Option BayId) (d : Detail) : (writePack s p k bay d).plant = s.plant := by
  unfold writePack
  try dsimp only
  (repeat' split) <;> (try simp [apply_ite State.plant]) <;> (try rfl)

@[simp] theorem writeLot_core (s : State) (n : Tag) (k : RecordKind) (after : LotState) (d : Detail) : (writeLot s n k after d).core = s.core := by
  unfold writeLot
  try dsimp only
  (repeat' split) <;> (try simp [apply_ite State.core]) <;> (try rfl)

@[simp] theorem writeLot_plant (s : State) (n : Tag) (k : RecordKind) (after : LotState) (d : Detail) : (writeLot s n k after d).plant = s.plant := by
  unfold writeLot
  try dsimp only
  (repeat' split) <;> (try simp [apply_ite State.plant]) <;> (try rfl)

@[simp] theorem leaveQueue_core (s : State) (t : Tag) : (leaveQueue s t).core = s.core := by
  unfold leaveQueue
  try dsimp only
  (repeat' split) <;> (try simp [apply_ite State.core]) <;> (try rfl)

@[simp] theorem leaveQueue_plant (s : State) (t : Tag) : (leaveQueue s t).plant = s.plant := by
  unfold leaveQueue
  try dsimp only
  (repeat' split) <;> (try simp [apply_ite State.plant]) <;> (try rfl)

@[simp] theorem quarantinePack_core (s : State) (p : Pack) (reason : QuarReason) : (quarantinePack s p reason).core = s.core := by
  unfold quarantinePack
  try dsimp only
  (repeat' split) <;> (try simp [apply_ite State.core]) <;> (try rfl)

@[simp] theorem quarantinePack_plant (s : State) (p : Pack) (reason : QuarReason) : (quarantinePack s p reason).plant = s.plant := by
  unfold quarantinePack
  try dsimp only
  (repeat' split) <;> (try simp [apply_ite State.plant]) <;> (try rfl)

@[simp] theorem otherRecord_core (s : State) (p q : Pack) (k : RecordKind) (bay : Option BayId) (d : Detail) : (otherRecord s p q k bay d).1.core = s.core := by
  unfold otherRecord
  try dsimp only
  (repeat' split) <;> (try simp [apply_ite State.core]) <;> (try rfl)

@[simp] theorem otherRecord_plant (s : State) (p q : Pack) (k : RecordKind) (bay : Option BayId) (d : Detail) : (otherRecord s p q k bay d).1.plant = s.plant := by
  unfold otherRecord
  try dsimp only
  (repeat' split) <;> (try simp [apply_ite State.plant]) <;> (try rfl)

@[simp] theorem finalizeLot_core (s : State) (n : Tag) : (finalizeLot s n).core = s.core := by
  unfold finalizeLot
  split
  · dsimp only
    split
    · exact writeLot_core _ _ _ _ _
    · rfl
  · rfl

@[simp] theorem finalizeLot_plant (s : State) (n : Tag) : (finalizeLot s n).plant = s.plant := by
  unfold finalizeLot
  split
  · dsimp only
    split
    · exact writeLot_plant _ _ _ _ _
    · rfl
  · rfl

@[simp] theorem exitPack_core (s : State) (p : Pack) (kind : ExitKind) (late : Bool) : (exitPack s p kind late).core = s.core := by
  have h : (match kind with
      | .fed => accept s (packDraft p.counted .fed none (.fed late))
      | .removed => accept s (packDraft p.counted .removed p.bay .none)).core = s.core := by
    cases kind <;> simp
  unfold exitPack
  simp only [finalizeLot_core, listPack_core, leaveQueue_core]
  split
  · exact h
  · exact h

@[simp] theorem exitPack_plant (s : State) (p : Pack) (kind : ExitKind) (late : Bool) : (exitPack s p kind late).plant = s.plant := by
  have h : (match kind with
      | .fed => accept s (packDraft p.counted .fed none (.fed late))
      | .removed => accept s (packDraft p.counted .removed p.bay .none)).plant = s.plant := by
    cases kind <;> simp
  unfold exitPack
  simp only [finalizeLot_plant, listPack_plant, leaveQueue_plant]
  split
  · exact h
  · exact h

@[simp] theorem takeTrip_core (s : State) (b : BayId) (t : Tag) (k : TripKind) : (takeTrip s b t k).1.core = s.core := by
  unfold takeTrip
  split
  · rfl
  · rename_i p _
    have h := otherRecord_core s { p with trips := satAdd 8 p.trips 1 } { p with trips := satAdd 8 p.trips 1 } .trip (some b) (.trip k)
    dsimp only
    split
    · rename_i h'
      rw [h'] at h
      split <;> simp_all
    · exact h

@[simp] theorem takeTrip_plant (s : State) (b : BayId) (t : Tag) (k : TripKind) : (takeTrip s b t k).1.plant = s.plant := by
  unfold takeTrip
  split
  · rfl
  · rename_i p _
    have h := otherRecord_plant s { p with trips := satAdd 8 p.trips 1 } { p with trips := satAdd 8 p.trips 1 } .trip (some b) (.trip k)
    dsimp only
    split
    · rename_i h'
      rw [h'] at h
      split <;> simp_all
    · exact h

@[simp] theorem takeRebound_core (s : State) (b : BayId) (t : Tag) : (takeRebound s b t).1.core = s.core := by
  unfold takeRebound
  try dsimp only
  (repeat' split) <;> (try simp [apply_ite State.core]) <;> (try rfl)

@[simp] theorem takeRebound_plant (s : State) (b : BayId) (t : Tag) : (takeRebound s b t).1.plant = s.plant := by
  unfold takeRebound
  try dsimp only
  (repeat' split) <;> (try simp [apply_ite State.plant]) <;> (try rfl)

@[simp] theorem takeReady_core (s : State) (b : BayId) (t : Tag) : (takeReady s b t).1.core = s.core := by
  unfold takeReady
  try dsimp only
  (repeat' split) <;> (try simp [apply_ite State.core]) <;> (try rfl)

@[simp] theorem takeReady_plant (s : State) (b : BayId) (t : Tag) : (takeReady s b t).1.plant = s.plant := by
  unfold takeReady
  try dsimp only
  (repeat' split) <;> (try simp [apply_ite State.plant]) <;> (try rfl)

@[simp] theorem takeBayQuarantine_core (s : State) (b : BayId) (t : Tag) (r : QuarReason) : (takeBayQuarantine s b t r).1.core = s.core := by
  unfold takeBayQuarantine
  try dsimp only
  (repeat' split) <;> (try simp [apply_ite State.core]) <;> (try rfl)

@[simp] theorem takeBayQuarantine_plant (s : State) (b : BayId) (t : Tag) (r : QuarReason) : (takeBayQuarantine s b t r).1.plant = s.plant := by
  unfold takeBayQuarantine
  try dsimp only
  (repeat' split) <;> (try simp [apply_ite State.plant]) <;> (try rfl)

@[simp] theorem takeFeeding_core (s : State) (t : Tag) : (takeFeeding s t).1.core = s.core := by
  unfold takeFeeding
  try dsimp only
  (repeat' split) <;> (try simp [apply_ite State.core]) <;> (try rfl)

@[simp] theorem takeFeeding_plant (s : State) (t : Tag) : (takeFeeding s t).1.plant = s.plant := by
  unfold takeFeeding
  try dsimp only
  (repeat' split) <;> (try simp [apply_ite State.plant]) <;> (try rfl)

@[simp] theorem takeFed_core (s : State) (t : Tag) (late : Bool) : (takeFed s t late).1.core = s.core := by
  unfold takeFed
  try dsimp only
  (repeat' split) <;> (try simp [apply_ite State.core]) <;> (try rfl)

@[simp] theorem takeFed_plant (s : State) (t : Tag) (late : Bool) : (takeFed s t late).1.plant = s.plant := by
  unfold takeFed
  try dsimp only
  (repeat' split) <;> (try simp [apply_ite State.plant]) <;> (try rfl)

@[simp] theorem takeFeedRemoved_core (s : State) (t : Tag) : (takeFeedRemoved s t).1.core = s.core := by
  unfold takeFeedRemoved
  try dsimp only
  (repeat' split) <;> (try simp [apply_ite State.core]) <;> (try rfl)

@[simp] theorem takeFeedRemoved_plant (s : State) (t : Tag) : (takeFeedRemoved s t).1.plant = s.plant := by
  unfold takeFeedRemoved
  try dsimp only
  (repeat' split) <;> (try simp [apply_ite State.plant]) <;> (try rfl)

@[simp] theorem takeExpose_core (s : State) (t : Tag) (n : BitVec 16) : (takeExpose s t n).1.core = s.core := by
  unfold takeExpose
  try dsimp only
  (repeat' split) <;> (try simp [apply_ite State.core]) <;> (try rfl)

@[simp] theorem takeExpose_plant (s : State) (t : Tag) (n : BitVec 16) : (takeExpose s t n).1.plant = s.plant := by
  unfold takeExpose
  try dsimp only
  (repeat' split) <;> (try simp [apply_ite State.plant]) <;> (try rfl)

@[simp] theorem applyEvent_core (s : State) (e : PackEvent) : (applyEvent s e).1.core = s.core := by
  cases e <;> simp [applyEvent]

@[simp] theorem applyEvent_plant (s : State) (e : PackEvent) : (applyEvent s e).1.plant = s.plant := by
  cases e <;> simp [applyEvent]

@[simp] theorem submit_core (s : State) (e : PackEvent) : (submit s e).1.core = s.core := by
  unfold submit
  dsimp only
  split
  · exact applyEvent_core s e
  · rfl

@[simp] theorem submit_plant (s : State) (e : PackEvent) : (submit s e).1.plant = s.plant := by
  unfold submit
  dsimp only
  split
  · exact applyEvent_plant s e
  · rfl

@[simp] theorem putFeeder_core (s : State) (x : Feeder) : (putFeeder s x).core = s.core := by
  unfold putFeeder
  try dsimp only
  (repeat' split) <;> (try simp [apply_ite State.core]) <;> (try rfl)

@[simp] theorem putFeeder_plant (s : State) (x : Feeder) : (putFeeder s x).plant = s.plant := by
  unfold putFeeder
  try dsimp only
  (repeat' split) <;> (try simp [apply_ite State.plant]) <;> (try rfl)

@[simp] theorem openFeed_core (s : State) (t : Tag) : (openFeed s t).core = s.core := by
  unfold openFeed
  try dsimp only
  (repeat' split) <;> (try simp [apply_ite State.core]) <;> (try rfl)

@[simp] theorem openFeed_plant (s : State) (t : Tag) : (openFeed s t).plant = s.plant := by
  unfold openFeed
  try dsimp only
  (repeat' split) <;> (try simp [apply_ite State.plant]) <;> (try rfl)

@[simp] theorem tryFeed_core (s : State) : (tryFeed s).core = s.core := by
  unfold tryFeed
  split
  · rfl
  · rename_i t _ _
    have h := submit_core s (.feeding t)
    split
    · split <;> simp_all
    · rfl

@[simp] theorem tryFeed_plant (s : State) : (tryFeed s).plant = s.plant := by
  unfold tryFeed
  split
  · rfl
  · rename_i t _ _
    have h := submit_plant s (.feeding t)
    split
    · split <;> simp_all
    · rfl

@[simp] theorem updateFeeder_core (s : State) : (updateFeeder s).core = s.core := by
  unfold updateFeeder
  try dsimp only
  (repeat' split) <;> (try simp [apply_ite State.core]) <;> (try rfl)

@[simp] theorem updateFeeder_plant (s : State) : (updateFeeder s).plant = s.plant := by
  unfold updateFeeder
  try dsimp only
  (repeat' split) <;> (try simp [apply_ite State.plant]) <;> (try rfl)

@[simp] theorem endFeed_core (s : State) : (endFeed s).core = s.core := by
  unfold endFeed
  try dsimp only
  (repeat' split) <;> (try simp [apply_ite State.core]) <;> (try rfl)

@[simp] theorem endFeed_plant (s : State) : (endFeed s).plant = s.plant := by
  unfold endFeed
  try dsimp only
  (repeat' split) <;> (try simp [apply_ite State.plant]) <;> (try rfl)

theorem submitBay_core (s : State) (e : PackEvent) (act : State → Answer → State) (h : ∀ s a, (act s a).core = s.core) :
    (submitBay s e act).core = s.core := by
  have hs := submit_core s e
  unfold submitBay
  split <;> simp_all

theorem submitBay_plant (s : State) (e : PackEvent) (act : State → Answer → State) (h : ∀ s a, (act s a).plant = s.plant) :
    (submitBay s e act).plant = s.plant := by
  have hs := submit_plant s e
  unfold submitBay
  split <;> simp_all

@[simp] theorem afterTrip_core (s : State) (b : BayId) (t : Tag) (k : TripKind) (a : Answer) : (afterTrip s b t k a).core = s.core := by
  unfold afterTrip
  try dsimp only
  (repeat' split) <;> first
    | exact submitBay_core _ _ _ (fun s _ => lockBay_core s b)
    | (try simp [apply_ite State.core]) <;> (try rfl)

@[simp] theorem afterTrip_plant (s : State) (b : BayId) (t : Tag) (k : TripKind) (a : Answer) : (afterTrip s b t k a).plant = s.plant := by
  unfold afterTrip
  try dsimp only
  (repeat' split) <;> first
    | exact submitBay_plant _ _ _ (fun s _ => lockBay_plant s b)
    | (try simp [apply_ite State.plant]) <;> (try rfl)

@[simp] theorem afterReady_core (s : State) (b : BayId) (t : Tag) (a : Answer) : (afterReady s b t a).core = s.core := by
  unfold afterReady
  try dsimp only
  (repeat' split) <;> (try simp [apply_ite State.core]) <;> (try rfl)

@[simp] theorem afterReady_plant (s : State) (b : BayId) (t : Tag) (a : Answer) : (afterReady s b t a).plant = s.plant := by
  unfold afterReady
  try dsimp only
  (repeat' split) <;> (try simp [apply_ite State.plant]) <;> (try rfl)

@[simp] theorem afterRebound_core (s : State) (b : BayId) (t : Tag) (a : Answer) : (afterRebound s b t a).core = s.core := by
  unfold afterRebound
  try dsimp only
  (repeat' split) <;> (try simp [apply_ite State.core]) <;> (try rfl)

@[simp] theorem afterRebound_plant (s : State) (b : BayId) (t : Tag) (a : Answer) : (afterRebound s b t a).plant = s.plant := by
  unfold afterRebound
  try dsimp only
  (repeat' split) <;> (try simp [apply_ite State.plant]) <;> (try rfl)

@[simp] theorem afterBayQuarantine_core (s : State) (b : BayId) (t : Tag) : (afterBayQuarantine s b t).core = s.core := by
  unfold afterBayQuarantine
  try dsimp only
  (repeat' split) <;> (try simp [apply_ite State.core]) <;> (try rfl)

@[simp] theorem afterBayQuarantine_plant (s : State) (b : BayId) (t : Tag) : (afterBayQuarantine s b t).plant = s.plant := by
  unfold afterBayQuarantine
  try dsimp only
  (repeat' split) <;> (try simp [apply_ite State.plant]) <;> (try rfl)

@[simp] theorem bayQuarantine_core (s : State) (b : BayId) (r : QuarReason) : (bayQuarantine s b r).core = s.core := by
  unfold bayQuarantine
  split
  · rfl
  · exact (submitBay_core _ _ _ (fun s _ => afterBayQuarantine_core s b _)).trans (putApart_core _ _ _)

@[simp] theorem bayQuarantine_plant (s : State) (b : BayId) (r : QuarReason) : (bayQuarantine s b r).plant = s.plant := by
  unfold bayQuarantine
  split
  · rfl
  · exact (submitBay_plant _ _ _ (fun s _ => afterBayQuarantine_plant s b _)).trans (putApart_plant _ _ _)

@[simp] theorem bayTrip_core (s : State) (b : BayId) (k : TripKind) : (bayTrip s b k).core = s.core := by
  unfold bayTrip
  split
  · rfl
  · exact (submitBay_core _ _ _ (fun s a => afterTrip_core s b _ k a)).trans (putApart_core _ _ _)

@[simp] theorem bayTrip_plant (s : State) (b : BayId) (k : TripKind) : (bayTrip s b k).plant = s.plant := by
  unfold bayTrip
  split
  · rfl
  · exact (submitBay_plant _ _ _ (fun s a => afterTrip_plant s b _ k a)).trans (putApart_plant _ _ _)

@[simp] theorem bayReady_core (s : State) (b : BayId) : (bayReady s b).core = s.core := by
  unfold bayReady
  split
  · rfl
  · exact (submitBay_core _ _ _ (fun s a => afterReady_core s b _ a))

@[simp] theorem bayReady_plant (s : State) (b : BayId) : (bayReady s b).plant = s.plant := by
  unfold bayReady
  split
  · rfl
  · exact (submitBay_plant _ _ _ (fun s a => afterReady_plant s b _ a))

@[simp] theorem bayRebound_core (s : State) (b : BayId) : (bayRebound s b).core = s.core := by
  unfold bayRebound
  split
  · rfl
  · exact (submitBay_core _ _ _ (fun s a => afterRebound_core s b _ a))

@[simp] theorem bayRebound_plant (s : State) (b : BayId) : (bayRebound s b).plant = s.plant := by
  unfold bayRebound
  split
  · rfl
  · exact (submitBay_plant _ _ _ (fun s a => afterRebound_plant s b _ a))

@[simp] theorem placedDecision_core (s : State) (b : BayId) (p : Pack) (v : Int) : (placedDecision s b p v).core = s.core := by
  unfold placedDecision
  try dsimp only
  (repeat' split) <;> (try simp [apply_ite State.core]) <;> (try rfl)

@[simp] theorem placedDecision_plant (s : State) (b : BayId) (p : Pack) (v : Int) : (placedDecision s b p v).plant = s.plant := by
  unfold placedDecision
  try dsimp only
  (repeat' split) <;> (try simp [apply_ite State.plant]) <;> (try rfl)

@[simp] theorem restDecision_core (s : State) (b : BayId) : (restDecision s b).core = s.core := by
  unfold restDecision
  try dsimp only
  (repeat' split) <;> (try simp [apply_ite State.core]) <;> (try rfl)

@[simp] theorem restDecision_plant (s : State) (b : BayId) : (restDecision s b).plant = s.plant := by
  unfold restDecision
  try dsimp only
  (repeat' split) <;> (try simp [apply_ite State.plant]) <;> (try rfl)

@[simp] theorem enterResting_core (s : State) (b : BayId) (p : Pack) : (enterResting s b p).core = s.core := by
  unfold enterResting
  try dsimp only
  (repeat' split) <;> (try simp [apply_ite State.core]) <;> (try rfl)

@[simp] theorem enterResting_plant (s : State) (b : BayId) (p : Pack) : (enterResting s b p).plant = s.plant := by
  unfold enterResting
  try dsimp only
  (repeat' split) <;> (try simp [apply_ite State.plant]) <;> (try rfl)

@[simp] theorem dischargingEvent_core (s : State) (b : BayId) (p : Pack) (u : Sample) (e : SampleEvent) : (dischargingEvent s b p u e).core = s.core := by
  unfold dischargingEvent
  try dsimp only
  (repeat' split) <;> (try simp [apply_ite State.core]) <;> (try rfl)

@[simp] theorem dischargingEvent_plant (s : State) (b : BayId) (p : Pack) (u : Sample) (e : SampleEvent) : (dischargingEvent s b p u e).plant = s.plant := by
  unfold dischargingEvent
  try dsimp only
  (repeat' split) <;> (try simp [apply_ite State.plant]) <;> (try rfl)

@[simp] theorem bayDecides_core (s : State) (b : BayId) (p : Pack) (u : Sample) (e : SampleEvent) : (bayDecides s b p u e).core = s.core := by
  unfold bayDecides
  try dsimp only
  (repeat' split) <;> (try simp [apply_ite State.core]) <;> (try rfl)

@[simp] theorem bayDecides_plant (s : State) (b : BayId) (p : Pack) (u : Sample) (e : SampleEvent) : (bayDecides s b p u e).plant = s.plant := by
  unfold bayDecides
  try dsimp only
  (repeat' split) <;> (try simp [apply_ite State.plant]) <;> (try rfl)

@[simp] theorem bayActs_core (s : State) (b : BayId) (e : SampleEvent) : (bayActs s b e).core = s.core := by
  unfold bayActs
  try dsimp only
  (repeat' split) <;> (try simp [apply_ite State.core]) <;> (try rfl)

@[simp] theorem bayActs_plant (s : State) (b : BayId) (e : SampleEvent) : (bayActs s b e).plant = s.plant := by
  unfold bayActs
  try dsimp only
  (repeat' split) <;> (try simp [apply_ite State.plant]) <;> (try rfl)

@[simp] theorem bayMeasures_core (s : State) (b : BayId) (m : SampleMark) (v : Option Sample) (miss : Nat) : (bayMeasures s b m v miss).1.core = s.core := by
  unfold bayMeasures
  try dsimp only
  (repeat' split) <;> (try simp [apply_ite State.core]) <;> (try rfl)

@[simp] theorem bayMeasures_plant (s : State) (b : BayId) (m : SampleMark) (v : Option Sample) (miss : Nat) : (bayMeasures s b m v miss).1.plant = s.plant := by
  unfold bayMeasures
  try dsimp only
  (repeat' split) <;> (try simp [apply_ite State.plant]) <;> (try rfl)

/-! ### What the zones, the chamber, the shredder and the line mode leave alone -/

@[simp] theorem setZone_core (s : State) (z : ZoneId) (x : Zone) : (State.setZone s z x).core = s.core := by
  unfold State.setZone
  try dsimp only
  (repeat' split) <;> (try simp [apply_ite State.core]) <;> (try rfl)

@[simp] theorem putZone_core (s : State) (z : ZoneId) (x : Zone) : (putZone s z x).core = s.core := by
  unfold putZone
  try dsimp only
  (repeat' split) <;> (try simp [apply_ite State.core]) <;> (try rfl)

@[simp] theorem spendFree_core (s : State) : (State.spendFree s).core = s.core := by
  unfold State.spendFree
  try dsimp only
  (repeat' split) <;> (try simp [apply_ite State.core]) <;> (try rfl)

@[simp] theorem handPart_core (s : State) (p : IncidentPart) : (handPart s p).core = s.core := by
  unfold handPart
  try dsimp only
  (repeat' split) <;> (try simp [apply_ite State.core]) <;> (try rfl)

@[simp] theorem putInterlock_core (s : State) (x : Interlock) : (putInterlock s x).core = s.core := by
  unfold putInterlock
  try dsimp only
  (repeat' split) <;> (try simp [apply_ite State.core]) <;> (try rfl)

@[simp] theorem moveInterlock_core (s : State) (x : Interlock) : (moveInterlock s x).core = s.core := by
  unfold moveInterlock
  try dsimp only
  (repeat' split) <;> (try simp [apply_ite State.core]) <;> (try rfl)

@[simp] theorem updatePermission_core (s : State) : (updatePermission s).core = s.core := by
  unfold updatePermission
  try dsimp only
  (repeat' split) <;> (try simp [apply_ite State.core]) <;> (try rfl)

@[simp] theorem setLineMode_core (s : State) (m : LineMode) (c : Option HoldCause) : (setLineMode s m c).core = s.core := by
  unfold setLineMode
  try dsimp only
  (repeat' split) <;> (try simp [apply_ite State.core]) <;> (try rfl)

@[simp] theorem enterSafeHold_core (s : State) (c : HoldCause) : (enterSafeHold s c).core = s.core := by
  unfold enterSafeHold
  try dsimp only
  (repeat' split) <;> (try simp [apply_ite State.core]) <;> (try rfl)

@[simp] theorem reportEmpty_core (s₀ s : State) : (reportEmpty s₀ s).core = s.core := by
  unfold reportEmpty
  try dsimp only
  (repeat' split) <;> (try simp [apply_ite State.core]) <;> (try rfl)

@[simp] theorem afterFeedEvent_core (s₀ s : State) : (afterFeedEvent s₀ s).core = s.core := by
  unfold afterFeedEvent
  try dsimp only
  (repeat' split) <;> (try simp [apply_ite State.core]) <;> (try rfl)

@[simp] theorem finishFeed_core (s : State) (e : PackEvent) : (finishFeed s e).core = s.core := by
  have h := submit_core (putFeeder s { s.feeder with gate := false, feedTimer := none }) e
  unfold finishFeed
  dsimp only
  split
  · rename_i h'
    rw [h'] at h
    simpa using h
  · rename_i h'
    rw [h'] at h
    simpa using h

@[simp] theorem passEvent_core (s : State) : (passEvent s).core = s.core := by
  unfold passEvent
  dsimp only
  cases hs : s.feeder.state <;> cases ht : s.feeder.tag <;> simp only []
  case blocked.none => exact mark_core _ _
  case blocked.some => exact mark_core _ _
  case ready.none => exact mark_core _ _
  case ready.some => exact mark_core _ _
  case feeding.some => split <;> simp
  case jammed.some => split <;> simp

@[simp] theorem feedbackChange_core (s : State) (present : Bool) : (feedbackChange s present).core = s.core := by
  unfold feedbackChange
  try dsimp only
  (repeat' split) <;> (try simp [apply_ite State.core]) <;> (try rfl)

@[simp] theorem putChamber_core (s : State) (x : Atmosphere) : (putChamber s x).core = s.core := by
  unfold putChamber
  try dsimp only
  (repeat' split) <;> (try simp [apply_ite State.core]) <;> (try rfl)

@[simp] theorem putAtm_core (s : State) (x : Atmosphere) : (putAtm s x).core = s.core := by
  unfold putAtm
  try dsimp only
  (repeat' split) <;> (try simp [apply_ite State.core]) <;> (try rfl)

@[simp] theorem oxygenEvent_core (s : State) (k : OxyChan) (v : Option Nat) (miss : Nat) : (oxygenEvent s k v miss).core = s.core := by
  unfold oxygenEvent
  try dsimp only
  (repeat' split) <;> (try simp [apply_ite State.core]) <;> (try rfl)

@[simp] theorem doorChange_core (s : State) (closed : Bool) : (doorChange s closed).core = s.core := by
  unfold doorChange
  try dsimp only
  (repeat' split) <;> (try simp [apply_ite State.core]) <;> (try rfl)

@[simp] theorem lineHoldEnters_core (o : EffectSet) (s : State) : (lineHoldEnters o s).core = s.core := by
  unfold lineHoldEnters
  try dsimp only
  (repeat' split) <;> (try simp [apply_ite State.core]) <;> (try rfl)

@[simp] theorem stopParts_core (o : EffectSet) (s : State) : (stopParts o s).core = s.core := by
  unfold stopParts
  try dsimp only
  (repeat' split) <;> (try simp [apply_ite State.core]) <;> (try rfl)

@[simp] theorem lateParts_core (o : EffectSet) (s : State) : (lateParts o s).core = s.core := by
  unfold lateParts
  split
  · exact eitherOrder_core _ _ _ _ _ (by simp) (by simp)
  · simp

@[simp] theorem takePct_core (e : EffectSet) (s : State) : (takePct e s).core = s.core := by
  unfold takePct
  dsimp only
  split
  · rfl
  · rw [regrant_core]; rfl

@[simp] theorem marksThenPct_core (e : EffectSet) (s : State) : (marksThenPct e s).core = s.core := by
  unfold marksThenPct
  rw [takePct_core, syncHolds_core]; rfl

@[simp] theorem pctThenMarks_core (e : EffectSet) (s : State) : (pctThenMarks e s).core = s.core := by
  unfold pctThenMarks
  rw [syncHolds_core, takePct_core]

@[simp] theorem formEffects_core (s : State) : (formEffects s).core = s.core := by
  have h (e : EffectSet) :
      (eitherOrder Config.pctFirst (s.mark .line).free (marksThenPct e (s.mark .line)) (pctThenMarks e (s.mark .line))).core = s.core :=
    eitherOrder_core _ _ _ _ _ (by simp) (by simp)
  unfold formEffects
  dsimp only
  split
  · rfl
  · rw [lateParts_core]
    split
    · exact h _
    · rw [putChamber_core]; exact h _

@[simp] theorem exposeAll_core (s : State) (n : BitVec 16) (ts : List Tag) : (exposeAll s n ts).core = s.core := by
  exact foldl_core _ (fun s t => submit_core s _) _ s

@[simp] theorem incidentStep_core (s : State) (z : ZoneId) : (incidentStep s z).core = s.core := by
  unfold incidentStep
  try dsimp only
  (repeat' split) <;> (try simp [apply_ite State.core]) <;> (try rfl)

@[simp] theorem closeIncident_core (s : State) : (closeIncident s).core = s.core := by
  unfold closeIncident
  try dsimp only
  (repeat' split) <;> (try simp [apply_ite State.core]) <;> (try rfl)

@[simp] theorem enterAlarm_core (s : State) (z : ZoneId) (cause : Option AlarmCause) : (enterAlarm s z cause).core = s.core := by
  unfold enterAlarm
  try dsimp only
  (repeat' split) <;> (try simp [apply_ite State.core]) <;> (try rfl)

@[simp] theorem evaluateZone_core (s : State) (z : ZoneId) (i : ZoneInput) (faultSet : Bool) : (evaluateZone s z i faultSet).core = s.core := by
  unfold evaluateZone
  try dsimp only
  (repeat' split) <;> (try simp [apply_ite State.core]) <;> (try rfl)

@[simp] theorem refreshZone_core (s : State) (z : ZoneId) (i : ZoneInput) : (refreshZone s z i).core = s.core := by
  unfold refreshZone
  try dsimp only
  (repeat' split) <;> (try simp [apply_ite State.core]) <;> (try rfl)

@[simp] theorem refreshZones_core (s : State) (zs : List ZoneId) (i : ZoneInput) : (refreshZones s zs i).core = s.core := by
  exact foldl_core _ (fun s z => refreshZone_core s z _) _ s

@[simp] theorem thermalChange_core (s : State) (b : BayId) : (thermalChange s b).core = s.core := by
  unfold thermalChange
  try dsimp only
  (repeat' split) <;> (try simp [apply_ite State.core]) <;> (try rfl)

@[simp] theorem sparkReport_core (s : State) (z : ZoneId) (l : LoopId) (a : HeadAddr) (n : Nat) : (sparkReport s z l a n).core = s.core := by
  unfold sparkReport
  try dsimp only
  (repeat' split) <;> (try simp [apply_ite State.core]) <;> (try rfl)

@[simp] theorem sampleEvent_core (s : State) (b : BayId) (m : SampleMark) (v : Option Sample) (miss : Nat) : (sampleEvent s b m v miss).core = s.core := by
  unfold sampleEvent
  dsimp only
  split
  · simp
  · exact eitherOrder_core _ _ _ _ _ (by simp) (by simp)

end Sys2Proof.Machine
end

