-- ==== Sys2Proof/Laws/Journal.lean ====
section
/-! SUPPORT. The journal area keeps its canonical form under every operation on it (R153), and what reading a slot gives after each; a reset keeps the form, and the end of a step leaves the array alone. -/

namespace Sys2Proof.Machine

/-- The canonical form, as slot numbers strictly rising and all within the ring. -/
theorem journalWf_iff (j : List (Nat × Slot)) :
    journalWf j = true ↔ j.Pairwise (fun e f => e.1 < f.1) ∧ ∀ e ∈ j, e.1 < 4096 := by
  induction j with
  | nil => simp [journalWf]
  | cons e t ih =>
    cases t with
    | nil => simp [journalWf]
    | cons f u =>
      simp only [journalWf, Bool.and_eq_true, decide_eq_true_eq, ih]
      constructor
      · rintro ⟨h, hp, hm⟩
        have hf := hm f (by simp)
        refine ⟨List.pairwise_cons.2 ⟨?_, hp⟩, ?_⟩
        · intro g hg
          rcases List.mem_cons.1 hg with rfl | hg
          · exact h
          · exact lt_trans h ((List.pairwise_cons.1 hp).1 g hg)
        · intro g hg
          rcases List.mem_cons.1 hg with rfl | hg
          · omega
          · exact hm g hg
      · rintro ⟨hp, hm⟩
        obtain ⟨h1, h2⟩ := List.pairwise_cons.1 hp
        exact ⟨h1 f (by simp), h2, fun g hg => hm g (List.mem_cons_of_mem e hg)⟩

/-- The slots listed after `journalPut`. -/
theorem mem_journalPut {n : Nat} {c : Slot} {j : List (Nat × Slot)} {e : Nat × Slot} (h : e ∈ journalPut n c j) :
    e = (n, c) ∨ e ∈ j := by
  induction j with
  | nil => simpa [journalPut] using h
  | cons f t ih =>
    unfold journalPut at h
    split at h
    · rcases List.mem_cons.1 h with h | h <;> simp [h]
    · split at h
      · rcases List.mem_cons.1 h with h | h <;> simp [h]
      · rcases List.mem_cons.1 h with h | h
        · simp [h]
        · rcases ih h with h | h <;> simp [h]

/-- Writing a slot of the ring keeps the canonical form. -/
theorem journalWf_put {n : Nat} (c : Slot) {j : List (Nat × Slot)} (hn : n < 4096) (h : journalWf j = true) :
    journalWf (journalPut n c j) = true := by
  rw [journalWf_iff] at h ⊢
  obtain ⟨hp, hm⟩ := h
  refine ⟨?_, fun e he => (mem_journalPut he).elim (fun h => by subst h; exact hn) (hm e)⟩
  clear hm
  induction j with
  | nil => simp [journalPut]
  | cons f t ih =>
    obtain ⟨h1, h2⟩ := List.pairwise_cons.1 hp
    unfold journalPut
    split
    · rename_i h
      refine List.pairwise_cons.2 ⟨?_, hp⟩
      intro g hg
      rcases List.mem_cons.1 hg with rfl | hg
      · exact h
      · exact lt_trans h (h1 g hg)
    · split
      · rename_i h h'
        exact List.pairwise_cons.2 ⟨fun g hg => by simpa [h'] using h1 g hg, h2⟩
      · rename_i h h'
        refine List.pairwise_cons.2 ⟨?_, ih h2⟩
        intro g hg
        rcases mem_journalPut hg with rfl | hg
        · simp only []; omega
        · exact h1 g hg

/-- Erasing a segment keeps the canonical form. -/
theorem journalWf_erase (seg : Nat) {j : List (Nat × Slot)} (h : journalWf j = true) : journalWf (journalErase seg j) = true := by
  rw [journalWf_iff] at h ⊢
  exact ⟨h.1.filter _, fun e he => h.2 e (List.mem_of_mem_filter he)⟩

/-- Marking slots of the ring unreadable keeps the canonical form. -/
theorem journalWf_fail {ns : List Nat} {j : List (Nat × Slot)} (hn : ∀ n ∈ ns, n < 4096) (h : journalWf j = true) :
    journalWf (journalFail ns j) = true := by
  unfold journalFail
  induction ns generalizing j with
  | nil => exact h
  | cons n t ih => exact ih (fun m hm => hn m (List.mem_cons_of_mem n hm)) (journalWf_put .failed (hn n (by simp)) h)

/-- The sixteen slots of a segment of the ring lie within it. -/
theorem segSlots_lt {seg n : Nat} (h : seg < 256) (hn : n ∈ segSlots seg) : n < 4096 := by
  simp only [segSlots, List.mem_map, List.mem_range] at hn
  obtain ⟨i, hi, rfl⟩ := hn
  omega

/-- Programming buffered records into slots of the ring keeps the canonical form. -/
theorem journalWf_program {l : List Buffered} {j : List (Nat × Slot)} (hl : ∀ b ∈ l, ∀ n, b.slot = some n → n < 4096)
    (h : journalWf j = true) : journalWf (programRecords l j) = true := by
  unfold programRecords
  induction l generalizing j with
  | nil => exact h
  | cons b t ih =>
    refine ih (fun c hc => hl c (List.mem_cons_of_mem b hc)) ?_
    cases hb : b.slot with
    | none => simpa [hb] using h
    | some n => simpa [hb] using journalWf_put _ (hl b (by simp) n hb) h

/-- A segment cut short in its erase keeps the canonical form. -/
theorem journalWf_failTarget {n : Nv} {t : EraseTarget} (ht : t.wf = true) (h : journalWf n.journal = true) :
    journalWf (n.failTarget t).journal = true := by
  cases t with
  | journal g =>
    have hg : g < 256 := by simpa [EraseTarget.wf] using ht
    have hs : ∀ k ∈ segSlots g, k < 4096 := fun k hk => segSlots_lt hg hk
    simp only [Nv.failTarget]
    exact journalWf_fail (ns := segSlots g) hs h
  | incident i => simpa only [Nv.failTarget] using h

/-- An operation cut short keeps the canonical form. -/
theorem journalWf_cutRunning {w : Writer} {n : Nv} (hb : ∀ b ∈ w.buffer, ∀ k, b.slot = some k → k < 4096)
    (hr : ∀ o, w.running = some o → o.wf = true) (h : journalWf n.journal = true) : journalWf (w.cutRunning n).journal = true := by
  cases hc : w.running with
  | none => simpa only [Writer.cutRunning, hc] using h
  | some o =>
    cases o with
    | journalProgram k =>
      simp only [Writer.cutRunning, hc]
      refine journalWf_fail (fun m hm => ?_) h
      obtain ⟨b, hl, hk⟩ := List.mem_filterMap.1 hm
      exact hb b (List.mem_of_mem_take hl) m hk
    | incidentProgram =>
      cases hi : w.incidents with
      | nil => simpa only [Writer.cutRunning, hc, hi] using h
      | cons p l => simpa only [Writer.cutRunning, hc, hi] using h
    | settingsErase c => simpa only [Writer.cutRunning, hc] using h
    | settingsProgram c d => simpa only [Writer.cutRunning, hc] using h
    | erase t u v =>
      simp only [Writer.cutRunning, hc]
      exact journalWf_failTarget (by simpa only [NvOp.wf] using hr _ hc) h
    | read o => simpa only [Writer.cutRunning, hc] using h

/-- A reset keeps the canonical form, whatever operation it cuts short. -/
theorem journalWf_cut {s : State} (hw : s.writer.wf = true) (h : journalWf s.nv.journal = true) : journalWf s.cutNv.journal = true := by
  simp only [Writer.wf, Bool.and_eq_true, List.all_eq_true, Option.all_eq_true, decide_eq_true_eq] at hw
  obtain ⟨⟨⟨⟨⟨-, hb⟩, hr⟩, hs⟩, -⟩, -⟩ := hw
  have cut := journalWf_cutRunning hb hr h
  cases ht : s.writer.suspended with
  | none => simpa only [State.cutNv, ht] using cut
  | some t =>
    simp only [State.cutNv, ht]
    exact journalWf_failTarget (hs t ht) cut

/-- What the arbiter starts changes nothing in the array until it completes. -/
@[simp] theorem arbPump_nv (s : State) : (arbPump s).nv = s.nv := by
  have era (s : State) (t : EraseTarget) (e : Bool) (go : State) (hg : go.nv = s.nv) : (eraseThen s t e go).nv = s.nv := by
    unfold eraseThen
    (repeat' split) <;> first | rfl | exact hg
  have low : (arbLow s).nv = s.nv := by
    unfold arbLow
    (repeat' split) <;> first | rfl | (unfold startSettings; split <;> rfl)
  have jour (n : Nat) : (journalAction s n).nv = s.nv := era _ _ _ _ rfl
  have inci (p : IncidentPart) : (incidentAction s p).nv = s.nv := era _ _ _ _ rfl
  unfold arbPump
  split
  · unfold arbFree
    (repeat' split) <;> first | exact jour _ | exact inci _ | exact low
  · unfold arbErase
    (repeat' split) <;> rfl
  · rfl

/-- A slot reads as what was written to it, and every other slot as before. -/
theorem journalAt_put (n k : Nat) (c : Slot) (j : List (Nat × Slot)) :
    journalAt (journalPut n c j) k = if k = n then some c else journalAt j k := by
  induction j with
  | nil => by_cases h : k = n <;> simp [journalPut, journalAt, h, eq_comm]
  | cons f t ih =>
    unfold journalAt at ih ⊢
    unfold journalPut
    split
    · by_cases h : k = n
      · simp [h]
      · simp [h, eq_comm, List.find?_cons]
    · split
      · rename_i h h'
        by_cases hk : k = n
        · simp [hk]
        · simp [hk, ← h', eq_comm]
      · rename_i h h'
        by_cases hk : f.1 = k
        · have : k ≠ n := fun e => h' (by rw [← e, hk])
          simp [hk, this]
        · simpa [hk, List.find?_cons] using ih

end Sys2Proof.Machine
end

