-- ==== Sys2Proof/Laws/Line.lean ====
section
/-! SUPPORT. What run permission and a change of line mode do to the interlock (R133, R144), and the end of a reception (R76). -/

namespace Sys2Proof.Machine

/-! ### The end of a reception -/

@[simp] theorem acked_ack (x : Loop) (b : Bool) : (x.acked b).ack = some b := rfl
@[simp] theorem acked_state (x : Loop) (b : Bool) : (x.acked b).state = .idle := rfl
@[simp] theorem acked_gap (x : Loop) (b : Bool) : (x.acked b).gap = some 5 := rfl
@[simp] theorem acked_heads (x : Loop) (b : Bool) : (x.acked b).heads = x.heads := rfl
@[simp] theorem acked_cursor (x : Loop) (b : Bool) : (x.acked b).cursor = x.cursor := rfl
@[simp] theorem toGap_ack (x : Loop) : x.toGap.ack = x.ack := rfl

/-! ### Run permission -/

@[simp] theorem interlock_putInterlock (s : State) (x : Interlock) : (putInterlock s x).interlock = x := by
  unfold putInterlock; simp only [State.markIf]; split <;> rfl

theorem interlock_of_plant {s t : State} (h : s.plant = t.plant) : s.interlock = t.interlock := congrArg Plant.interlock h

theorem runConditions_of_plant {s t : State} (h : s.plant = t.plant) (hc : s.core = t.core) : s.runConditions = t.runConditions := by
  have h1 : s.atm = t.atm := congrArg Plant.atm h
  have h2 : s.line.mode = t.line.mode := congrArg Plant.mode h
  have h3 : s.effect = t.effect := congrArg Plant.effect h
  have h4 : s.line.inputs = t.line.inputs := congrArg Core.inputs hc
  simp only [State.runConditions, h1, h2, h3, State.estopActive, State.doorClosed, State.level, h4]

theorem runConditions_putInterlock (s : State) (x : Interlock) : (putInterlock s x).runConditions = s.runConditions := by
  unfold putInterlock; simp only [State.markIf]; split <;> rfl

theorem runConditions_updatePermission (s : State) : (updatePermission s).runConditions = s.runConditions := by
  unfold updatePermission
  dsimp only
  split
  · unfold moveInterlock
    rw [runConditions_of_plant (updateFeeder_plant _) (updateFeeder_core _), runConditions_putInterlock]
  · rw [runConditions_putInterlock]

/-- The interlock once run permission has been formed afresh (R133). -/
theorem interlock_updatePermission (s : State) :
    (updatePermission s).interlock =
      if s.interlock.permission = true ∧ s.runConditions.met = false ∧ (s.interlock.state = .starting ∨ s.interlock.state = .running) then
        { s.interlock with state := .stopping, permission := false, startTimer := none, rundownTimer := some 60000 }
      else { s.interlock with permission := s.runConditions.met } := by
  unfold updatePermission
  dsimp only
  by_cases h : (s.interlock.permission && !s.runConditions.met && s.interlock.runOutput) = true
  · rw [if_pos h]
    simp only [Bool.and_eq_true, Bool.not_eq_true', Interlock.runOutput, Bool.or_eq_true, decide_eq_true_eq] at h
    rw [if_pos ⟨h.1.1, h.1.2, h.2⟩]
    unfold moveInterlock
    rw [interlock_of_plant (updateFeeder_plant _), interlock_putInterlock]
    simp [Interlock.stop, h.1.2]
  · rw [if_neg h, interlock_putInterlock, if_neg]
    intro ⟨a, b, c⟩
    apply h
    simp [a, b, c, Interlock.runOutput]

/-- Run permission formed afresh, as R133 says it. -/
theorem updatePermission_follows (s : State) : RunFollows s (updatePermission s) := by
  unfold RunFollows
  rw [runConditions_updatePermission, interlock_updatePermission]
  refine ⟨?_, fun a b c => if_pos ⟨a, b, c⟩⟩
  split
  · rename_i h; exact h.2.1.symm
  · rfl

/-- The interlock after a change of line mode (R133, R144). -/
theorem setLineMode_follows (s : State) (m : LineMode) (c : Option HoldCause) : RunFollows s (setLineMode s m c) := by
  unfold setLineMode
  dsimp only
  generalize hu : State.markIf _ _ _ = u
  have hi : (syncHolds u).interlock = s.interlock :=
    (interlock_of_plant (syncHolds_plant u)).trans (by rw [← hu]; unfold State.markIf; split <;> rfl)
  have k := updatePermission_follows (syncHolds u)
  unfold RunFollows at k ⊢
  rw [runConditions_of_plant (updateFeeder_plant _) (updateFeeder_core _), interlock_of_plant (updateFeeder_plant _), ← hi]
  exact k

end Sys2Proof.Machine
end

