-- ==== Sys2Proof/Laws/Requests.lean ====
section
/-! SUPPORT. A request as it arrives: its row, the queue, the owner's turn, the answer, the wait and the discard (R174); what its sending leaves waiting (R176); and the end test (R34). -/

namespace Sys2Proof.Machine

/-- Behind requests none of which is untaken, the first untaken entry is the new one. -/
theorem setUntaken_append {q : List Entry} (h : q.find? (fun e => e.stage = .untaken) = none) (m : Byte) (k : Asked) (st : Stage) :
    setUntaken st (q ++ [⟨m, k, .untaken⟩]) = q ++ [⟨m, k, st⟩] := by
  induction q with
  | nil => simp [setUntaken]
  | cons e t ih =>
    simp only [List.find?_cons] at h
    split at h
    · cases h
    · rename_i he
      have : ¬e.stage = .untaken := by simpa using he
      simp [setUntaken, this, ih h]

/-- With no request untaken, the first untaken entry of the queue with a new one behind it is that one. -/
theorem untaken_withEntry {s : State} (h : s.link.untaken = none) (m : Byte) (k : Request) :
    (s.withEntry m k .untaken).link.untaken = some (.known k) := by
  have : s.link.queue.find? (fun e => e.stage = .untaken) = none := by simpa [Link.untaken] using h
  simp [Link.untaken, State.withEntry, List.find?_append, this]

/-- A request that is taken at once: its owner acts on the state with the request queued, and its entry takes the stage the owner gives. -/
theorem hostRequest_taken {s : State} (h : s.takesNow = true) (m : Byte) (k : Request)
    (hk : (s.withEntry m k .untaken).takeable (.known k) = true) :
    hostRequest s m k
      = (runRequest (s.withEntry m k .untaken) k).1.withStage (runRequest (s.withEntry m k .untaken) k).2 := by
  simp only [State.takesNow, Bool.and_eq_true, decide_eq_true_eq, Option.isNone_iff_eq_none] at h
  obtain ⟨⟨⟨-, -⟩, hu⟩, hq⟩ := h
  have hj : joinQueue s m (.known k) = s.withEntry m k .untaken := by
    simp [joinQueue, State.withEntry, Nat.not_le.2 hq]
  have ht := untaken_withEntry hu m k
  simp [hostRequest, hj, hu, Nat.not_le.2 hq, hk, takeAsked, runAsked, State.withStage]

/-- RESTART alone has kind 0x03. -/
theorem kind_ne_restart {k : Request} (hr : k ≠ .restart) : k.kind ≠ 0x03#8 := by
  cases k <;> first | exact absurd rfl hr | (intro h; exact absurd h (by simp [Request.kind]))

/-- A request other than RESTART and those of the custody tables may be taken whenever none waits before it. -/
theorem takeable_plain {s : State} (h : s.takesNow = true) (m : Byte) (k : Request) (hc : k.custodial = false) (hr : k ≠ .restart) :
    (s.withEntry m k .untaken).takeable (.known k) = true := by
  simp only [State.takesNow, Bool.and_eq_true, decide_eq_true_eq] at h
  have hc' : custodialKind k.kind = false := hc
  simp [State.takeable, State.withEntry, Asked.kind, h.1.1.2, hc', kind_ne_restart hr]

/-- A request of the custody tables may be taken once the rebuild has ended. -/
theorem takeable_custody {s : State} (h : s.custodyTakes = true) (m : Byte) (k : Request) (hr : k ≠ .restart) :
    (s.withEntry m k .untaken).takeable (.known k) = true := by
  simp only [State.custodyTakes, State.takesNow, Bool.and_eq_true, decide_eq_true_eq] at h
  simp [State.takeable, State.withEntry, Asked.kind, h.1.1.1.2, h.2, kind_ne_restart hr]

/-- An owner that leaves the request queue alone and answers at once leaves the entry answered behind the requests queued before. -/
theorem withStage_withEntry {s : State} (h : s.takesNow = true) (m : Byte) (k : Request) (st : Stage) :
    (s.withEntry m k .untaken).withStage st = s.withEntry m k st := by
  simp only [State.takesNow, Bool.and_eq_true, decide_eq_true_eq, Option.isNone_iff_eq_none] at h
  have : s.link.queue.find? (fun e => e.stage = .untaken) = none := by simpa [Link.untaken] using h.1.2
  simp [State.withStage, State.withEntry, setUntaken_append this]

/-- `takesNow` with the rebuild ended is `takesNow`. -/
theorem takesNow_of_custodyTakes {s : State} (h : s.custodyTakes = true) : s.takesNow = true := by
  simp only [State.custodyTakes, Bool.and_eq_true] at h; exact h.1

/-- A part that takes a request is out of reset. -/
theorem inReset_of_takesNow {s : State} (h : s.takesNow = true) : s.inReset = false := by
  simp only [State.takesNow, Bool.and_eq_true, Bool.not_eq_true'] at h; exact h.1.1.1

/-- The step of a request that may touch the line or the journal, out of reset. -/
theorem request_out {s : State} (h : s.inReset = false) (m : Byte) (k : Request) :
    request s m k = .next (finish s (hostRequest s m k)) := by simp [request, live, h]

/-- The step of a request that asks nothing of the Journal Writer, out of reset. -/
theorem linkRequest_out {s : State} (h : s.inReset = false) (m : Byte) (k : Request) :
    linkRequest s m k = .next (linkPump (hostRequest s m k)) := by simp [linkRequest, live, h]

/-- A request's row is its arrival; what asks nothing of the Journal Writer ends with the Link Port's next frame. -/
theorem row_exec {s : State} {m : Byte} {r : Request} {c : Instr} (hc : r.row m = some c) :
    exec c s = if r.linkOnly then linkRequest s m r else request s m r := by
  cases r <;> first | (cases hc; rfl) | cases hc

/-- The step of a request's row, out of reset. -/
theorem row_out {s : State} {m : Byte} {r : Request} {c : Instr} (h : s.inReset = false) (hc : r.row m = some c) :
    exec c s = .next (if r.linkOnly then linkPump (hostRequest s m r) else finish s (hostRequest s m r)) := by
  rw [row_exec hc]
  split
  · exact linkRequest_out h m r
  · exact request_out h m r

/-- A request that finds four queued is discarded and counted. -/
theorem hostRequest_full {s : State} (h : 4 ≤ s.link.queue.length) (m : Byte) (r : Request) :
    hostRequest s m r = { s with link := { s.link with discardedRequests := satAdd 255 s.link.discardedRequests 1 } } := by
  simp [hostRequest, joinQueue, h]

/-- A request that may not be taken, or finds an untaken one before it, waits. -/
theorem hostRequest_waits {s : State} (h : s.link.queue.length < 4) (m : Byte) (r : Request)
    (hw : s.link.untaken.isSome = true ∨ (s.withEntry m r .untaken).takeable (.known r) = false) :
    hostRequest s m r = s.withEntry m r .untaken := by
  have hj : joinQueue s m (.known r) = s.withEntry m r .untaken := by simp [joinQueue, State.withEntry, Nat.not_le.2 h]
  cases hu : s.link.untaken with
  | some k => simp [hostRequest, hj, hu]
  | none =>
    have ht := untaken_withEntry hu m r
    have hk : (s.withEntry m r .untaken).takeable (.known r) = false := by simpa [hu] using hw
    simp [hostRequest, hj, hu, Nat.not_le.2 h, hk]

/-- With free space and reserve as they were, no sign has changed. -/
theorem signNotice_same {s t : State} (h : t.reserveLeft = s.reserveLeft) : signNotice s t = t := by simp [signNotice, State.markIf, h]

/-- Of the Link Port alone, the pending classes, may differ where the sign has changed. -/
theorem signNotice_eq (s t : State) : signNotice s t = { t with link := (signNotice s t).link } := by
  unfold signNotice State.markIf; split <;> rfl

/-- With no request untaken, none is taken. -/
theorem takeAll_none {s : State} (h : s.link.untaken = none) (n : Nat) : takeAll n s = s := by cases n <;> simp [takeAll, h]

/-- With the oldest untaken request not to be taken, none is taken. -/
theorem takeAll_waits {s : State} {k : Asked} (h : s.link.untaken = some k) (hk : s.takeable k = false) (n : Nat) : takeAll n s = s := by
  cases n <;> simp [takeAll, h, hk]

/-- The oldest untaken request is taken, and then those behind it. -/
theorem takeAll_takes {s : State} {k : Asked} (h : s.link.untaken = some k) (hk : s.takeable k = true) (n : Nat) :
    takeAll (n + 1) s = takeAll n (signNotice s (takeAsked s k)) := by simp [takeAll, h, hk]

/-- What the taking of one request keeps, the taking of all that may be taken keeps. -/
theorem takeAll_keeps {P : State → Prop} (h : ∀ s k, P s → P (signNotice s (takeAsked s k))) (n : Nat) {s : State} (hs : P s) : P (takeAll n s) := by
  induction n generalizing s with
  | zero => exact hs
  | succ n ih =>
    unfold takeAll
    split
    · exact hs
    · split
      · exact ih (h _ _ hs)
      · exact hs

/-- A notice starts wherever one is due; beside no formed reply nothing is left waiting (R176). -/
theorem sendNotice_sends {s : State} (h : s.link.replyDue = false) : (sendNotice s).link.sends = true := by
  unfold sendNotice
  cases hd : s.link.due with
  | none => simp [Link.sends, h, hd]
  | some c => simp [Link.sends]

/-- The Link Port's next frame leaves nothing waiting beside a free transmitter (R174, R176). -/
theorem linkPump_sends (s : State) : (linkPump s).link.sends = true := by
  unfold linkPump
  split
  · rename_i hb
    simp only [Bool.or_eq_true, decide_eq_true_eq] at hb
    simp only [Link.sends, Bool.or_eq_true, decide_eq_true_eq]
    exact .inl hb
  · cases hq : s.link.queue with
    | nil => exact sendNotice_sends (by simp [Link.replyDue, hq])
    | cons e t => cases he : e.stage with
      | formed r => simp [Link.sends, he]
      | _ => simp only [he]; exact sendNotice_sends (by simp [Link.replyDue, hq, he])

/-- The end of a step leaves nothing waiting beside a free transmitter. -/
theorem finish_sends (s₀ s : State) : (finish s₀ s).link.sends = true := linkPump_sends _

/-- Start-up leaves nothing waiting beside a free transmitter: its first notice is being sent (R169, R176). -/
theorem startUp_sends (s : State) : (startUp s).link.sends = true := finish_sends _ _

/-- The end test succeeds on an average at or below an end voltage within the sample range (R34, R55, log 58). -/
theorem endMet_iff (s : State) (p : Pack) (v : Int) :
    s.endMet p v = true ↔ s.endVoltage p ≤ 100000 ∧ v ≤ (s.endVoltage p : Int) := by simp [State.endMet]

end Sys2Proof.Machine
end

