-- ==== Sys2Proof/WellFormed.lean ====
section
/-! DEFINITION. What a field event may carry: the ranges of the manual that the operand types do not already hold. -/

namespace Sys2Proof

/-- A value a loop frame can carry for some kind of head: 16 bits, signed for HEAT (R67, R69; log 24). -/
def frameValueOk (v : Int) : Bool := decide (-32768 ≤ v ∧ v ≤ 65535)

/-- A value an oxygen sample record can carry (R118). -/
def oxygenValueOk (v : Nat) : Bool := decide (v ≤ 65535)

/-- A command whose operands lie in the ranges the manual gives the records and frames that carry them. -/
def Instr.wellFormed : Instr → Bool
  | .answerReceived _ _ _ v _ => frameValueOk v
  | .reportReceived _ _ _ v _ => frameValueOk v
  | .oxygenSampleArrival _ v _ => oxygenValueOk v
  | _ => true

end Sys2Proof
end

