-- ==== Sys2Proof/Tests/Slice0.lean ====
section
/-! SUPPORT. The model's own tests: the well-formedness smoke, figures worked by hand, one step of some commands, and for every statement with hypotheses states that meet them. -/

namespace Sys2Proof.Tests

set_option Elab.async false

open Sys2Proof Sys2Proof.Machine

/-! ### Small states -/

/-- The state after one command. -/
def after (c : Instr) (s : State) : State :=
  match exec c s with
  | .next t => t
  | .fault _ => s
  | .refused _ => s

/-- The part after the rebuild of a blank array, the notices of start-up sent. -/
def up : State := { State.reset with phase := .running, rebuilt := none, link := Link.initial }

/-- Settings of a class. -/
def aClass : ClassSettings := ⟨3000, 3000, 10, 600, 60⟩
/-- Settings of a bay. -/
def aBay : BaySettings := ⟨0, 1000, 1000, 1200, 400, 600, 300, 10, 3, 60, 600⟩
/-- A lot that is OPEN. -/
def aLot : Lot := ⟨5#32, .opened, 1, 0, 0, 0, 0, 0, 1, 1⟩
/-- A pack in state `st`, in bay `b`. -/
def aPack (st : PackState) (b : Option BayId) : Pack :=
  ⟨7#32, 5#32, 0, 10, 1000, 500, 4000, st, b, 0, false, 0, 0, 2, 1, none, none⟩
/-- The part with one pack in its tables and its class configured. -/
def withPack (p : Pack) : State := { up with packs := [p], lots := [aLot], classes := vput up.classes 0 (some aClass) }
/-- A configured bay with no hold reason. -/
def bayIn (st : BayState) (t : Option Tag) : Bay := { Bay.initial with state := st, pack := t, settings := some aBay, holds := Holds.clear }
/-- The pack IN_BAY in bay 1, the bay in state `st`. -/
def inBay (st : BayState) : State := (withPack (aPack .inBay (some 0))).setBay 0 (bayIn st (some 7#32))
/-- The line in mode `m`. -/
def inMode (m : LineMode) (s : State) : State := { s with line := { s.line with mode := m } }
/-- A conditioned input. -/
def steady (v : Bool) : Input := ⟨v, some v, none⟩
/-- The line with its inputs conditioned and nothing wrong. -/
def allWell (s : State) : State :=
  { s with line := { s.line with inputs := ⟨steady false, steady true, steady true, steady false, steady false⟩ } }
/-- Loop A with one head at address 1. -/
def aHead (k : HeadKind) : Head := ⟨k, 0, false, .normal, 0, 0, false⟩
/-- Loop A in state `st`, with one head. -/
def onLoop (f : Loop → Loop) : State :=
  { up with loopA := f { Loop.initial with
      sending := none, waiting := [], cursor := some 0, heads := vput Loop.initial.heads 0 (some (aHead .spark)) } }
/-- Zone 1 changed. -/
def onZone (f : Zone → Zone) : State := up.setZone 0 (f Zone.initial)
/-- The chamber in state `st`, its control value `v`. -/
def chamber (st : AtmState) (v : Option Nat) : Atmosphere :=
  { Atmosphere.initial with state := st, control := v, sensorFail := v.isNone }
/-- The array busy with `o`. -/
def busy (o : NvOp) : State := { up with writer := { up.writer with running := some o } }
/-- The held events `l`. -/
def holding (l : List PackEvent) (s : State) : State := { s with held := l }
/-- A record. -/
def aRecord : Record := ⟨1, .lotOpen, ⟨0#32, true⟩, 5#32, 5#32, .lot .opened, none, 0, 0, 0, 0, .none⟩
/-- The record buffer holding `n` records. -/
def buffering (n : Nat) (s : State) : State := { s with writer := { s.writer with buffer := List.replicate n ⟨aRecord, none⟩ } }
/-- The line in PRODUCTION with the chamber INERT and settled, nothing wrong, and the interlock in `st`. -/
def running (st : InterlockState) : State :=
  let s := allWell (inMode .production { up with atm := { chamber .inert (some 300) with settled := true } })
  { s with interlock := { s.interlock with state := st, permission := true, startTimer := some 0, rundownTimer := some 0 } }

/-! ### Well-formedness: each check refuses a term -/

theorem test_wellFormed_answer :
    Instr.wellFormed (.answerReceived .a 0 .normal 65535 false) = true
    ∧ Instr.wellFormed (.answerReceived .a 0 .normal 65536 false) = false := by decide
theorem test_wellFormed_report :
    Instr.wellFormed (.reportReceived .a 0 .normal (-32768) false) = true
    ∧ Instr.wellFormed (.reportReceived .a 0 .normal (-32769) false) = false := by decide
theorem test_wellFormed_oxygen :
    Instr.wellFormed (.oxygenSampleArrival .a 65535 .valid) = true
    ∧ Instr.wellFormed (.oxygenSampleArrival .a 65536 .valid) = false := by decide
theorem test_no_row_gives_bits : decodeTableWord 8 0 = none ∧ State.reset.withFetchWord 8 0 = State.reset := ⟨rfl, rfl⟩

/-! ### Figures and one step -/

/-- The check value of CRC-16 with polynomial 0x1021 from 0xffff over the digits 1 to 9. -/
theorem test_crc : crc16 [0x31#8, 0x32#8, 0x33#8, 0x34#8, 0x35#8, 0x36#8, 0x37#8, 0x38#8, 0x39#8] = 0x29b1#16 := by decide +kernel
theorem test_startUp_of_blank : startUp State.reset = State.reset := by decide +kernel
/-- The JOURNAL notice that falls due at the end of the scan is sent as the part starts up, and what the end of the rebuild makes pending
waits behind it (R169, R171, R176). -/
theorem test_startUp_sends_journal :
    let s := after .pinResetRelease (holdReset up .inPinReset)
    let t := after .rebuildComplete s
    s.link.tx = some (.notice Notice.blankJournal) ∧ s.link.noticePending = 0#7
    ∧ t.link.tx = some (.notice Notice.blankJournal) ∧ t.link.noticePending = noticeBit .bay ||| noticeBit .pack
    ∧ (after .transmitComplete t).link.tx = some (.notice (.bay [])) := by decide +kernel
/-- An average that an INVALID channel completed under exponent 0 makes it usable at its fourth valid sample under exponent 3
(R119, R120, log 69). -/
theorem test_average_outlasts_invalid_sample :
    let c := ((Channel.initial.good 0 2090).1.bad 0).1
    let d := (List.range 4).foldl (fun c _ => (c.good 3 400).1) c
    c.average = some 2090 ∧ c.usable = none ∧ (d.valid = true ∧ d.usable = some 2090) := by decide +kernel
theorem test_journalWf_reset : journalWf State.reset.nv.journal = true := by decide
theorem test_water_fill :
    waterFill 6000 [(0, 7104), (1, 1404), (3, 3605), (5, 6019)] = [(1, 1404), (3, 1532), (5, 1532), (0, 1532)] := by decide +kernel
theorem test_average_truncates_to_zero :
    (blockAdd 0 none ⟨-1, 7, 3, 0⟩).2 = some ⟨-1, 7, 3⟩ ∧ (blockAdd 1 (some ⟨2, 1, -2, 0, 0⟩) ⟨-1, 1, 0, 0⟩).2 = some ⟨-1, 0, 0⟩ := by
  decide +kernel
theorem test_step_takes_front :
    step { up with pending := [.clockSecond, .supplyNormal 2400] } = exec .clockSecond { up with pending := [.supplyNormal 2400] } := by rfl
theorem test_read_status_answers : (after (.readStatus 9#8) up).link.tx.isSome = true := by decide +kernel
theorem test_set_clock_frame :
    ((requestFrame 4#8 (.setClock 0x01020304#32)).foldl receiveByte State.reset).link.queue
      = [⟨4#8, .known (.setClock 0x01020304#32), .untaken⟩] := by decide +kernel
/-- A READ_STATUS byte by byte is taken, its reply formed, in the step of its last byte; two requests that wait for the rebuild are
taken in the step that ends it (R174, log 1). -/
theorem test_taken_in_step :
    ((requestFrame 4#8 .readStatus).foldl (fun s b => after (.hostByteReceived b) s) up).link.queue
      = []
    ∧ ((requestFrame 4#8 .readStatus).foldl (fun s b => after (.hostByteReceived b) s) up).link.tx
      = some (.reply 0x81#8 4#8 ⟨.ok, .status (statusView up)⟩)
    ∧ (let s := after .rebuildComplete (after (.readQueue 2#8) (after (.readQueue 1#8) State.reset));
      s.link.queue.map Entry.stage = [.formed ⟨.ok, .queue [] none⟩, .formed ⟨.ok, .queue [] none⟩]) := by decide +kernel
/-- An ADMIT and a REMOVE taken in one step change the sign of R159 there and back, and JOURNAL is pending (R159, R174). -/
theorem test_sign_there_and_back :
    let s : State := { inMode .production (withPack { aPack .intake none with charge := 1 }) with
      writer := { up.writer with used := 1, mark := 1 }
      nv := { up.nv with journal := [(16, .good aRecord), (32, .good aRecord)] ++
        (List.range 253).map (fun g => (16 * (g + 3), .good { aRecord with seq := 2 })) }
      link := { up.link with noticePending := 0#7 } }
    let q := (s.withEntry 1#8 (.admitPack ⟨9#32, 1#8, 10#8, 1000#16, 500#16, 4000#32⟩) .untaken).withEntry 2#8 (.remove 7#32) .untaken
    let t := takeWaiting q
    q.reserveLeft = (takeAll 2 q).reserveLeft ∧ q.reserveLeft ≠ (takeAll 1 q).reserveLeft ∧ t.link.noticePending.getLsbD 6 = true
    ∧ t.packs.map Pack.tag = [9#32] := by decide +kernel
/-- A bay whose trip's quarantine event is held waits as it stands, and is LOCKED when it is taken (R37, R155, log 14). -/
theorem test_trip_quarantine_held :
    let s := holding [.trip 0 7#32 .packThermal, .expose 8#32 1#16] (inBay .discharging)
    let t := after .heldPackEventTaken s
    let u := after .heldPackEventTaken (after .heldPackEventTaken t)
    (t.bay 0).state = .discharging ∧ t.held = [.expose 8#32 1#16, .bayQuarantine 0 7#32 .packThermal] ∧ t.awaiting 0 = true
    ∧ u.held = [] ∧ (u.bay 0).state = .locked := by decide +kernel
theorem test_admit :
    ((after (.admitPack 1#8 ⟨9#32, 1#8, 10#8, 1000#16, 500#16, 4000#32⟩) (inMode .production (withPack (aPack .intake none)))).pack
      9#32).map (fun p => (p.state, p.charge)) = some (.intake, 1) := by decide +kernel
theorem test_place : ((after (.place 1#8 7#32 1#8) (inMode .production ((withPack (aPack .intake none)).setBay 0 (bayIn .empty none)))).bay
    0).state = .placed := by decide +kernel
theorem test_estop_safe_hold :
    (after (.inputConditioned .estop) { up with line := { up.line with inputs := { up.line.inputs with estop := ⟨true, none, some 0⟩ } }
      }).line.mode = .safeHold := by decide +kernel
theorem test_overcurrent_trips :
    ((after (.baySampleArrival 0 4000 1201 250 250 .valid) (inMode .production (inBay .discharging))).bay 0).state = .tripped := by
  decide +kernel
theorem test_flame_alarm_alone :
    ((after (.reportReceived .a 0 .alarm 5 false)
      { onLoop (fun x => { x with state := .receiving }) with
        loopA := { (onLoop id).loopA with state := .receiving, heads := vput Loop.initial.heads 0 (some (aHead .flame)) } }).zone 0).main
      = .alarm := by decide +kernel
theorem test_power_reset_then_release :
    (after (.powerResetRelease 1700) (after .powerReset up)).phase = .starting
    ∧ (after (.powerResetRelease 1699) (after .powerReset up)).phase = .inPowerReset := by decide +kernel

/-! ### States that meet the hypotheses of the statements, clause by clause -/

theorem witness_StepIdles :
    (State.reset.pending = [] ∧ State.reset.inReset = false) ∧ (State.reset.bay 0).state ≠ .discharging
    ∧ ((inBay .discharging).pending = [] ∧ (inBay .discharging).inReset = false ∧ ((inBay .discharging).bay 0).state = .discharging
      ∧ (inBay .discharging).awaiting 0 = false)
    ∧ (holdReset up .inPinReset).pending = [] ∧ (holdReset up .inPinReset).inReset = true
    ∧ (holdReset up .inPowerReset).inReset = true := by decide +kernel

/-- The part with its Journal Writer changed. -/
def writing (f : Writer → Writer) : State := { up with writer := f up.writer }
/-- An open part. -/
def aPart : IncidentPart := .opened (openSnapshot up 0 1#16)
/-- A close part of incident `n`. -/
def closePart (n : BitVec 16) : IncidentPart := .closed ⟨n, ⟨0#32, true⟩, 0, Vector.replicate 12 false, 0, 0, 0⟩

theorem witness_EndOfStep_running :
    let e (g : Nat) (n u : Bool) (f : Writer → Writer) : State :=
      writing fun w => f { w with running := some (.erase (.journal g) n u), buffer := [⟨aRecord, some 5⟩] }
    let bare (f : Writer → Writer) : State := writing fun w => f { w with running := some (.erase (.journal 3) false false) }
    (busy .incidentProgram).writer.running = some .incidentProgram
    ∧ (e 3 true false id).writer.running = some (.erase (.journal 3) true false)
    ∧ (e 3 false true id).writer.running = some (.erase (.journal 3) false true)
    ∧ ((e 0 false false id).writer.running = some (.erase (.journal 0) false false) ∧ (e 0 false false id).writer.needs (.journal 0) = true)
    ∧ (let s := e 3 false false id;
      s.writer.needs (.journal 3) = false ∧ s.writer.higherWaits = true ∧ s.writer.suspended = none ∧ s.commandFlush = false)
    ∧ ((bare id).writer.needs (.journal 3) = false ∧ (bare id).writer.higherWaits = false)
    ∧ ((bare fun w => { w with suspended := some (.journal 4) }).writer.suspended ≠ none) := by decide +kernel

theorem witness_EndOfStep_free :
    let slotted (f : Writer → Writer) : State := writing fun w => f { w with buffer := [⟨aRecord, some 5⟩] }
    let low (s : State) : Bool := s.writer.running.isNone && s.writer.headSlot.isNone && s.writer.incidents.isEmpty && !s.commandFlush
    let reads := writing fun w => { w with reads := [.incident 1#16] }
    let pending := writing fun w => { w with suspended := some (.journal 3) }
    let sections (l : List SettingsOp) := writing fun w => { w with settingsOps := l }
    let ahead := writing fun w => { w with aheads := [.incident 15] }
    ((slotted id).writer.running = none ∧ (slotted id).writer.headSlot = some 5 ∧ (slotted id).writer.incidents = []
      ∧ (slotted fun w => { w with suspended := some (.journal 0) }).writer.suspended = some (.journal (segOf 5))
      ∧ EraseTarget.journal (segOf 5) ∈ (slotted fun w => { w with aheads := [.journal 0] }).writer.aheads
      ∧ (journalAt (slotted id).nv.journal 5).isNone = true)
    ∧ (let s := { slotted fun w => { w with incidents := [aPart] } with line := { up.line with monitor := .warning } };
      s.writer.headSlot = some 5 ∧ s.flushing = true)
    ∧ (let s := slotted fun w => { w with incidents := [aPart] };
      s.writer.incidents = [aPart] ∧ s.flushing = false)
    ∧ (writing fun w => { w with incidents := [closePart 16#16] }).writer.headSlot = none
    ∧ (let s := { up with link := { up.link with restart := .flushing } };
      s.writer.running = none ∧ s.writer.headSlot = none ∧ s.writer.incidents = [] ∧ s.commandFlush = true)
    ∧ (low reads = true ∧ reads.writer.reads = [.incident 1#16])
    ∧ (low pending = true ∧ pending.writer.reads = [] ∧ pending.writer.suspended = some (.journal 3))
    ∧ (low (sections [.erase .bay]) = true ∧ (sections [.erase .bay]).writer.settingsDue = some (.erase .bay))
    ∧ ((sections [.erase .bay, .program .bay]).writer.settingsDue = some (.program .bay))
    ∧ (low ahead = true ∧ ahead.writer.settingsOps = [] ∧ ahead.writer.aheads = [.incident 15])
    ∧ (low up = true ∧ up.writer.aheads = [])
    ∧ (headRun 0 [⟨aRecord, some 15⟩, ⟨aRecord, some 16⟩] = 1 ∧ headRun 1 [⟨aRecord, some 15⟩] = 0) := by decide +kernel

theorem witness_EndOfStep_sends :
    let pend (c : BitVec 7) : State := { up with link := { up.link with noticePending := c } }
    (after (.readStatus 1#8) up).link.tx.isSome = true
    ∧ (let s := up.withEntry 1#8 .readFeed (.formed ⟨.ok, .none⟩);
      s.link.tx = none ∧ s.link.restart ≠ .flushing ∧ s.link.queue = [⟨1#8, .known .readFeed, .formed ⟨.ok, .none⟩⟩])
    ∧ ((pend 0x06#7).link.due = some .bay ∧ noticeBit .zone < noticeBit .bay ∧ (pend 0x40#7).link.due = some .journal)
    ∧ ((pend 0#7).link.due = none ∧ (pend 0#7).link.queue.head? = none)
    ∧ (up.withEntry 1#8 .readFeed .untaken).link.queue.head? = some ⟨1#8, .known .readFeed, .untaken⟩ := by decide +kernel

theorem witness_kept_forms : ∃ s t : State, (s.storageWf = true ∧ s.runWf = true ∧ s.valveWf = true ∧ s.grantWf = true) ∧ step s = .next t :=
  ⟨{ State.reset with pending := [.clockSecond] }, _, by decide +kernel, rfl⟩

theorem witness_FrameQueuesRequest : State.reset.link.rx = .hunting := by decide

/-- The widths of an incident's parts, whatever its cause. -/
theorem test_incident_widths :
    let o := openSnapshot up 0 1#16
    o.bytes.length = 94 ∧ ({ o with cause := some (.head .b 31 .gas .fault (-5)), queueHead := some 7#32, control := some 450 } : OpenPart).bytes.length = 94
    ∧ ({ o with cause := some (.spark none 65535 255) } : OpenPart).bytes.length = 94
    ∧ ({ o with cause := some (.bayThermal 7 2000) } : OpenPart).bytes.length = 94
    ∧ (OutFrame.notice (noticeContent up .journal)).bytes.take 4 = [0xc3#8, 19#8, 0xe6#8, 0x00#8] := by decide +kernel

theorem witness_BudgetAndFigures :
    let s := inBay .discharging
    let j := s.setBay 0 { bayIn .discharging (some 7#32) with participant := true, averages := some ⟨4000, 0, 0⟩ }
    (([((0 : BayId), 5), (1, 7)].map Prod.snd).sum ≤ 12) ∧ ((0 : BayId), 5) ∈ waterFill 11 [(0, 5), (1, 7)]
    ∧ ¬([((0 : BayId), 5), (1, 7)].map Prod.snd).sum ≤ 11
    ∧ ((400 : Int) ≤ aBay.derate ∧ aBay.derate < 401 ∧ (599 : Int) < aBay.tripTemp ∧ aBay.tripTemp ≤ 600 ∧ aBay.derate < 600)
    ∧ (100 ≤ min 100 (1 * 10000 / (1 : Int).toNat) ∧ min 99 (1 * 10000 / (1 : Int).toNat) < 100)
    ∧ (s.classes[(aPack .inBay (some 0)).cls] = some aClass ∧ (s.bay 0).settings = some aBay ∧ s.bayPack 0 = some (aPack .inBay (some 0)))
    ∧ ((0 : BayId), 0) ∈ waterFill j.effective j.participants ∧ (j.bay 1).participant = false
    ∧ (let k := j.setBay 0 { j.bay 0 with request := 500, grant := 1 };
      ((regrant k).bay 0).grant = 500 ∧ (k.bay 0).grant ≠ 500)
    ∧ ((regrant j).bay 0).grant = (j.bay 0).grant := by decide +kernel

theorem witness_ZoneConditions :
    (let x : Zone := { Zone.initial with thermal := true };
      x.main = .normal ∧ x.alarmHolds = false ∧ x.preHolds = true)
    ∧ (Zone.initial.main = .normal ∧ Zone.initial.alarmHolds = false ∧ Zone.initial.preHolds = false)
    ∧ (let x : Zone := { Zone.initial with sparks := 8 };
      (onZone fun _ => x).zone 0 = x ∧ x.alarmHolds = true ∧ x.main = .normal)
    ∧ (let x : Zone := { Zone.initial with sparks := 7, main := .preAlarm };
      x.main = .preAlarm ∧ x.alarmHolds = false ∧ x.preHolds = true)
    ∧ (let x : Zone := { Zone.initial with sparks := 1, main := .preAlarm };
      x.main = .preAlarm ∧ x.alarmHolds = false ∧ x.preHolds = false)
    ∧ ({ Zone.initial with main := .alarm } : Zone).main = .alarm ∧ ({ Zone.initial with main := .released } : Zone).main = .released
    ∧ up.incident.progress = none
    ∧ ({ up with incident := ⟨1#16, some ⟨0, Vector.replicate 12 false, 0, 65535, 65535⟩⟩ } : State).incident.progress.isSome = true
    ∧ (located (inBay .held) 0 (aPack .inBay (some 0)) = true ∧ located (inBay .held) 1 (aPack .inBay (some 0)) = false
      ∧ located (onZone fun x => { x with settings := { x.settings with role := .staging } }) 0 (aPack .staged none) = true)
    ∧ (let s := onLoop fun x => { x with heads := vput x.heads 31 (some { aHead .gas with level := .missing, isolated := true }) };
      s.headCounts 0 = ⟨1, 0, 0, 0, 0, 1⟩ ∧ (s.zone 0).fault = s.zoneFault 0)
    ∧ (let s := onLoop fun x => { x with state := .short };
      (s.zone 0).fault ≠ s.zoneFault 0)
    ∧ (let b := (inBay .held).setBay 7 { bayIn .held none with overLimit := true };
      b.zoneThermal 0 = true ∧ b.thermalBay 0 = some 7 ∧ (b.bay 0).overLimit = false ∧ (up.bay 0).settings = none) := by
  decide +kernel

/-- The alarm causes: a head at ALARM with and without the fault attribute set by another, a bay over its limit, and no head at ALARM. -/
theorem witness_ZoneConditions_cause :
    let hot (h : Head) : Head := { h with level := .alarm }
    let s := onLoop fun x => { x with
      heads := vput (vput x.heads 0 (some (hot (aHead .spark)))) 31 (some { aHead .gas with level := .missing }) }
    let f (c : Bool) : State := s.setZone 0 { Zone.initial with counts := ⟨2, 0, 1, 0, 1, 0⟩, fault := c }
    let b := (inBay .held).setBay 0 { (inBay .held).bay 0 with overLimit := true, lastValid := some ⟨0, 0, 0, 601⟩ }
    (s.head .a 0 = some (hot (aHead .spark)) ∧ (hot (aHead .spark)).level ≠ .missing ∧ (hot (aHead .spark)).level ≠ .fault)
    ∧ (s.head .a 31 = some { aHead .gas with level := .missing } ∧ (hot (aHead .spark)).zone = 0 ∧ (hot (aHead .spark)).isolated = false)
    ∧ (∀ a, (0 : HeadAddr) ≤ a) ∧ (∀ a : HeadAddr, s.head .b a = none)
    ∧ alarmCause s 0 (.head .a 31) true = some (.head .a 0 .spark .alarm 0)
    ∧ ((b.bay 0).overLimit = true ∧ aBay.zone = 0 ∧ alarmCause b 0 .thermal false = some (.bayThermal 0 601))
    ∧ (let x := (f true).zone 0;
      x.coincidence = false ∧ 1 ≤ x.counts.alarm)
    ∧ (let x := (f false).zone 0;
      ¬1 ≤ x.counts.flameAlarm ∧ x.coincidence = true ∧ ¬2 ≤ x.counts.alarm) := by decide +kernel

/-- CONFIG_BAY with every setting at a limit and the dependent limits met. -/
def bayArgs (bay zone : Byte) : BayArgs := ⟨bay, zone, 100#16, 100#16, 101#16, 0#16, 10#16, 0xff9c#16, 1#16, 7#8, 10#16, 600#32⟩

theorem witness_SettingsInRange :
    bayClamped (baySent (bayArgs 1#8 1#8) 0) = baySent (bayArgs 1#8 1#8) 0
    ∧ (baySent (bayArgs 1#8 1#8) 0).currentMax < (baySent (bayArgs 1#8 1#8) 0).tripCurrent
    ∧ (baySent (bayArgs 1#8 1#8) 0).derate < (baySent (bayArgs 1#8 1#8) 0).tripTemp
    ∧ (baySent (bayArgs 1#8 1#8) 0).restartTemp < (baySent (bayArgs 1#8 1#8) 0).derate
    ∧ (let v := bayApplied { bayArgs 1#8 1#8 with tripCurrent := 100#16, tripTemp := 0#16, restartTemp := 0#16 } 0;
      v.tripCurrent = 101 ∧ v.tripTemp = 10 ∧ v.restartTemp = -50)
    ∧ (let v := atmApplied ⟨100, 51, 200, 5, 0, 60, 0, 10, 0, 0⟩;
      v.hysteresis = 50 ∧ v.breach = 200)
    ∧ (atmApplied ⟨1500, 10, 1500, 5, 0, 60, 0, 10, 0, 0⟩).breach = 1600 := by decide +kernel

theorem witness_ReadsAnswered :
    up.takesNow = true ∧ sectionOf 1#8 = some .cls ∧ sectionOf 9#8 = some .exported ∧ bayOf 1#8 = some 0 ∧ bayOf 8#8 = some 7
    ∧ zoneOf 1#8 = some 0 ∧ zoneOf 12#8 = some 11 ∧ loopOf 1#8 = some .a ∧ loopOf 2#8 = some .b ∧ addrOf 1#8 = some 0
    ∧ addrOf 32#8 = some 31
    ∧ sectionOf 0#8 = none ∧ sectionOf 10#8 = none ∧ bayOf 0#8 = none ∧ bayOf 9#8 = none ∧ zoneOf 0#8 = none ∧ zoneOf 13#8 = none
    ∧ loopOf 0#8 = none ∧ loopOf 3#8 = none ∧ addrOf 0#8 = none ∧ addrOf 33#8 = none := by decide +kernel

theorem witness_CustodyReads :
    (withPack (aPack .intake none)).custodyTakes = true ∧ (withPack (aPack .intake none)).pack 7#32 = some (aPack .intake none)
    ∧ (withPack (aPack .intake none)).pack 8#32 = none ∧ (withPack (aPack .intake none)).lot 5#32 = some aLot
    ∧ (withPack (aPack .intake none)).lot 6#32 = none := by decide +kernel

theorem witness_LineClock : up.takesNow = true ∧ up.inReset = false := by decide

theorem witness_RestartTaken :
    (up.takesNow = true ∧ up.link.replying = false ∧ up.link.queue = [] ∧ up.line.mode = .standby)
    ∧ ((inMode .production up).takesNow = true ∧ (inMode .production up).link.replying = false ∧ (inMode .production up).link.queue = []
      ∧ (inMode .production up).line.mode ≠ .standby ∧ (inMode .production up).line.mode ≠ .safeHold)
    ∧ ((after (.readStatus 1#8) up).takesNow = true ∧ (after (.readStatus 1#8) up).link.replying = true)
    ∧ ((after (.restart 1#8) up).link.tx = some (.reply 0x83#8 1#8 ⟨.ok, .none⟩) ∧ (after (.restart 1#8) up).link.restart = .accepted)
    ∧ ((after (.readStatus 1#8) up).link.tx.isSome = true ∧ (after (.readStatus 1#8) up).link.restart ≠ .accepted)
    ∧ (let s := after .transmitComplete (after (.restart 1#8) up);
      s.inReset = false ∧ s.link.restart = .flushing ∧ s.writer.incidents = [] ∧ s.writer.buffer = [] ∧ s.writer.running = none)
    ∧ (let w (s : State) : State := after (.restart 2#8) (after (.readStatus 1#8) s);
      (w up).link.tx = some (.reply 0x81#8 1#8 ⟨.ok, .status (statusView up)⟩) ∧ (w up).link.restart = .none
      ∧ (w up).link.queue = [⟨2#8, .known .restart, .untaken⟩] ∧ (w up).line.mode = .standby
      ∧ (w (inMode .production up)).link.queue = [⟨2#8, .known .restart, .untaken⟩]
      ∧ (after .transmitComplete (w up)).link.tx = some (.reply 0x83#8 2#8 ⟨.ok, .none⟩)
      ∧ (after .transmitComplete (w (inMode .production up))).link.tx = some (.reply 0x83#8 2#8 ⟨.wrongMode, .none⟩)) := by
  decide +kernel

theorem witness_SetModeTaken :
    up.takesNow = true ∧ modeOf 0#8 = none ∧ modeOf 6#8 = none ∧ modeOf 1#8 = some .standby ∧ modeOf 5#8 = some .maintenance
    ∧ (modeOf 4#8 = some .safeHold ∧ modeRow up.line.mode .safeHold = false)
    ∧ (modeOf 2#8 = some .production ∧ modeRow up.line.mode .production = true ∧ up.modeCondition .production = false)
    ∧ (let s := { up with interlock := { up.interlock with state := .running } };
      s.takesNow = true ∧ modeRow s.line.mode .maintenance = true ∧ s.modeCondition .maintenance = false)
    ∧ (modeRow up.line.mode .maintenance = true ∧ up.modeCondition .maintenance = true)
    ∧ (let s := inMode .production up;
      s.takesNow = true ∧ modeRow s.line.mode .drain = true ∧ s.modeCondition .drain = true ∧ s.packs = [])
    ∧ (let s := running .running;
      let t := after (.setMode 1#8 1#8) s;
      s.takesNow = true ∧ modeRow s.line.mode .standby = true ∧ s.modeCondition .standby = true ∧ s.interlock.permission = true
      ∧ s.interlock.state = .running ∧ t.runConditions.met = false ∧ t.interlock.state = .stopping
      ∧ t.interlock.rundownTimer = some 60000 ∧ t.interlock.startTimer = none)
    ∧ (let s := running .starting;
      let t := after (.setMode 1#8 3#8) { s with packs := [aPack .intake none], lots := [aLot] };
      s.interlock.state = .starting ∧ t.line.mode = .drain ∧ t.runConditions.met = true ∧ t.interlock.state = .starting) := by
  decide +kernel

theorem witness_ResumeTaken :
    (up.takesNow = true ∧ up.line.mode ≠ .safeHold)
    ∧ ((inMode .safeHold up).line.mode = .safeHold ∧ (inMode .safeHold up).resumeConditions.met = false)
    ∧ (let s := allWell (inMode .safeHold up);
      s.takesNow = true ∧ s.line.mode = .safeHold ∧ s.estopActive = false ∧ s.doorClosed = true ∧ s.effect.lineHold = false
      ∧ s.line.monitor = .normal) := by decide +kernel

theorem witness_SubscribeTaken :
    up.takesNow = true ∧ (0x80#8 : Byte).getLsbD 7 = true
    ∧ ((0x79#8 : Byte).getLsbD 7 = false ∧ up.link.subscribed.getLsbD 1 = true ∧ ((0x79#8 : Byte).setWidth 7).getLsbD 1 = false
      ∧ up.link.subscribed.getLsbD 2 = true ∧ ((0x79#8 : Byte).setWidth 7).getLsbD 2 = false)
    ∧ (let s := { up with link := { up.link with subscribed := 0#7 } };
      s.takesNow = true ∧ s.link.subscribed.getLsbD 1 = false ∧ s.link.subscribed.getLsbD 2 = false
      ∧ ((0x7f#8 : Byte).setWidth 7).getLsbD 1 = true ∧ ((0x7f#8 : Byte).setWidth 7).getLsbD 2 = true) := by decide +kernel

theorem witness_PlantConfigured :
    up.takesNow = true ∧ up.atm.state = .air
    ∧ ({ up with atm := chamber .fault none }.takesNow = true ∧ ({ up with atm := chamber .fault none } : State).atm.state ≠ .air)
    ∧ (let f := (feedApplied 5#8 1#8);
      monitorAfter f.step up.line.supply up.line.monitor = up.line.monitor) := by decide +kernel

theorem witness_ClassAndBudgetConfigured :
    let s := inBay .discharging
    let j (r : Nat) := s.setBay 0 { s.bay 0 with participant := true, request := r, averages := some ⟨4000, 0, 0⟩ }
    let t : State := { j 0 with classes := vput s.classes 0 (some aClass) }
    (up.takesNow = true ∧ classOf 0#8 = none ∧ classOf 9#8 = none ∧ classOf 1#8 = some 0 ∧ classOf 8#8 = some 7 ∧ up.grantWf = true)
    ∧ ((j 0).takesNow = true ∧ ((j 0).bay 0).participant = true ∧ (j 0).bayPack 0 = some (aPack .inBay (some 0))
      ∧ (aPack .inBay (some 0)).cls = 0 ∧ (formRequest t (aPack .inBay (some 0)) ((j 0).bay 0)).request = 400
      ∧ ((j 0).bay 0).request ≠ 400 ∧ ((j 400).bay 0).request = 400)
    ∧ ((s.bay 0).participant = false ∧ (j 0).bayPack 1 = none)
    ∧ (budgetApplied 24000#16 3#8).watts = 24000 ∧ (budgetApplied 23999#16 3#8).watts = 23999 ∧ up.effective = 24000 := by decide +kernel

theorem witness_BayConfigured :
    bayOf (bayArgs 9#8 1#8).bay = none ∧ zoneOf (bayArgs 1#8 13#8).zone = none
    ∧ (bayOf (bayArgs 1#8 12#8).bay = some 0 ∧ zoneOf (bayArgs 1#8 12#8).zone = some 11)
    ∧ ((inBay .held).takesNow = true ∧ ((inBay .held).bay 0).state ≠ .empty ∧ ((inBay .held).bay 0).state ≠ .locked
      ∧ ¬(((inBay .held).bay 0).state = .placed ∧ ((inBay .held).bay 0).holds.restart = true))
    ∧ (up.takesNow = true ∧ (up.bay 0).state = .empty) ∧ ((inBay .locked).bay 0).state = .locked
    ∧ (let s := up.setBay 0 { bayIn .placed (some 7#32) with holds := { Holds.clear with restart := true } };
      s.takesNow = true ∧ (s.bay 0).state = .placed ∧ (s.bay 0).holds.restart = true) := by decide +kernel

/-- CONFIG_ZONE of zone 1. -/
def zoneArgs (zone role coincidence quench : Byte) : ZoneArgs :=
  ⟨zone, coincidence, 30#8, 60#8, 1000#16, 2#16, 8#16, 3#8, quench, 500#16, role⟩

theorem witness_ZoneConfigured :
    zoneOf (zoneArgs 13#8 0#8 0#8 0#8).zone = none ∧ roleOf (zoneArgs 1#8 3#8 0#8 0#8).role = none
    ∧ flagOf (zoneArgs 1#8 0#8 2#8 0#8).coincidence = none ∧ flagOf (zoneArgs 1#8 0#8 0#8 2#8).quenchEnable = none
    ∧ (zoneOf (zoneArgs 1#8 2#8 1#8 1#8).zone = some 0 ∧ roleOf (zoneArgs 1#8 2#8 1#8 1#8).role = some .infeed
      ∧ flagOf (zoneArgs 1#8 2#8 1#8 1#8).coincidence = some true ∧ flagOf (zoneArgs 1#8 2#8 1#8 0#8).quenchEnable = some false)
    ∧ (up.takesNow = true ∧ (up.zone 0).main = .normal ∧ ∀ w, w ≠ (0 : ZoneId) → (up.zone w).settings.role ≠ .infeed)
    ∧ (let s := onZone fun x => { x with main := .preAlarm };
      s.takesNow = true ∧ (s.zone 0).main ≠ .normal)
    ∧ (let s := up.setZone 1 { Zone.initial with settings := { ZoneSettings.default with role := .infeed } };
      s.takesNow = true ∧ (s.zone 0).main = .normal ∧ ∃ w, w ≠ (0 : ZoneId) ∧ (s.zone w).settings.role = .infeed) := by decide +kernel

theorem witness_ActionConfigured :
    let on : Actions := ⟨true, true, true, true, true⟩
    let s : State := onZone fun x => { x with main := .alarm, fault := true }
    let hold : State := { s with cells := vput s.cells 0 { s.cells[(0 : ZoneId)] with alarm := ⟨on, 0⟩ }, effect := effectOf up }
    up.takesNow = true ∧ zoneOf 13#8 = none ∧ columnOf 5#8 = none ∧ actionsOf 32#8 = none ∧ zoneOf 12#8 = some 11
    ∧ columnOf 4#8 = some .fault ∧ actionsOf 31#8 = some on ∧ effectOf up = up.effect
    ∧ (hold.takesNow = true ∧ hold.grantWf = true ∧ (effectOf hold).inertBoost ≠ hold.effect.inertBoost ∧ (effectOf hold).lineHold = true
      ∧ hold.effect.lineHold = false ∧ hold.line.mode ≠ .safeHold ∧ (effectOf hold).pct = 0)
    ∧ (s.cells[(0 : ZoneId)].alarm ∈ s.activeCells 0 ∧ s.cells[(0 : ZoneId)].fault ∈ s.activeCells 0
      ∧ s.cells[(0 : ZoneId)].preAlarm ∈ (onZone fun x => { x with main := .preAlarm }).activeCells 0
      ∧ s.cells[(0 : ZoneId)].released ∈ (onZone fun x => { x with main := .released }).activeCells 0) := by decide +kernel

theorem witness_HeadConfigured :
    up.takesNow = true ∧ loopOf 1#8 = some .a ∧ addrOf 32#8 = some 31 ∧ flagOf 0#8 = some false ∧ flagOf 1#8 = some true
    ∧ kindOf 4#8 = some .gas ∧ zoneOf 12#8 = some 11 ∧ (up.head .a 31).map Head.zone = none ∧ (up.zone 11).main = .normal
    ∧ loopOf 3#8 = none ∧ addrOf 33#8 = none ∧ flagOf 2#8 = none ∧ kindOf 5#8 = none ∧ zoneOf 13#8 = none
    ∧ (let s := onZone fun x => { x with main := .alarm };
      s.takesNow = true ∧ ∃ y, (some (⟨.heat, 0⟩ : Enrollment)).map Enrollment.zone = some y ∧ (s.zone y).main ≠ .normal)
    ∧ ((onLoop id).takesNow = true ∧ (onLoop id).head .a 0 = some (aHead .spark) ∧ ((onLoop id).zone (aHead .spark).zone).main = .normal
      ∧ addrOf 1#8 = some 0) := by
  decide +kernel

theorem witness_LotRequestsTaken :
    let s := withPack (aPack .intake none)
    let full : State := { up with lots := List.replicate 4 { aLot with state := .closing } }
    let lots (n : Nat) : State := { up with lots := List.replicate n { aLot with state := .closing, written := 2 } }
    (s.custodyTakes = true ∧ (s.lot 5#32).isSome = true) ∧ (s.lot 6#32 = none ∧ s.openLot.isSome = true)
    ∧ (full.custodyTakes = true ∧ full.lot 6#32 = none ∧ full.openLot = none ∧ 4 ≤ full.lots.length)
    ∧ (let t := { lots 3 with writer := { up.writer with used := 16, mark := 0, current := 0, buffer := [] },
                              nv := { up.nv with journal := (List.range 256).map (fun g => (16 * g, .good { aRecord with seq := 1 })) } };
      t.custodyTakes = true ∧ t.lot 6#32 = none ∧ t.openLot = none ∧ t.lots.length < 4 ∧ t.freeSpace < t.reserve + 3)
    ∧ ((buffering 49 (lots 3)).custodyTakes = true ∧ (buffering 49 (lots 3)).lot 6#32 = none ∧ (buffering 49 (lots 3)).openLot = none
      ∧ (lots 3).lots.length < 4 ∧ (buffering 49 (lots 3)).reserve + 3 ≤ (buffering 49 (lots 3)).freeSpace
      ∧ 48 < (buffering 49 (lots 3)).writer.buffer.length)
    ∧ ((buffering 48 (lots 3)).writer.buffer.length ≤ 48)
    ∧ (s.lot 5#32 = some aLot ∧ aLot.state ≠ .closing ∧ s.writer.buffer.length ≤ 48 ∧ aLot.admitted - aLot.fed - aLot.removed ≠ 0)
    ∧ ((buffering 49 s).custodyTakes = true ∧ (buffering 49 s).lot 5#32 = some aLot ∧ 48 < (buffering 49 s).writer.buffer.length)
    ∧ (let t := { up with lots := [{ aLot with admitted := 0 }] };
      t.custodyTakes = true ∧ t.lot 5#32 = some { aLot with admitted := 0 })
    ∧ (full.lot 5#32 = some { aLot with state := .closing }) := by decide +kernel

/-- ADMIT of tag 9 in class 1, at the lower limits. -/
def admitArgs : AdmitArgs := ⟨9#32, 1#8, 1#8, 1#16, 1#16, 100000#32⟩

theorem witness_PackAdmitted :
    let s := inMode .production (withPack (aPack .intake none))
    let many : State := { s with packs := List.replicate 48 (aPack .intake none) }
    (s.custodyTakes = true ∧ classOf admitArgs.cls = some 0 ∧ admitClass admitArgs = some 0 ∧ s.openLot = some aLot
      ∧ (s.classes[(0 : ClassId)]).isSome = true ∧ s.pack admitArgs.tag = none ∧ s.packs.length < 48 ∧ s.reserve + 16 ≤ s.freeSpace
      ∧ s.writer.buffer.length ≤ 48 ∧ s.line.mode ≠ .drain ∧ s.line.mode ≠ .safeHold)
    ∧ (inMode .drain s).line.mode = .drain ∧ (inMode .safeHold s).line.mode = .safeHold
    ∧ ({ s with lots := [] } : State).openLot = none ∧ up.classes[(0 : ClassId)] = none
    ∧ (s.pack 7#32).isSome = true ∧ (48 ≤ many.packs.length ∧ many.pack 9#32 = none)
    ∧ (let t := { s with writer := { s.writer with used := 16 }, nv := { up.nv with journal := (List.range 256).map (fun g =>
          (16 * g, .good aRecord)) } };
      t.custodyTakes = true ∧ t.pack 9#32 = none ∧ t.freeSpace < t.reserve + 16)
    ∧ (let t := buffering 49 s;
      t.custodyTakes = true ∧ t.packs.length < 48 ∧ t.reserve + 16 ≤ t.freeSpace ∧ 48 < t.writer.buffer.length)
    ∧ (classOf 9#8 = none ∧ 240 < (241#8 : Byte).toNat ∧ 10000 < (10001#16 : BitVec 16).toNat ∧ 20000 < (20001#16 : BitVec 16).toNat
      ∧ 100000 < (100001#32 : BitVec 32).toNat) := by decide +kernel

theorem witness_PackPlaced :
    let s := inMode .maintenance ((withPack (aPack .intake none)).setBay 7 (bayIn .empty none))
    (s.custodyTakes = true ∧ bayOf 8#8 = some 7 ∧ s.line.mode ≠ .drain ∧ s.line.mode ≠ .safeHold
      ∧ s.pack 7#32 = some (aPack .intake none) ∧ (aPack .intake none).state = .intake ∧ (s.bay 7).settings.isSome = true
      ∧ (s.bay 7).state = .empty ∧ (buffering 48 s).writer.buffer.length ≤ 48)
    ∧ (bayOf 0#8 = none ∧ bayOf 9#8 = none ∧ bayOf 1#8 = some 0)
    ∧ ((inMode .drain s).custodyTakes = true ∧ (inMode .drain s).line.mode = .drain ∧ (inMode .safeHold s).line.mode = .safeHold)
    ∧ (s.pack 8#32 = none ∧ (s.bay 0).settings = none)
    ∧ ((inBay .empty).custodyTakes = true ∧ (inBay .empty).pack 7#32 = some (aPack .inBay (some 0)) ∧ (aPack .inBay (some 0)).state ≠ .intake)
    ∧ ((s.setBay 7 (bayIn .locked none)).bay 7).state ≠ .empty ∧ 48 < (buffering 49 s).writer.buffer.length := by decide +kernel

theorem witness_QuarantineTaken :
    ((inBay .held).pack 7#32 = some (aPack .inBay (some 0)) ∧ ((inBay .held).bay 0).pack = some 7#32)
    ∧ (withPack (aPack .staged none)).pack 7#32 = some (aPack .staged none)
    ∧ (up.custodyTakes = true ∧ up.pack 7#32 = none)
    ∧ ((withPack (aPack .feeding none)).custodyTakes = true ∧ (withPack (aPack .feeding none)).pack 7#32 = some (aPack .feeding none))
    ∧ (48 < (buffering 49 (inBay .held)).writer.buffer.length ∧ (buffering 48 (inBay .held)).writer.buffer.length ≤ 48) := by
  decide +kernel

theorem witness_PackStaged :
    let p := aPack .released none
    let q := { aPack .released (some 0) with charge := 13 }
    let r := { aPack .released (some 0) with charge := 14 }
    let ready (st : PackState) : State :=
      let s := withPack (aPack st none)
      { s with queue := [7#32], feeder := { s.feeder with state := .ready } }
    ((withPack p).custodyTakes = true ∧ (withPack p).pack 7#32 = some p ∧ p.exposure = none ∧ (withPack p).queue.length < 12
      ∧ p.charge < 14 ∧ p.bay = none)
    ∧ ((withPack q).pack 7#32 = some q ∧ q.charge < 14 ∧ q.bay = some 0) ∧ ((withPack r).pack 7#32 = some r ∧ 14 ≤ r.charge)
    ∧ (up.queue = [] ∧ up.feeder.state ≠ .ready ∧ (holding [.feeding 7#32] up).feederWaits = true)
    ∧ (let s := ready .staged;
      s.queue = [7#32] ∧ s.feeder.state = .ready ∧ s.feederWaits = false ∧ s.phase = .running ∧ s.held = []
      ∧ (buffering 64 s).writer.buffer.length + 0 ≤ 64 ∧ s.pack 7#32 = some (aPack .staged none))
    ∧ (ready .feeding).pack 7#32 = some (aPack .feeding none)
    ∧ (let e : Pack := { p with exposure := some ⟨1#16, false⟩ };
      (withPack e).custodyTakes = true ∧ (withPack e).pack 7#32 = some e ∧ (withPack e).pack 8#32 = none
      ∧ ¬∀ x, e.exposure = some x → x.cleared = true)
    ∧ ((withPack (aPack .intake none)).pack 7#32 = some (aPack .intake none) ∧ (aPack .intake none).state ≠ .released)
    ∧ (12 ≤ ({ withPack p with queue := List.replicate 12 9#32 } : State).queue.length ∧ (buffering 49 (withPack p)).custodyTakes = true
      ∧ 48 < (buffering 49 (withPack p)).writer.buffer.length)
    ∧ ((holding [.expose 7#32 1#16] (ready .staged)).held ≠ [] ∧ (holding [.expose 7#32 1#16] (ready .staged)).feederWaits = false) := by
  decide +kernel

theorem witness_PackRemoved :
    let s := withPack (aPack .quarantined (some 0))
    (s.pack 7#32 = some (aPack .quarantined (some 0)) ∧ s.lot 5#32 = some aLot ∧ s.custodyTakes = true)
    ∧ (let q := ({ aLot with state := .closing } : Lot).exit (aPack .intake none) .fed;
      q.state = .closing ∧ q.admitted - q.fed - q.removed = 0)
    ∧ ¬((aLot.exit (aPack .intake none) .removed).state = .closing)
    ∧ ((inBay .held).custodyTakes = true ∧ (aPack .inBay (some 0)).state ≠ .intake ∧ (aPack .inBay (some 0)).state ≠ .quarantined)
    ∧ (s.pack 8#32 = none ∧ (buffering 48 s).writer.buffer.length ≤ 48 ∧ (buffering 49 s).custodyTakes = true
      ∧ 48 < (buffering 49 s).writer.buffer.length)
    ∧ (s.packs ≠ [] ∧ (inMode .drain up).packs = [] ∧ (inMode .drain up).line.mode = .drain ∧ up.line.mode ≠ .drain)
    ∧ (let u := { inMode .drain up with interlock := { up.interlock with state := .running, permission := true } };
      (reportEmpty s u).line.mode = .standby ∧ (reportEmpty s u).interlock.state = .stopping) := by decide +kernel

theorem witness_ExposureCleared :
    let p : Pack := { aPack .staged none with exposure := some ⟨3#16, false⟩, charge := 13 }
    let q : Pack := { aPack .feeding none with exposure := some ⟨3#16, false⟩, charge := 14 }
    ((withPack p).custodyTakes = true ∧ (withPack p).pack 7#32 = some p ∧ p.exposure = some ⟨3#16, false⟩ ∧ p.state ≠ .quarantined
      ∧ p.charge < 14)
    ∧ ((withPack q).pack 7#32 = some q ∧ 14 ≤ q.charge ∧ q.state = .feeding)
    ∧ (let r := { p with charge := 14 };
      (withPack r).pack 7#32 = some r ∧ 14 ≤ r.charge ∧ r.state ≠ .feeding)
    ∧ up.pack 7#32 = none ∧ (aPack .staged none).exposure = none ∧ 48 < (buffering 49 (withPack p)).writer.buffer.length := by
  decide +kernel

theorem witness_BayRequestsTaken :
    let d := inBay .discharging
    let h := up.setBay 0 { bayIn .held (some 7#32) with holds := ⟨false, false, false, true, false⟩ }
    let c (n : Nat) := (withPack { aPack .inBay (some 0) with charge := n }).setBay 0
      { bayIn .placed (some 7#32) with holds := { Holds.clear with restart := true } }
    (up.takesNow = true ∧ bayOf 1#8 = some 0 ∧ (up.bay 0).state = .empty) ∧ ((inBay .locked).bay 0).state = .locked
    ∧ (d.takesNow = true ∧ d.awaiting 0 = false ∧ (d.bay 0).state = .discharging ∧ (d.bay 0).holds.requested = false)
    ∧ (h.takesNow = true ∧ h.awaiting 0 = false ∧ (h.bay 0).state = .held ∧ (h.bay 0).holds = ⟨false, false, false, true, false⟩
      ∧ (h.bay 0).sense = .good)
    ∧ ((c 13).takesNow = true ∧ (c 13).bayPack 0 = some { aPack .inBay (some 0) with charge := 13 } ∧ ((c 13).bay 0).state = .placed
      ∧ ((c 13).bay 0).holds.restart = true ∧ ((c 13).bay 0).settings.isSome = true ∧ ((c 13).classes[(0 : ClassId)]).isSome = true)
    ∧ (c 14).bayPack 0 = some { aPack .inBay (some 0) with charge := 14 }
    ∧ (let l := up.setBay 0 (bayIn .locked none);
      l.takesNow = true ∧ (l.bay 0).state = .locked ∧ (l.bay 0).pack = none)
    ∧ ((inBay .locked).bay 0).pack.isSome = true
    ∧ (bayOf 0#8 = none ∧ bayOf 9#8 = none ∧ (holding [.trip 0 7#32 .sense] d).awaiting 0 = true)
    ∧ (((inBay .placed).bay 0).state = .placed ∧ ((inBay .held).bay 0).sense = .good
      ∧ ((h.setBay 0 { h.bay 0 with sense := .lost }).bay 0).sense = .lost ∧ (d.bay 0).holds.isEmpty = true)
    ∧ (up.bayPack 0 = none ∧ ((inBay .placed).bay 0).holds.restart = false)
    ∧ (let n := (c 13).setBay 0 { (c 13).bay 0 with settings := none };
      n.takesNow = true ∧ (n.bay 0).settings = none ∧ ({ c 13 with classes := up.classes } : State).classes[(0 : ClassId)] = none)
    ∧ ((buffering 49 (c 13)).takesNow = true ∧ 48 < (buffering 49 (c 13)).writer.buffer.length) := by decide +kernel

theorem witness_PeaksCleared :
    up.takesNow = true ∧ bayOf 8#8 = some 7 ∧ 9 < (10#8 : Byte).toNat
    ∧ (let s := { up with atm := chamber .drift (some 450) };
      s.takesNow = true ∧ s.atm.state = .drift ∧ s.atm.control = some 450)
    ∧ (up.atm.state ≠ .inert ∧ up.atm.state ≠ .drift) := by decide +kernel

/-- One open incident, in which zone 1 took part. -/
def anIncident : Incident := ⟨3#16, some ⟨0, vput (Vector.replicate 12 false) 0 true, 1, 2, 0⟩⟩

theorem witness_ZoneResetAndHeld :
    let a := onZone fun x => { x with main := .alarm, release := .running 5 }
    let b := a.setZone 1 { Zone.initial with main := .released }
    let o : State := { a with incident := anIncident }
    (up.takesNow = true ∧ zoneOf 1#8 = some 0 ∧ (up.zone 0).main = .normal)
    ∧ (a.takesNow = true ∧ (a.zone 0).main = .alarm ∧ (a.zone 0).alarmHolds = false ∧ (a.zone 0).preHolds = false
      ∧ a.incident.progress = none ∧ ∀ w, w ≠ (0 : ZoneId) → (a.zone w).main ≠ .alarm ∧ (a.zone w).main ≠ .released)
    ∧ (o.takesNow = true ∧ o.incident.progress.isSome = true ∧ o.writer.incidents.length < 4
      ∧ o.writer.droppedOpen ≠ some o.incident.number ∧ o.link.subscribed.getLsbD 0 = true)
    ∧ ({ o with writer := { o.writer with droppedOpen := some 3#16 } } : State).writer.droppedOpen = some o.incident.number
    ∧ (∃ w, w ≠ (0 : ZoneId) ∧ (b.zone w).main = .released)
    ∧ ((onZone fun x => { x with main := .alarm, thermal := true }).zone 0).preHolds = true
    ∧ ((a.zone 0).release = .running 5 ∧ (a.zone 0).holdUsed = false)
    ∧ (let s := onZone fun x => { x with release := .running 5, holdUsed := true };
      s.takesNow = true ∧ (s.zone 0).release = .running 5 ∧ (s.zone 0).holdUsed = true)
    ∧ (let s := onZone fun x => { x with release := .paused 5, holdUsed := true, holdTimer := some 0 };
      s.takesNow = true ∧ s.inReset = false ∧ (s.zone 0).holdTimer.isSome = true ∧ (s.zone 0).release = .paused 5)
    ∧ (up.zone 0).release = .idle ∧ zoneOf 0#8 = none ∧ zoneOf 13#8 = none := by decide +kernel

theorem witness_HeadIsolated :
    let s := onLoop id
    s.takesNow = true ∧ loopOf 1#8 = some .a ∧ addrOf 1#8 = some 0 ∧ addrOf 32#8 = some 31
    ∧ s.head .a 0 = some (aHead .spark) ∧ (aHead .spark).isolated = false ∧ s.head .a 31 = none
    ∧ loopOf 0#8 = none ∧ loopOf 3#8 = none ∧ addrOf 0#8 = none ∧ addrOf 33#8 = none := by decide +kernel

theorem witness_LoopTested :
    (up.takesNow = true ∧ loopOf 2#8 = some .b)
    ∧ ((onLoop fun x => { x with state := .short }).loop .a).state = .short
    ∧ (let x := (onLoop id).loop .a;
      (onLoop id).takesNow = true ∧ x.state ≠ .short ∧ Broadcast.testStart ∉ x.waiting ∧ Broadcast.testEnd ∉ x.waiting ∧ x.testing = false)
    ∧ (let x := (onLoop fun x => { x with testing := true, testTimer := some 0 }).loop .a;
      x.state ≠ .short ∧ Broadcast.testEnd ∉ x.waiting ∧ x.testing = true ∧ x.testTimer.isSome = true)
    ∧ (let x := (onLoop fun x => { x with waiting := [.testStart] }).loop .a;
      Broadcast.testStart ∈ x.waiting ∧ x.state ≠ .short)
    ∧ (let x := (onLoop fun x => { x with waiting := [.testEnd], testTimer := some 0 }).loop .a;
      Broadcast.testStart ∉ x.waiting ∧ Broadcast.testEnd ∈ x.waiting ∧ x.state ≠ .short ∧ x.testTimer.isSome = true)
    ∧ loopOf 0#8 = none ∧ loopOf 3#8 = none := by decide +kernel

theorem witness_InertStarted :
    let s (v : Nat) := allWell { up with atm := chamber .air (some v) }
    (up.takesNow = true ∧ up.doorClosed = false)
    ∧ ((s 401).takesNow = true ∧ (s 401).atm.state = .air ∧ (s 401).doorClosed = true ∧ (s 401).atm.sensorFail = false
      ∧ (s 401).atm.control = some 401 ∧ (s 401).atm.settings.permit < 401)
    ∧ ((s 400).atm.control = some 400 ∧ 400 ≤ (s 400).atm.settings.permit)
    ∧ (let f := allWell { up with atm := chamber .fault (some 401) };
      f.takesNow = true ∧ f.atm.state = .fault)
    ∧ ((chamber .purging none).state ≠ .air ∧ (chamber .purging none).state ≠ .fault)
    ∧ (let w (st : AtmState) := ({ up with atm := chamber st none }).withEntry 1#8 .inertStop .untaken
      let i := ({ w .inert with interlock := { up.interlock with state := .stopping } } : State)
      let f := ({ w .inert with feeder := { up.feeder with state := .feeding } } : State)
      ((w .air).inReset = false ∧ (w .air).link.restart = .none ∧ (w .air).link.queue.filter (fun e => e.stage = .untaken) = [⟨1#8, .known .inertStop, .untaken⟩]
        ∧ (w .air).atm.state = .air)
      ∧ (i.link.queue.filter (fun e => e.stage = .untaken) = [⟨1#8, .known .inertStop, .untaken⟩] ∧ i.interlock.state ≠ .stopped ∧ f.feeder.state = .feeding)
      ∧ ((w .inert).atm.state ≠ .air ∧ (w .inert).interlock.state = .stopped ∧ (w .inert).feeder.state ≠ .feeding)) := by decide +kernel

/-- `running`, the running feedback about to be conditioned at `v`. -/
def feedbackAt (st : InterlockState) (v : Bool) : State :=
  let s := running st
  { s with line := { s.line with inputs := { s.line.inputs with shredRunning := ⟨v, some (!v), some 0⟩ } } }

theorem witness_ShredderTaken :
    ((running .running).takesNow = true ∧ (running .running).interlock.state = .running ∧ (running .starting).interlock.state = .starting)
    ∧ ((running .stopped).interlock.state = .stopped ∧ (running .stopped).feedback = false ∧ (running .stopped).runConditions.met = true)
    ∧ ((feedbackAt .stopped false).interlock.state = .stopped ∧ (feedbackAt .stopped false).feedback = true)
    ∧ (up.interlock.state = .stopped ∧ up.feedback = false ∧ up.line.mode ≠ .production ∧ up.line.mode ≠ .drain)
    ∧ ((inMode .drain up).line.mode = .drain ∧ (inMode .drain up).runConditions.met = false)
    ∧ ((running .stopping).interlock.state = .stopping ∧ (running .fault).interlock.state = .fault ∧ (running .fault).feedback = false)
    ∧ ((feedbackAt .fault false).feedback = true)
    ∧ (let s := feedbackAt .starting true;
      s.inReset = false ∧ s.line.inputs.shredRunning.debounce.isSome = true ∧ s.line.inputs.shredRunning.raw = true ∧ s.feedback = !true)
    ∧ (let s := feedbackAt .running false;
      s.line.inputs.shredRunning.debounce.isSome = true ∧ s.line.inputs.shredRunning.raw = false ∧ s.feedback = !false)
    ∧ ((running .starting).interlock.startTimer.isSome = true ∧ (running .stopping).interlock.rundownTimer.isSome = true) := by
  decide +kernel

/-- A feeder in state `st` on the FEEDING pack. -/
def feedingIn (st : FeederState) : State :=
  let s := withPack (aPack .feeding none)
  { s with queue := [7#32], feeder := { s.feeder with state := st, tag := some 7#32, feedTimer := some 0 } }
/-- A feeder JAMMED on the FEEDING pack. -/
def jammed : State := feedingIn .jammed

theorem witness_JamCleared :
    (up.takesNow = true ∧ outcomeOf 0#8 = none ∧ outcomeOf 3#8 = none ∧ outcomeOf 1#8 = some .fed ∧ outcomeOf 2#8 = some .removed ∧ up.feeder.state ≠ .jammed)
    ∧ (jammed.feeder.state = .jammed ∧ jammed.feeder.tag = some 7#32 ∧ 48 < (buffering 49 jammed).writer.buffer.length)
    ∧ (jammed.takesNow = true ∧ jammed.writer.buffer.length ≤ 48 ∧ jammed.phase = .running ∧ jammed.held = []
      ∧ jammed.pack 7#32 = some (aPack .feeding none))
    ∧ (up.feeder.resettleNow ≠ 0) ∧ ({ up with feeder := { up.feeder with resettleNow := 0 } } : State).feeder.resettleNow = 0
    ∧ ((feedingIn .feeding).inReset = false ∧ (feedingIn .feeding).feeder.state = .feeding
      ∧ (feedingIn .feeding).feeder.feedTimer.isSome = true)
    ∧ (let s := { up with feeder := { up.feeder with resettleTimer := some 0 } };
      s.inReset = false ∧ s.feeder.resettleTimer.isSome = true)
    ∧ (let s (st : FeederState) : State := { running .running with feeder := { up.feeder with state := st, resettleNow := 0 } };
      (s .blocked).blockReasons.isEmpty = true ∧ (s .blocked).queue = [] ∧ (s .blocked).feeder.state = .blocked
      ∧ (updateFeeder (s .blocked)).feeder.state = .ready ∧ (s .ready).feeder.state = .ready
      ∧ (s .feeding).feeder.state = .feeding ∧ (s .jammed).feeder.state = .jammed
      ∧ (s .feeding).feeder.resettleNow = 0 ∧ (endFeed (s .feeding)).feeder.state = .ready
      ∧ (endFeed (inMode .standby (s .feeding))).feeder.state = .blocked
      ∧ (inMode .standby (s .ready)).blockReasons.isEmpty = false
      ∧ (updateFeeder (inMode .standby (s .ready))).feeder.state = .blocked
      ∧ (inMode .standby (s .blocked)).blockReasons.isEmpty = false) := by decide +kernel

theorem witness_JournalRead :
    let b := { buffering 1 up with writer := { (buffering 1 up).writer with nextSeq := 2 } }
    let n := { up with writer := { up.writer with nextSeq := 2 }, nv := { up.nv with journal := [(0, .good aRecord)] } }
    up.takesNow = true ∧ (0#8 : Byte).toNat = 0 ∧ 6 < (7#8 : Byte).toNat ∧ (1 ≤ (6#8 : Byte).toNat ∧ (6#8 : Byte).toNat ≤ 6)
    ∧ (b.takesNow = true ∧ b.oldest = 1 ∧ (0#32 : BitVec 32).toNat < b.oldest)
    ∧ (b.oldest ≤ (1#32 : BitVec 32).toNat ∧ ∀ k ∈ b.askedSeqs 1 6, (b.buffered k).isSome = true)
    ∧ (n.takesNow = true ∧ n.oldest ≤ (1#32 : BitVec 32).toNat ∧ ∃ k ∈ n.askedSeqs 1 1, n.buffered k = none)
    ∧ openWaiting up.writer.incidents 1#16 = none
    ∧ (openWaiting [.opened (openSnapshot up 0 1#16)] 1#16).isSome = true
    ∧ (b.buffered 1 = some aRecord ∧ n.buffered 1 = none ∧ n.stored 1 = some aRecord ∧ up.buffered 1 = none ∧ up.stored 1 = none)
    ∧ ((0, Slot.good aRecord) ∈ n.nv.journal ∧ aRecord.seq = 1 ∧ n.oldest = 1 ∧ up.nv.journal = [] ∧ up.writer.buffer = [] ∧ up.oldest = 1)
    ∧ b.askedSeqs 1 6 = [1] ∧ n.journalReply 1 1 = ⟨.ok, .journal [.record aRecord]⟩ := by decide +kernel

/-- An incident whose parts lie in its slot, in the buffer, and nowhere. -/
theorem witness_JournalRead_incident :
    let o := openSnapshot up 0 1#16
    let c : ClosePart := ⟨1#16, ⟨0#32, true⟩, 0, Vector.replicate 12 false, 0, 0, 0⟩
    let slot (x : IncidentSlot) : State := { up with nv := { up.nv with incidents := vput up.nv.incidents 1 x } }
    let both := slot ⟨.good o, .good c⟩
    let close : State := { slot ⟨.good o, .blank⟩ with writer := { up.writer with incidents := [.closed c] } }
    openWaiting both.writer.incidents 1#16 = none ∧ both.nv.incidents[incidentSlotOf (1#16 : BitVec 16).toNat] = ⟨.good o, .good c⟩
    ∧ both.incidentReply 1#16 = ⟨.ok, .incident o (some c)⟩
    ∧ close.incidentReply 1#16 = ⟨.ok, .incident o (some c)⟩
    ∧ (slot ⟨.good o, .failed⟩).incidentReply 1#16 = ⟨.ok, .incident o none⟩
    ∧ (slot ⟨.blank, .blank⟩).incidentReply 1#16 = ⟨.notFound, .none⟩ := by decide +kernel

theorem witness_MarkRaised :
    let s := { up with writer := { up.writer with nextSeq := 10, mark := 3 } }
    let c := { withPack (aPack .intake none) with writer := { up.writer with nextSeq := 10, mark := 3 } }
    let r : State := { State.reset with rebuilt := some ⟨[aPack .intake none], [aLot], []⟩ }
    (s.takesNow = true ∧ (3#32 : BitVec 32).toNat ≤ s.writer.mark)
    ∧ (s.writer.mark < (4#32 : BitVec 32).toNat ∧ s.writer.mark < s.clamp)
    ∧ (c.takesNow = true ∧ c.writer.mark < (4#32 : BitVec 32).toNat ∧ c.clamp ≤ c.writer.mark ∧ c.clamp = 0 ∧ s.clamp = 9)
    ∧ (r.takesNow = true ∧ aPack .intake none ∈ r.packs ++ (r.rebuilt.getD ⟨[], [], []⟩).packs) := by decide +kernel

theorem witness_LinkEvents :
    let rx (r : Receiver) : State := { up with link := { up.link with rx := r, gap := some 2 } }
    (up.inReset = false ∧ up.link.rx = .hunting) ∧ ((rx .length).link.rx = .length ∧ 2 ≤ (2#8 : Byte).toNat ∧ (252#8 : Byte).toNat ≤ 252
      ∧ (1#8 : Byte).toNat < 2 ∧ 252 < (253#8 : Byte).toNat)
    ∧ ((rx (.collecting 2 [])).link.rx = .collecting 2 [] ∧ ([] : List Byte).length + 1 < 2 + 2)
    ∧ (let l : List Byte := [1#8, 1#8, 0#8];
      (rx (.collecting 2 l)).link.rx = .collecting 2 l ∧ l.length = 2 + 1
      ∧ crc16 (BitVec.ofNat 8 2 :: l.take 2) ≠ word16 (l.getD 2 0#8) 0#8)
    ∧ (rx .length).link.gap.isSome = true
    ∧ (let c := crc16 [2#8, 1#8, 5#8]
      let l : List Byte := [1#8, 5#8, c.extractLsb' 8 8]
      (rx (.collecting 2 l)).link.rx = .collecting 2 l ∧ l.length = 2 + 1 ∧ l.take 2 = 1#8 :: 5#8 :: []
      ∧ crc16 (BitVec.ofNat 8 2 :: l.take 2) = word16 (l.getD 2 0#8) (c.extractLsb' 0 8))
    ∧ (let s := up.withEntry 1#8 .readStatus .untaken;
      s.link.untaken = some (.known .readStatus) ∧ s.takeable (.known .readStatus) = true)
    ∧ (let s := State.reset.withEntry 1#8 .readQueue .untaken;
      s.link.untaken = some (.known .readQueue) ∧ s.takeable (.known .readQueue) = false)
    ∧ (let s := { up with link := { up.link with queue := List.replicate 4 ⟨1#8, .known .readQueue, .untaken⟩ } };
      4 ≤ s.link.queue.length)
    ∧ (let s := State.reset.withEntry 1#8 .readQueue .untaken;
      s.link.queue.length < 4 ∧ s.link.untaken.isSome = true)
    ∧ (State.reset.takesNow = true ∧ State.reset.phase = .starting ∧ Request.row 1#8 (.stage 7#32) = some (.stage 1#8 7#32)
      ∧ Request.row 1#8 .restart = some (.restart 1#8) ∧ (after (.readStatus 1#8) up).link.replying = true
      ∧ (after (.restart 1#8) up).link.restart ≠ .none ∧ (after (.restart 1#8) up).link.queue.length < 4)
    ∧ (0x7f#8 : Byte) ∉ knownKinds ∧ (Request.kind (.stage 7#32) = 0x24#8 ∧ (Request.payload (.stage 7#32)).length = 4) := by
  decide +kernel

theorem witness_SampleTaken :
    let s := inBay .placed
    let hot : State := s.setBay 0 { s.bay 0 with overLimit := true }
    let old (w : Bool) : State := s.setBay 0 { s.bay 0 with lastValid := some ⟨1, 1, 1, 1⟩, blockWaitsValid := w }
    up.inReset = false ∧ (inRange ⟨100000, -32000, 2000, -400⟩ = true ∧ inRange ⟨100001, 0, 0, 0⟩ = false)
    ∧ (s.bayPack 0 = some (aPack .inBay (some 0)) ∧ takesEnergy (s.bay 0).state = true ∧ s.classes[(0 : ClassId)] = some aClass)
    ∧ up.bayPack 0 = none
    ∧ (let n : State := { s with classes := up.classes };
      n.bayPack 0 = some (aPack .inBay (some 0)) ∧ n.classes[(aPack .inBay (some 0)).cls] = none)
    ∧ ((hot.bay 0).overLimit ≠ ((bayMeasures hot 0 .valid (some ⟨0, 0, 0, 600⟩) 150).1.bay 0).overLimit)
    ∧ ((bayMeasures s 0 .valid (some ⟨0, 0, 0, 601⟩) 150).1.bay 0).overLimit = true
    ∧ (s.bay 0).lastValid = none
    ∧ (((old true).bay 0).lastValid = some ⟨1, 1, 1, 1⟩ ∧ ((old true).bay 0).blockWaitsValid = true
      ∧ ((old false).bay 0).blockWaitsValid = false)
    ∧ ((2 + 1 : Nat) < 4 ∧ (4 : Nat) ≤ 3 + 1)
    ∧ (takesEnergy ((old false).bay 0).state = true ∧ (old false).bayPack 0 = some (aPack .inBay (some 0)))
    ∧ (((inBay .ready).bay 0).state = .ready ∧ ((inBay .locked).bay 0).state = .locked ∧ (up.bay 0).state = .empty) := by decide +kernel

theorem witness_TripTaken :
    let s := inBay .discharging
    let e (c l : Bool) : SampleEvent := ⟨none, true, c, l, false⟩
    let u : Sample := ⟨0, 1200, 0, 0⟩
    let i (n : Nat) : State := s.setBay 0 { s.bay 0 with retryCount := n }
    let with_ (c t : Nat) : State := (withPack { aPack .inBay (some 0) with charge := c, trips := t }).setBay 0 (s.bay 0)
    (bayIn .discharging none).overLimit = false ∧ (e true true).lostNow = true ∧ (e true false).lostNow = false
    ∧ ((1200 : Nat) : Int) < 1201 ∧ ¬((aBay.tripCurrent : Int) < u.current) ∧ (-101 : Int) < -100
    ∧ ((e true false).completed = true ∧ aBay.tripTemp ≤ ({ bayIn .discharging none with averages := some ⟨0, 0, 600⟩ } : Bay).hAvg)
    ∧ (bayIn .discharging none).sustained < 20
    ∧ ((s.bay 0).state = .discharging ∧ s.bayPack 0 = some (aPack .inBay (some 0)) ∧ (s.bay 0).settings = some aBay
      ∧ s.phase = .running ∧ s.held = [] ∧ (aPack .inBay (some 0)).charge < 14 ∧ (aPack .inBay (some 0)).trips < 7
      ∧ TripKind.sense ≠ .packThermal)
    ∧ ((buffering 63 s).writer.buffer.length + 1 ≤ 64 ∧ (buffering 62 s).writer.buffer.length + 2 ≤ 64)
    ∧ (((i 2).bay 0).retryCount + 1 ≤ aBay.retryLimit ∧ aBay.retryLimit < ((i 3).bay 0).retryCount + 1 ∧ ((i 7).bay 0).retryCount < 8)
    ∧ ((with_ 13 7).bayPack 0 = some { aPack .inBay (some 0) with charge := 13, trips := 7 } ∧ 7 ≤ 7)
    ∧ ((with_ 14 6).bayPack 0 = some { aPack .inBay (some 0) with charge := 14, trips := 6 } ∧ 14 ≤ 14) := by decide +kernel

theorem witness_BayTimers :
    let p := aPack .inBay (some 0)
    let r := (withPack p).setBay 0 { bayIn .resting (some 7#32) with restTimer := some 0, averages := some ⟨3000, 0, 0⟩ }
    let high := r.setBay 0 { r.bay 0 with averages := some ⟨3001, 0, 0⟩ }
    let with_ (c n : Nat) : State := (withPack { p with charge := c, rebounds := n }).setBay 0 (r.bay 0)
    let d := inBay .discharging
    (let s := up.setBay 0 { bayIn .tripped none with retryTimer := some 0 };
      s.inReset = false ∧ s.awaiting 0 = false ∧ (s.bay 0).retryTimer.isSome = true)
    ∧ ((holding [.trip 0 7#32 .sense] d).inReset = false ∧ (holding [.trip 0 7#32 .sense] d).awaiting 0 = true)
    ∧ (d.inReset = false ∧ d.awaiting 0 = false ∧ (d.bay 0).state = .discharging ∧ d.bayPack 0 = some p ∧ p.bay = some 0
      ∧ d.phase = .running ∧ d.held = [] ∧ (buffering 63 d).writer.buffer.length + 1 ≤ 64)
    ∧ (let s := up.setBay 0 { bayIn .resting none with restTimer := some 0, sense := .lost };
      (s.bay 0).restTimer.isSome = true ∧ (s.bay 0).sense = .lost)
    ∧ (r.inReset = false ∧ r.awaiting 0 = false ∧ (r.bay 0).restTimer.isSome = true ∧ (r.bay 0).sense = .good ∧ (r.bay 0).state ≠ .locked
      ∧ r.bayPack 0 = some p ∧ (3000 : Int) ≤ (r.releaseVoltage p : Int) ∧ (high.bay 0).averages = some ⟨3001, 0, 0⟩
      ∧ (high.releaseVoltage p : Int) < 3001 ∧ (d.bay 0).averages = none)
    ∧ ((with_ 13 2).bayPack 0 = some { p with charge := 13, rebounds := 2 } ∧ (with_ 14 2).bayPack 0 = some { p with charge := 14, rebounds := 2 }
      ∧ (with_ 14 3).bayPack 0 = some { p with charge := 14, rebounds := 3 })
    ∧ ((r.bay 0).holds.isEmpty = true ∧ (Bay.initial).holds.isEmpty = false)
    ∧ ((inBay .ready).bayPack 0 = some p ∧ (withPack (aPack .released (some 0))).pack 7#32 = some (aPack .released (some 0)))
    ∧ ((d.bay 0).sense = .good ∧ ((d.setBay 0 { d.bay 0 with sense := .lost }).bay 0).sense = .lost)
    ∧ (d.classFor p.cls).rest = 60 ∧ (({ d with classes := vput d.classes 0 (some { aClass with rest := 0 }) } : State).classFor 0).rest = 0 := by
  decide +kernel

theorem witness_BayActs :
    let p := aPack .inBay (some 0)
    let u : Sample := ⟨-101, 0, 300, 0⟩
    let e (v c r : Bool) : SampleEvent := ⟨some u, v, c, false, r⟩
    let x (st : BayState) (f : Bay → Bay) : State := (inBay st).setBay 0 (f ((inBay st).bay 0))
    let avg (v : Int) (b : Bay) : Bay := { b with averages := some ⟨v, 200, 0⟩ }
    (holding [.ready 0 7#32] (inBay .placed)).awaiting 0 = true ∧ up.bayPack 0 = none
    ∧ ((inBay .placed).awaiting 0 = false ∧ (inBay .placed).bayPack 0 = some p ∧ (e true false false).used = some u)
    ∧ (((inBay .empty).bay 0).state = .empty ∧ ((inBay .locked).bay 0).state = .locked)
    ∧ (((x .placed fun b => { b with reversalDue := true }).bay 0).reversalDue = true ∧ u.voltage < -100)
    ∧ (((inBay .placed).bay 0).reversalDue = false ∧ ((x .placed fun b => { b with overLimit := true }).bay 0).overLimit = true)
    ∧ (let y := (x .placed (avg (-101))).bay 0;
      y.overLimit = false ∧ y.sense = .good ∧ y.holds.restart = false ∧ y.vAvg < -100)
    ∧ (((x .placed (avg (-100))).bay 0).vAvg = -100 ∧ (-100 : Int) ≤ ((inBay .placed).releaseVoltage p : Int))
    ∧ (((inBay .placed).releaseVoltage p : Int) < ((x .placed (avg 3001)).bay 0).vAvg ∧ ((x .placed (avg 3001)).bay 0).holds.isEmpty = true
      ∧ ((x .placed fun b => { b with holds := { b.holds with zone := true } }).bay 0).holds.isEmpty = false)
    ∧ ((x .placed fun b => { b with holds := { b.holds with restart := true } }).bay 0).holds.restart = true
    ∧ (tripTest (bayIn .discharging (some 7#32)) aBay ⟨0, 1201, 0, 0⟩ (e true false false) = some .overcurrent
      ∧ tripTest (bayIn .discharging (some 7#32)) aBay u (e true true false) = none)
    ∧ (100 ≤ 100 ∧ ((100 * 125 / 100 : Nat) : Int) < 126 ∧ (125 : Int) ≤ ((100 * 125 / 100 : Nat) : Int))
    ∧ (((x .discharging (avg 3000)).bay 0).vAvg ≤ ((inBay .discharging).endVoltage p : Int)
      ∧ ((inBay .discharging).endVoltage p : Int) < ((x .discharging (avg 3001)).bay 0).vAvg)
    ∧ (let c (mv : Nat) : State := { up with classes := vput up.classes 0 (some { aClass with endMv := mv, relMv := 4500 }) };
      (c 4500).endVoltage { p with cells := 222 } = 99900 ∧ (c 4500).endVoltage { p with cells := 223 } = 100350
      ∧ (c 4167).endVoltage { p with cells := 240 } = 100008 ∧ (c 4000).endVoltage { p with cells := 250 } = 100000)
    ∧ ((e true false true).regained = true ∧ ((inBay .held).bay 0).holds.isEmpty = true)
    ∧ (((inBay .tripped).bay 0).retryTimer = none ∧ u.heatsink ≤ ((inBay .tripped).bay 0).settingsFor.restartTemp
      ∧ ¬((301 : Int) ≤ ((inBay .tripped).bay 0).settingsFor.restartTemp))
    ∧ (((inBay .resting).bay 0).restTimer = none ∧ ((inBay .resting).bay 0).sense = .good)
    ∧ ((inBay .ready).bay 0).state = .ready
    ∧ ((x .discharging fun b => { b with participant := true, request := 1 }).bay 0).participant = true := by decide +kernel

theorem witness_HeldEventTaken :
    let e := holding [.expose 7#32 1#16] (withPack (aPack .staged none))
    let t := holding [.trip 0 7#32 .sense] (inBay .discharging)
    let f := holding [.feeding 7#32] (withPack (aPack .staged none))
    let g : State := { f with queue := [7#32], feeder := { f.feeder with state := .ready } }
    let p (c n : Nat) : Pack := { aPack .inBay (some 0) with charge := c, rebounds := n }
    let x (st : PackState) (c : Nat) : Pack := { aPack st none with charge := c, exposure := some ⟨1#16, true⟩ }
    let n (c k : Nat) : Pack := { aPack .inBay (some 0) with charge := c, trips := k }
    let y (k : Nat) : State := (inBay .discharging).setBay 0 { bayIn .discharging (some 7#32) with retryCount := k }
    (({ e with phase := .starting } : State).inReset = false)
    ∧ ((withPack (n 13 6)).pack 7#32 = some (n 13 6) ∧ (withPack (n 13 7)).pack 7#32 = some (n 13 7)
      ∧ (withPack (n 13 8)).pack 7#32 = some (n 13 8) ∧ (withPack (n 14 8)).pack 7#32 = some (n 14 8) ∧ (n 13 8).state = .inBay)
    ∧ ((up.bay 0).pack ≠ some 7#32 ∧ ((y 3).bay 0).pack = some 7#32 ∧ ((y 3).bay 0).state ≠ .locked ∧ ((y 3).bay 0).settings = some aBay
      ∧ ((y 3).bay 0).retryCount = aBay.retryLimit ∧ aBay.retryLimit < ((y 4).bay 0).retryCount ∧ (y 4).phase = .running ∧ (y 4).held = []
      ∧ ((applyEvent (y 4) (.bayQuarantine 0 7#32 .retryLimit)).1).writer.buffer.length ≤ 64
      ∧ (holding [.expose 8#32 1#16] (y 4)).held ≠ [])
    ∧ (f.phase = .running ∧ ¬(f.feeder.state = .ready ∧ f.queue.head? = some 7#32))
    ∧ (g.feeder.state = .ready ∧ g.queue.head? = some 7#32)
    ∧ (e.inReset = false ∧ e.phase = .running ∧ ((applyEvent { e with held := [] } (.expose 7#32 1#16)).1).writer.buffer.length ≤ 64)
    ∧ (64 < ((applyEvent { buffering 64 e with held := [] } (.expose 7#32 1#16)).1).writer.buffer.length)
    ∧ (t.phase = .running ∧ ((applyEvent { buffering 63 t with held := [] } (.trip 0 7#32 .sense)).1).writer.buffer.length ≤ 64)
    ∧ (64 < ((applyEvent { buffering 64 t with held := [] } (.trip 0 7#32 .sense)).1).writer.buffer.length)
    ∧ (up.phase = .running ∧ up.held = [] ∧ State.reset.phase ≠ .running ∧ e.held ≠ [])
    ∧ up.pack 7#32 = none
    ∧ ((withPack (p 13 2)).pack 7#32 = some (p 13 2) ∧ (withPack (p 14 2)).pack 7#32 = some (p 14 2)
      ∧ (withPack (p 13 3)).pack 7#32 = some (p 13 3) ∧ (p 13 2).state = .inBay ∧ (p 13 2).bay = some 0)
    ∧ ((withPack (aPack .released (some 0))).pack 7#32 = some (aPack .released (some 0)))
    ∧ ((withPack (x .staged 13)).pack 7#32 = some (x .staged 13) ∧ (x .staged 13).exposure ≠ some ⟨1#16, false⟩
      ∧ (withPack (x .staged 14)).pack 7#32 = some (x .staged 14) ∧ (withPack (x .feeding 14)).pack 7#32 = some (x .feeding 14))
    ∧ (let y : Pack := { aPack .staged none with exposure := some ⟨1#16, false⟩ };
      (withPack y).pack 7#32 = some y) := by decide +kernel

theorem witness_LoopSends :
    let x (f : Loop → Loop) : Loop := (onLoop f).loop .a
    (onLoop id).inReset = false ∧ ((x id).state = .idle ∧ (x id).sending = none ∧ (x id).waiting = [] ∧ (x id).cursor = some 0)
    ∧ (x fun y => { y with waiting := [.testStart] }).waiting = [.testStart]
    ∧ (x fun y => { y with cursor := none }).cursor = none
    ∧ (let y := x fun y => { y with state := .polling };
      y.state = .polling ∧ y.answer = none)
    ∧ (x fun y => { y with sending := some (.poll 0) }).sending = some (.poll 0)
    ∧ (x fun y => { y with sending := some (.broadcast .testEnd) }).sending = some (.broadcast .testEnd)
    ∧ (let y := x fun y => { y with sending := some (.broadcast .testStart) };
      y.sending = some (.broadcast .testStart) ∧ y.heads[(0 : HeadAddr)] = some (aHead .spark))
    ∧ (let s := (onLoop fun y => { y with sending := some (.broadcast .testStart), waiting := [.testStart] }).withEntry 1#8 (.loopTest 1#8)
        (.waiting (.broadcast .a true));
      (after (.broadcastSent .a) s).link.tx = some (.reply (Request.loopTest 1#8 |> Asked.known |> Asked.replyKind) 1#8 ⟨.ok, .window true⟩)) := by
  decide +kernel

theorem witness_PollAnswered :
    let s := onLoop fun x => { x with state := .polling, answer := some 0, polled := some 0 }
    let x := s.loop .a
    s.inReset = false ∧ x.state = .polling ∧ x.answer.isSome = true ∧ x.polled = some 0 ∧ x.orphan = false
    ∧ x.heads[(0 : HeadAddr)] = some (aHead .spark) ∧ valueOk .spark 255 = true ∧ (aHead .spark).level ≠ frameLevel .pre
    ∧ (aHead .spark).isolated = false ∧ x.testing = false ∧ (aHead .spark).level ≠ .missing
    ∧ 2 ≤ ({ aHead .spark with missed := 2 } : Head).missed
    ∧ valueOk (aHead .spark).kind 256 = false
    ∧ (let o := onLoop fun x => { x with state := .polling, answer := some 0, polled := some 0, orphan := true };
      (o.loop .a).orphan = true ∧ (o.loop .a).polled = some 0 ∧ (o.loop .a).answer.isSome = true)
    ∧ (let o := onLoop fun x => { x with state := .polling, answer := some 0, polled := some 31 };
      (o.loop .a).heads[(31 : HeadAddr)] = none ∧ (o.loop .a).polled = some 31)
    ∧ (x.polled ≠ some 31 ∧ ((onLoop id).loop .a).state = .idle ∧ ((onLoop fun x => { x with state := .receiving }).loop .a).state = .receiving
      ∧ ((onLoop fun x => { x with state := .short }).loop .a).state = .short)
    ∧ ((after (.answerReceived .a 0 .normal 1 false) (onLoop fun x => { x with state := .receiving })).loop .a).ack = some false
    ∧ (valueOk .heat (-32768) = true ∧ valueOk .heat 32768 = false ∧ valueOk .gas 65535 = true ∧ valueOk .gas (-1) = false) := by
  decide +kernel

theorem witness_ReportTaken :
    let s := onLoop fun x => { x with state := .receiving }
    let x := s.loop .a
    s.inReset = false ∧ x.state = .receiving ∧ x.heads[(0 : HeadAddr)] = some (aHead .spark) ∧ valueOk (aHead .spark).kind 1 = true
    ∧ valueOk (aHead .spark).kind 256 = false ∧ (aHead .spark).level ≠ frameLevel .pre ∧ (aHead .spark).level = frameLevel .normal
    ∧ (aHead .spark).kind = .spark ∧ (aHead .spark).isolated = false ∧ x.testing = false ∧ x.heads[(31 : HeadAddr)] = none
    ∧ ((onLoop id).loop .a).state = .idle ∧ ((onLoop fun x => { x with state := .short }).loop .a).state = .short
    ∧ (s.zone 0).settings.quenchEnable = true ∧ (s.zone 0).window = none
    ∧ (let z := (after (.reportReceived .a 0 .normal 1 false) s).zone 0;
      z.quench = true ∧ z.quenchTimer = some 500 ∧ z.quenchCount = 1 ∧ z.window = some 1000)
    ∧ (let o := s.setZone 0 { Zone.initial with settings := { ZoneSettings.default with quenchEnable := false }, window := some 7 };
      (o.zone 0).settings.quenchEnable = false ∧ ((after (.reportReceived .a 0 .normal 1 false) o).zone 0).window = some 7)
    ∧ (((after (.reportReceived .a 0 .normal 1 false) s).loop .a).ack = some true
      ∧ ((after (.reportReceived .a 31 .normal 1 false) s).loop .a).ack = some false
      ∧ ((after (.reportReceived .a 0 .normal 256 false) s).loop .a).ack = some false
      ∧ ((after (.loopFrameError .a) s).loop .a).ack = some false
      ∧ ((after (.loopFrameError .a) (onLoop id)).loop .a).ack = none) := by
  decide +kernel

theorem witness_LoopShorts :
    (onLoop id).inReset = false ∧ ((onLoop id).loop .a).state ≠ .short
    ∧ ((onLoop id).loop .a).heads[(0 : HeadAddr)] = some (aHead .spark)
    ∧ ((onLoop fun x => { x with state := .short }).loop .a).state = .short
    ∧ (let s := (onLoop fun x => { x with state := .short, waiting := [.testStart] }).withEntry 1#8 (.loopTest 1#8)
        (.waiting (.broadcast .a true));
      (after (.loopRecessive .a) s).link.tx = some (.reply (Request.loopTest 1#8 |> Asked.known |> Asked.replyKind) 1#8 ⟨.wrongState, .none⟩))
    := by decide +kernel

theorem witness_ZoneTimers :
    (let x : Zone := { Zone.initial with main := .preAlarm, preClear := some 0 };
      up.inReset = false ∧ (onZone fun _ => x).zone 0 = x ∧ x.main = .preAlarm ∧ x.preClear.isSome = true ∧ x.alarmHolds = false
      ∧ x.preHolds = false)
    ∧ (let x : Zone := { Zone.initial with window := some 0 };
      x.window.isSome = true ∧ x.sparks = 0)
    ∧ (let x : Zone := { Zone.initial with window := some 0, sparks := 1 };
      x.window.isSome = true ∧ 0 < x.sparks)
    ∧ ({ Zone.initial with main := .alarm, release := .running 0 } : Zone).release = .running 0
    ∧ ({ Zone.initial with quench := true, quenchTimer := some 0 } : Zone).quenchTimer.isSome = true := by decide +kernel

theorem witness_OxygenTaken :
    let good (v : Nat) : Channel := { Channel.initial with valid := true, average := some v }
    up.inReset = false ∧ 2500 ≤ 2500 ∧ 2500 < 2501
    ∧ (let s := { up with atm := { up.atm with chanA := { Channel.initial with valid := true, invalidRun := 3 } } };
      (s.atm.chan .a).invalidRun = 3 ∧ (s.atm.chan .a).valid = true)
    ∧ (let s := { up with atm := { up.atm with chanA := { Channel.initial with validRun := 3 } } };
      (s.atm.chan .a).validRun = 3)
    ∧ (let c : Channel := { Channel.initial with valid := true, invalidRun := 2, last := some 400, block := some ⟨4, 3, 1203⟩ };
      c.valid = true ∧ c.invalidRun ≠ 3 ∧ c.last = some 400 ∧ (c.bad 0).1.average = some 400 ∧ (c.bad 0).1.block = none
      ∧ (c.bad 0).1.valid = true ∧ (c.bad 0).2 = true ∧ (c.good 0 401).1.average = some 401
      ∧ ({ c with block := none }.bad 3).1.block = some ⟨8, 1, 400⟩
      ∧ ({ c with valid := false }.bad 0).1 = { c with valid := false, validRun := 0, invalidRun := 3, block := none }
      ∧ ({ c with valid := false } : Channel).valid = false ∧ ({ c with invalidRun := 3 } : Channel).invalidRun = 3)
    ∧ ((up.atm.chan .a).usable.isSome ≠ (good 450).usable.isSome ∧ (up.atm.chan .a).usable.isSome = Channel.initial.usable.isSome)
    ∧ ((good 450).usable = some 450 ∧ Channel.initial.usable = none)
    ∧ ((chamber .inert (some 400)).peak = none
      ∧ ∃ p, ({ chamber .drift (some 400) with peak := some ⟨450, ⟨0#32, true⟩⟩ } : Atmosphere).peak = some p ∧ 450 ≤ p.value)
    ∧ ((chamber .air none).state = .air ∧ (chamber .purging none).state = .purging)
    ∧ (400 ≤ (chamber .inert none).settings.permit ∧ (chamber .inert none).settings.permit < 401
      ∧ 800 ≤ (chamber .inert none).settings.breach ∧ (chamber .inert none).settings.breach < 801)
    ∧ (350 ≤ (chamber .drift none).settings.permit - (chamber .drift none).settings.hysteresis
      ∧ (chamber .drift none).settings.permit - (chamber .drift none).settings.hysteresis < 351) := by decide +kernel

theorem witness_ChamberTimers :
    up.inReset = false ∧ ({ chamber .inert none with settle := some 0 } : Atmosphere).settle.isSome = true
    ∧ ({ chamber .purging none with maxPurge := some 0 } : Atmosphere).maxPurge.isSome = true ∧ up.atm.valve = .closed
    ∧ ({ chamber .purging none with valve := .purge } : Atmosphere).valve = .purge
    ∧ ({ chamber .inert none with valve := .trim } : Atmosphere).valve = .trim := by decide +kernel

theorem witness_InputsConditioned :
    (up.line.inputs.get .estop).raw = false
    ∧ ((allWell up).line.inputs.get .coolingOk).raw ≠ false
    ∧ (let s := rawChange (allWell up) .coolingOk false;
      (s.line.inputs.get .coolingOk).raw ≠ true ∧ (s.line.inputs.get .coolingOk).cond = some true
      ∧ s.inReset = false ∧ (s.line.inputs.get .coolingOk).debounce.isSome = true ∧ s.level .coolingOk ≠ (s.line.inputs.get .coolingOk).raw)
    ∧ ((allWell up).line.inputs.get .coolingOk).cond ≠ some false
    ∧ ((up.line.inputs.get .packPassed).debounce.isSome = true ∧ up.level .packPassed = (up.line.inputs.get .packPassed).raw)
    ∧ (let s := rawChange (allWell up) .packPassed true;
      (s.line.inputs.get .packPassed).raw = true ∧ s.level .packPassed = false ∧ s.feeder.state = .blocked)
    ∧ (let s := rawChange (allWell (feedingIn .feeding)) .packPassed true;
      s.inReset = false ∧ (s.line.inputs.get .packPassed).debounce.isSome = true ∧ s.feeder.state = .feeding ∧ s.feeder.tag = some 7#32
      ∧ s.feederWaits = false ∧ s.pack 7#32 = some (aPack .feeding none) ∧ s.phase = .running ∧ s.held = []
      ∧ (buffering 62 s).writer.buffer.length + 2 ≤ 64)
    ∧ (rawChange (allWell jammed) .packPassed true).feeder.state = .jammed
    ∧ (let s := rawChange (running .running) .estop true;
      (s.line.inputs.get .estop).raw = true ∧ (s.line.inputs.get .estop).debounce.isSome = true ∧ s.level .estop = false
      ∧ s.interlock.permission = true ∧ s.interlock.state = .running)
    ∧ (let s := rawChange (running .starting) .doorClosed false;
      (s.line.inputs.get .doorClosed).raw = false ∧ s.line.mode ≠ .maintenance ∧ s.level .doorClosed = true ∧ s.atm.state = .inert
      ∧ s.interlock.state = .starting)
    ∧ (let h (s : State) (i : InputId) (v : Bool) : State := after (.inputConditioned i) (rawChange s i v);
      (running .running).line.mode ≠ .safeHold ∧ (h (running .running) .estop true).line.cause = some .estop
      ∧ (h (running .running) .doorClosed false).line.cause = some .door
      ∧ (h (running .running) .doorClosed false).interlock.rundownTimer = some 60000
      ∧ (h (inMode .safeHold (running .running)) .estop true).line.cause = none)
    ∧ (rawChange (allWell up) .doorClosed false).atm.state = .air
    ∧ (let s := rawChange up .doorClosed true;
      (s.line.inputs.get .doorClosed).raw = true ∧ s.level .doorClosed = false)
    ∧ up.link.subscribed.getLsbD 5 = true := by decide +kernel

/-- Cooling lost and cooling regained: a bay that is held by it, one that discharges again, one that waits for a held event. -/
theorem witness_BaysFollow :
    let prod (s : State) : State := allWell (inMode .production s)
    let d := rawChange (prod (inBay .discharging)) .coolingOk false
    let h := inMode .production ((inBay .held).setBay 0 { (inBay .held).bay 0 with holds := { Holds.clear with cooling := true } })
    let h : State := { h with line := { h.line with inputs := { h.line.inputs with coolingOk := ⟨true, some false, some 0⟩ } } }
    let y := (after (.inputConditioned .coolingOk) d).bay 0
    let z := (after (.inputConditioned .coolingOk) h).bay 0
    (d.awaiting 0 = false ∧ (d.bay 0).state = .discharging ∧ (d.bay 0).holds.isEmpty = true ∧ y.holds.isEmpty = false ∧ y.state = .held)
    ∧ (h.awaiting 0 = false ∧ (h.bay 0).state = .held ∧ (h.bay 0).holds.isEmpty = false ∧ (h.bay 0).sense = .good
      ∧ z.holds.isEmpty = true ∧ z.state = .discharging)
    ∧ (holding [.ready 0 7#32] d).awaiting 0 = true := by decide +kernel

theorem witness_SupplyMonitored :
    let w := 1900 + 50 * (up.feeder.settings.step - 1)
    let low : State := { up with line := { up.line with monitor := .warning } }
    (up.inReset = false ∧ w = 2050 ∧ 2049 < w ∧ 1600 ≤ 1600 ∧ 1599 < 1600 ∧ up.line.monitor = .normal ∧ up.line.mode ≠ .safeHold
      ∧ up.writer.buffer = [])
    ∧ ((inMode .safeHold up).line.mode = .safeHold) ∧ (buffering 1 up).writer.buffer ≠ []
    ∧ ((running .running).line.monitor = .normal ∧ (running .running).line.mode ≠ .safeHold
      ∧ (after (.supplyWarning 2049) (running .running)).interlock.state = .stopping
      ∧ (after (.supplyWarning 2049) (running .running)).feeder.reasons.mode = true)
    ∧ (w + 50 ≤ 2100 ∧ low.line.monitor = .warning) ∧ (w ≤ 2050 ∧ 2099 < w + 50)
    ∧ ((after (.supplyNormal 1599) up).phase = .inPowerReset ∧ (after (.supplyWarning 1600) up).phase = .running) := by decide +kernel

theorem witness_ResetsTaken :
    let slotted : State := writing fun w => { w with running := some (.journalProgram 1), buffer := [⟨aRecord, some 5⟩] }
    let pending (t : EraseTarget) : State := writing fun w => { w with suspended := some t }
    (up.phase ≠ .inPowerReset ∧ (holdReset up .inPowerReset).phase = .inPowerReset ∧ 1699 < 1700
      ∧ (holdReset up .inPinReset).phase = .inPinReset)
    ∧ (up.writer.suspended = none ∧ up.writer.running = none ∧ (busy (.read (.incident 1#16))).writer.suspended = none)
    ∧ (slotted.writer.running = some (.journalProgram 1) ∧ (∃ b ∈ slotted.writer.buffer.take 1, b.slot = some 5)
      ∧ ∀ b ∈ slotted.writer.buffer.take 1, b.slot ≠ some 6)
    ∧ ((pending (.journal 0)).writer.suspended = some (.journal 0) ∧ (pending (.journal 0)).writer.running = none)
    ∧ ((busy (.erase (.journal 255) true false)).writer.running = some (.erase (.journal 255) true false) ∧ segOf 4095 = 255 ∧ segOf 15 ≠ 255)
    ∧ ((pending (.incident 15)).writer.suspended = some (.incident 15)
      ∧ (busy (.erase (.incident 0) false false)).writer.running = some (.erase (.incident 0) false false))
    ∧ (let s := writing fun w => { w with running := some .incidentProgram, incidents := [aPart] };
      s.writer.running = some .incidentProgram ∧ s.writer.incidents = [aPart] ∧ aPart.isClosed = false ∧ (closePart 1#16).isClosed = true)
    ∧ (busy (.settingsErase .bay)).writer.running = some (.settingsErase .bay)
    ∧ (busy (.settingsProgram .budget (.budget Budget.default))).writer.running = some (.settingsProgram .budget (.budget Budget.default))
    ∧ (let s (e : EraseTarget) : State := writing fun w => { w with
          suspended := some e, running := some (.journalProgram 1), buffer := [⟨aRecord, some 5⟩] };
      (s (.journal 255)).writer.suspended = some (.journal 255) ∧ (s (.incident 15)).writer.suspended = some (.incident 15)
      ∧ journalAt (s (.journal 255)).cutNv.journal 5 = some .failed ∧ journalAt (s (.journal 255)).cutNv.journal 4095 = some .failed)
    ∧ (let u (v : Nat) : State := startUp { up with line := { up.line with supply := v } };
      (u 2050).line.monitor = .normal ∧ (u 2050).line.flushDone = false
      ∧ (u 2050).link = { Link.initial with tx := some (.notice (noticeContent (u 2050) .journal)) }
      ∧ (u 2049).link = { Link.initial with tx := some (.notice (noticeContent (u 2049) .line)), noticePending := 0x40#7 } ∧ (u 2049).line.monitor = .warning
      ∧ (u 2049).line.mode = .safeHold ∧ (u 2049).line.cause = some .supply ∧ (u 2049).line.flushDone = true) := by
  decide +kernel

/-- Sections, a newest record with an erased slot after it, an export mark and an incident, as the scan finds them. -/
theorem witness_ResetsTaken_scan :
    let r (q : Nat) : Slot := .good { aRecord with seq := q }
    let o (n : BitVec 16) : IncidentSlot := ⟨.good (openSnapshot up 0 n), .blank⟩
    let n : Nv := { up.nv with
      sections := vput (vput up.nv.sections (sectionIdx .budget) (.good (.budget ⟨500, 2⟩))) (sectionIdx .exported) (.good (.exported 3))
      journal := [(30, r 4), (31, r 5), (33, r 7), (34, .failed)]
      incidents := vput (vput up.nv.incidents 15 (o 15#16)) 0 (o 16#16) }
    let s : State := { up with nv := n }
    let u := startUp s
    s.cutNv = n ∧ n.sections[sectionIdx .budget] = .good (.budget ⟨500, 2⟩) ∧ n.sections[sectionIdx .exported] = .good (.exported 3)
    ∧ (33, r 7) ∈ s.cutNv.journal ∧ u.writer.nextSeq = 8 ∧ u.writer.current = 2 ∧ u.writer.used = 3 ∧ u.writer.mark = 3
    ∧ (startUp { s with nv := { n with sections := up.nv.sections } }).writer.mark = 3
    ∧ u.budget = ⟨500, 2⟩ ∧ (u.writer.valid[sectionIdx .budget] = true ∧ u.writer.valid[sectionIdx .bay] = false)
    ∧ (u.writer.aheads = [] ∧ u.writer.running = none) ∧ u.incident = ⟨16#16, none⟩
    ∧ (startUp up).writer.nextSeq = 1 ∧ (startUp up).incident = ⟨0#16, none⟩
    ∧ (startUp { s with nv := { n with journal := [(32, r 5), (48, .failed)] } }).writer.running
      = some (.erase (.journal 3) false false) := by decide +kernel

theorem witness_RebuildEnds :
    let p := aPack .inBay (some 0)
    let q := { aPack .quarantined (some 1) with tag := 8#32 }
    let s := { State.reset with rebuilt := some ⟨[p, q], [aLot], []⟩, gaps := [(8#32, 1)] }
    let v := [rebuiltPack s.gaps p, rebuiltPack s.gaps q]
    s.phase = .starting ∧ s.rebuilt = some ⟨[p, q], [aLot], []⟩
    ∧ v.find? (fun q => q.bay = some 0) = some (rebuiltPack s.gaps p) ∧ (rebuiltPack s.gaps p).state = .inBay
    ∧ v.find? (fun q => q.bay = some 1) = some (rebuiltPack s.gaps q) ∧ (rebuiltPack s.gaps q).state = .quarantined
    ∧ (rebuiltPack s.gaps q).gap = true ∧ (rebuiltPack [(8#32, 2)] q).gap = false
    ∧ v.find? (fun q => q.bay = some 7) = none ∧ (aPack .released (some 0)).bay.isSome = true := by decide +kernel

/-- The replay of a lot and a pack: admitted, placed, exposed, ready, staged, and fed; records without their ADMIT or their lot. -/
theorem witness_RebuildEnds_replay :
    let r (q : Nat) (k : RecordKind) (st : PackState) (b : Option BayId) (d : Detail) : Record :=
      ⟨q, k, ⟨0#32, true⟩, 7#32, 5#32, .pack st, b, 10, 0, 0, q, d⟩
    let lot (q : Nat) (k : RecordKind) (st : LotState) : Record := ⟨q, k, ⟨0#32, true⟩, 5#32, 5#32, .lot st, none, 0, 0, 0, 0, .none⟩
    let intake := r 2 .admitted .intake none (.admitted 0 10 1000 500 4000 false)
    let run (l : List Record) : Tables := l.foldl replayRecord ⟨[], [], []⟩
    let t := run [lot 1 .lotOpen .opened, intake, r 3 .placed .inBay (some 0) .none, r 4 .expose .inBay (some 0) (.incident 1#16),
      r 5 .ready .released (some 0) .none, r 6 .stage .staged (some 0) .none]
    (t.queue = [7#32] ∧ t.packs.map (fun p => (p.state, p.bay, p.exposure, p.charge)) = [(.staged, none, some ⟨1#16, false⟩, 6)])
    ∧ (let u := replayRecord t (r 7 .fed .feeding none (.fed false));
      u.packs = [] ∧ u.queue = [] ∧ u.lots = [⟨5#32, .opened, 1, 1, 0, 10, 500, 0, 1, 1⟩])
    ∧ (replayRecord t (r 7 .expose .feeding none (.incident 2#16))).packs.map Pack.state = [.staged]
    ∧ (replayRecord t (r 7 .quarantine .quarantined none (.quarantine .requested))).queue = []
    ∧ (run [intake]).lots = [⟨5#32, .closing, 1, 0, 0, 0, 0, 0, 2, 2⟩] ∧ run [r 3 .placed .inBay (some 0) .none] = ⟨[], [], []⟩
    ∧ (run [lot 1 .lotOpen .opened, lot 2 .lotClose .closing]).lots = [⟨5#32, .closing, 0, 0, 0, 0, 0, 0, 2, 1⟩]
    ∧ (run [lot 1 .lotOpen .opened, lot 2 .lotFinal .final]).lots = []
    ∧ AfterState.pack .intake = intake.after ∧ t.packs.find? (fun p => p.tag = 7#32) ≠ none := by decide +kernel

theorem witness_ArrayOperationsEnd :
    (busy (.journalProgram 1)).inReset = false ∧ (busy (.journalProgram 1)).writer.running = some (.journalProgram 1)
    ∧ ({ busy (.journalProgram 1) with line := { up.line with monitor := .warning } } : State).line.monitor = .warning
    ∧ (let c := closePart 1#16;
      let s := { busy .incidentProgram with
        writer := { (busy .incidentProgram).writer with incidents := [c] }
        nv := { up.nv with incidents := vput up.nv.incidents 2 ⟨.failed, .blank⟩ } };
      s.writer.running = some .incidentProgram ∧ s.writer.incidents = [c] ∧ c.isClosed = true
      ∧ EraseTarget.incident ((c.number.toNat + 1) % 16) ∉ s.writer.aheads
      ∧ s.writer.suspended ≠ some (.incident ((c.number.toNat + 1) % 16))
      ∧ slotErased s.nv.incidents[incidentSlotOf (c.number.toNat + 1)] = false)
    ∧ aPart.isClosed = false
    ∧ (busy (.settingsErase .bay)).writer.running = some (.settingsErase .bay)
    ∧ (busy (.settingsProgram .budget (.budget Budget.default))).writer.running = some (.settingsProgram .budget (.budget Budget.default))
    ∧ (busy (.erase (.journal 255) true false)).writer.running = some (.erase (.journal 255) true false)
    ∧ (busy (.erase (.incident 15) false true)).writer.running = some (.erase (.incident 15) false true)
    ∧ (busy (.read (.incident 1#16))).writer.running = some (.read (.incident 1#16))
    ∧ (let e : Entry := ⟨1#8, .known (.readIncident 1#16), .waiting (.read (.incident 1#16))⟩;
      e.stage = .waiting (.read (.incident 1#16))
      ∧ ∀ c ∈ [(⟨1#8, .known .readStatus, .untaken⟩ : Entry)], c.stage ≠ .waiting (.read (.incident 1#16))) := by decide +kernel

theorem witness_ArrayOperationsEnd_owed :
    let r (f : Writer → Writer) : State :=
      { up with nv := { up.nv with journal := [(16, .good { aRecord with seq := 1 }), (32, .good { aRecord with seq := 1 })] }
                writer := f { up.writer with current := 1, used := 1, mark := 1 } }
    let owed := r fun w => { w with buffer := [⟨aRecord, some 16⟩] }
    EraseTarget.journal 7 ∈ (r fun w => { w with aheads := [.journal 7] }).writer.aheads
    ∧ (owed.eraseOwed = some 1 ∧ owed.writer.journalEraseDue = false)
    ∧ ((r id).eraseOwed = none ∧ (r id).writer.next = 2 ∧ 0 < (r id).writer.used ∧ (r id).reusable 2 = true
      ∧ segErased (r id).nv.journal 2 = false)
    ∧ ((r fun w => { w with mark := 0 }).reusable 2 = false ∧ (r fun w => { w with used := 0 }).writer.used = 0
      ∧ segErased (r fun w => { w with current := 2 }).nv.journal 3 = true) := by decide +kernel

theorem witness_ArrayOperationsEnd_parts :
    let c := closePart 2#16
    let i (l : List IncidentPart) : State := writing fun w => { w with incidents := l, running := some .incidentProgram }
    (writing fun w => { w with droppedOpen := some 2#16 }).writer.droppedOpen = some c.number
    ∧ ((i [c, c, c]).writer.incidents.length < 4 ∧ (i [c, c, c]).writer.droppedOpen ≠ some c.number)
    ∧ ((i [c, aPart, c, c]).writer.incidents.drop 1 = [aPart] ++ c :: [c] ∧ (∀ q ∈ [aPart], q.isClosed = false) ∧ c.isClosed = true)
    ∧ (∀ q ∈ (i [c, aPart, aPart, aPart]).writer.incidents.drop 1, q.isClosed = false) := by decide +kernel

end Sys2Proof.Tests
end

section
/-! A request of the custody tables from its row to its end, the operations that write a pack's record or entry, and CLEAR_EXPOSURE and the custody reads (R10 to R12, R22). -/

namespace Sys2Proof.Machine

/-! ### A request of the custody tables (R1, R174) -/

/-- The row of a request of the custody tables, once its owner takes it: the owner acts on the state with the request queued. -/
theorem row_custody {s : State} {m : Byte} {k : Request} {c : Instr} {u : State} {st : Stage} (h : s.custodyTakes = true)
    (hc : k.row m = some c) (hr : k ≠ .restart) (hk : runRequest (s.withEntry m k .untaken) k = (u, st)) :
    exec c s = .next (if k.linkOnly then linkPump (u.withStage st) else finish s (u.withStage st)) := by
  have hn := takesNow_of_custodyTakes h
  rw [row_out (inReset_of_takesNow hn) hc, hostRequest_taken hn m k (takeable_custody h m k hr), hk]

/-- A custody request that leaves the journal alone, answered with nothing changed. -/
theorem custody_answered {s : State} {m : Byte} {k : Request} {c : Instr} {r : Reply} (h : s.custodyTakes = true)
    (hc : k.row m = some c) (hr : k ≠ .restart) (hl : k.linkOnly = true)
    (hk : runRequest (s.withEntry m k .untaken) k = (s.withEntry m k .untaken, .formed r)) :
    exec c s = .next (answered s m k r) := by
  rw [row_custody h hc hr hk, if_pos hl, withStage_withEntry (takesNow_of_custodyTakes h), answered]

/-- The row of CLEAR_EXPOSURE, by what its owner gives. -/
theorem exec_clearExposure {s : State} {m : Byte} {n : Tag} {u : State} {st : Stage} (h : s.custodyTakes = true)
    (hk : reqClearExposure (s.withEntry m (.clearExposure n) .untaken) n = (u, st)) :
    exec (.clearExposure m n) s = .next (finish s (u.withStage st)) :=
  row_custody (k := .clearExposure n) h rfl nofun hk

/-- CLEAR_EXPOSURE refused: the reply alone joins the queue. -/
theorem exec_clearExposure_refused {s : State} {m : Byte} {n : Tag} {st : Status} (h : s.custodyTakes = true)
    (hk : reqClearExposure (s.withEntry m (.clearExposure n) .untaken) n
      = (s.withEntry m (.clearExposure n) .untaken, refuse st)) :
    exec (.clearExposure m n) s = .next (finish s (s.withEntry m (.clearExposure n) (.formed ⟨st, .none⟩))) := by
  rw [exec_clearExposure h hk, withStage_withEntry (takesNow_of_custodyTakes h), refuse]

/-! ### The reads (R22) -/

theorem reqReadPack_zero (s : State) : reqReadPack s 0#32 = (s, refuse .outOfRange) := by simp [reqReadPack]

theorem reqReadPack_absent {s : State} {n : Tag} (hn : n ≠ 0#32) (hp : s.pack n = none) :
    reqReadPack s n = (s, refuse .notFound) := by simp [reqReadPack, hn, hp]

theorem reqReadPack_present {s : State} {n : Tag} {p : Pack} (hn : n ≠ 0#32) (hp : s.pack n = some p) :
    reqReadPack s n = (s, okay (.pack p (positionIn s.queue n))) := by simp [reqReadPack, hn, hp]

theorem reqReadLot_zero (s : State) : reqReadLot s 0#32 = (s, refuse .outOfRange) := by simp [reqReadLot]

theorem reqReadLot_absent {s : State} {n : Tag} (hn : n ≠ 0#32) (hl : s.lot n = none) :
    reqReadLot s n = (s, refuse .notFound) := by simp [reqReadLot, hn, hl]

theorem reqReadLot_present {s : State} {n : Tag} {l : Lot} (hn : n ≠ 0#32) (hl : s.lot n = some l) :
    reqReadLot s n = (s, okay (.lot l (l.admitted - l.fed - l.removed))) := by
  simp [reqReadLot, hn, hl, Lot.inCustody]

/-! ### The outcomes of CLEAR_EXPOSURE (R10) -/

theorem reqClearExposure_zero (s : State) : reqClearExposure s 0#32 = (s, refuse .outOfRange) := by
  simp [reqClearExposure]

theorem reqClearExposure_absent {s : State} {n : Tag} (hn : n ≠ 0#32) (hp : s.pack n = none) :
    reqClearExposure s n = (s, refuse .notFound) := by simp [reqClearExposure, hn, hp]

/-- Without an exposure to clear, or QUARANTINED, the pack's state refuses the request. -/
theorem reqClearExposure_wrongState {s : State} {n : Tag} {p : Pack} (hn : n ≠ 0#32) (hp : s.pack n = some p)
    (hw : p.exposure = none ∨ (∃ i, p.exposure = some ⟨i, true⟩) ∨ p.state = .quarantined) :
    reqClearExposure s n = (s, refuse .wrongState) := by
  rcases hw with he | ⟨i, he⟩ | hq
  · simp [reqClearExposure, hn, hp, he]
  · simp [reqClearExposure, hn, hp, he]
  · cases he : p.exposure <;> simp [reqClearExposure, hn, hp, he, hq]

section Exposed

variable {s : State} {n : Tag} {p : Pack} {i : BitVec 16} (hn : n ≠ 0#32) (hp : s.pack n = some p)
  (he : p.exposure = some ⟨i, false⟩)
include hn hp he

theorem reqClearExposure_busy (hq : p.state ≠ .quarantined) (hb : 48 < s.writer.buffer.length) : reqClearExposure s n = (s, refuse .busy) := by
  simp [reqClearExposure, hn, hp, he, hq, State.bufferShort, hb]

theorem reqClearExposure_written (hq : p.state ≠ .quarantined) (hb : s.writer.buffer.length ≤ 48) (hch : p.charge < 14) :
    reqClearExposure s n = (writePack s { p with exposure := some ⟨i, true⟩ } .exposeClear p.bay (.incident i),
      okay (.packState (some p.state))) := by
  simp [reqClearExposure, hn, hp, he, hq, State.bufferShort, Nat.not_lt.2 hb, hch]

theorem reqClearExposure_feeding (hb : s.writer.buffer.length ≤ 48) (hch : 14 ≤ p.charge) (hf : p.state = .feeding) :
    reqClearExposure s n = (putPack s { p with exposure := some ⟨i, true⟩ }, okay (.packState (some .feeding))) := by
  simp [reqClearExposure, hn, hp, he, hf, State.bufferShort, Nat.not_lt.2 hb, Nat.not_lt.2 hch]

theorem reqClearExposure_limited (hq : p.state ≠ .quarantined) (hb : s.writer.buffer.length ≤ 48) (hch : 14 ≤ p.charge)
    (hf : p.state ≠ .feeding) :
    reqClearExposure s n = (quarantinePack s p .recordLimit, limited) := by
  simp [reqClearExposure, hn, hp, he, hq, hf, State.bufferShort, Nat.not_lt.2 hb, Nat.not_lt.2 hch]

end Exposed

/-! ### What stays of the Link Port -/

/-- The queue, the pending classes and the change lists may hold anything; the rest of the Link Port is kept. -/
theorem linkKept_iff (s t : State) :
    LinkKept s t ↔ ∃ q c b p o, t.link = { s.link with
      queue := q, noticePending := c, baysChanged := b, packsChanged := p, overflow := o } := by
  constructor
  · exact fun h => ⟨_, _, _, _, _, h⟩
  · rintro ⟨q, c, b, p, o, h⟩
    rw [LinkKept, h]

theorem LinkKept.trans {s t u : State} (h₁ : LinkKept s t) (h₂ : LinkKept t u) : LinkKept s u := by
  obtain ⟨_, _, _, _, _, e₁⟩ := (linkKept_iff s t).1 h₁
  obtain ⟨_, _, _, _, _, e₂⟩ := (linkKept_iff t u).1 h₂
  exact (linkKept_iff s u).2 ⟨_, _, _, _, _, by rw [e₂, e₁]⟩

theorem linkKept_withEntry (s : State) (m : Byte) (k : Request) (st : Stage) : LinkKept s (s.withEntry m k st) := rfl

theorem linkKept_withStage (s : State) (st : Stage) : LinkKept s (s.withStage st) := rfl

/-- A pack listed changes the list, its overflow mark and the pending classes alone. -/
theorem linkKept_listPack (s : State) (t : Tag) (e : Option ExitKind) : LinkKept s (s.listPack t e) := by
  unfold LinkKept State.listPack Link.listPack
  split_ifs <;> rfl

/-- The requests queued once a request's owner, having left the queue alone, has given its stage. -/
theorem queued_withStage {s u : State} {m : Byte} {k : Request} (h : s.takesNow = true)
    (hu : u.link.queue = (s.withEntry m k .untaken).link.queue) (st : Stage) : Queued s (u.withStage st) m k st := by
  have hs := congrArg (fun t => t.link.queue) (withStage_withEntry h m k st)
  calc (u.withStage st).link.queue = ((s.withEntry m k .untaken).withStage st).link.queue := congrArg (setUntaken st) hu
    _ = s.link.queue ++ [⟨m, .known k, st⟩] := hs

/-! ### A record accepted (R155, R157) -/

/-- Of the whole state, the erases queued ahead alone may differ (R158). -/
theorem queueJournalErase_eq (s : State) (seg : Nat) :
    queueJournalErase s seg = { s with writer := { s.writer with aheads := (queueJournalErase s seg).writer.aheads } } := by
  unfold queueJournalErase; split <;> rfl

theorem eraseAhead_eq (s : State) :
    eraseAhead s = { s with writer := { s.writer with aheads := (eraseAhead s).writer.aheads } } := by
  unfold eraseAhead
  dsimp only
  split
  · exact queueJournalErase_eq s _
  · rfl

/-- The assignment of a slot moves the current segment, its used slots and the erases queued ahead alone. -/
theorem assignSlot_eq (s : State) :
    ∃ c u a, (assignSlot s).1 = { s with writer := { s.writer with current := c, used := u, aheads := a } } := by
  unfold assignSlot
  dsimp only
  split
  · split
    · exact ⟨_, _, _, eraseAhead_eq _⟩
    · exact ⟨_, _, _, rfl⟩
  · split
    · rw [eraseAhead_eq]
      split
      · exact ⟨_, _, _, rfl⟩
      · rw [queueJournalErase_eq]
        exact ⟨_, _, _, rfl⟩
    · exact ⟨_, _, _, rfl⟩

/-- The state with the record of draft `d` buffered at `slot`, the ring standing at `c`, `u` and `a`. -/
def State.withRecord (s : State) (d : Draft) (slot : Option Nat) (c u : Nat) (a : List EraseTarget) : State :=
  { s with writer := { s.writer with
      buffer := s.writer.buffer ++ [⟨d.record s.writer.nextSeq s.clock, slot⟩], nextSeq := s.writer.nextSeq + 1
      current := c, used := u, aheads := a } }

/-- An accepted record is buffered; where it clears the flush-done mark, LINE becomes pending besides (R152). -/
theorem accept_cases (s : State) (d : Draft) :
    ∃ slot c u a, accept s d = s.withRecord d slot c u a
      ∨ accept s d = State.mark { s.withRecord d slot c u a with line := { s.line with flushDone := false } } .line := by
  have hslot : ∃ slot c u a, (if s.writer.buffer.any (fun b => b.slot.isNone) then (s, none) else assignSlot s)
      = ({ s with writer := { s.writer with current := c, used := u, aheads := a } }, slot) := by
    split
    · exact ⟨_, _, _, _, rfl⟩
    · obtain ⟨c, u, a, h⟩ := assignSlot_eq s
      exact ⟨_, c, u, a, Prod.ext h rfl⟩
  obtain ⟨slot, c, u, a, hs⟩ := hslot
  refine ⟨slot, c, u, a, ?_⟩
  unfold accept
  dsimp only
  rw [hs]
  split
  · exact .inr rfl
  · exact .inl rfl

theorem accepts_accept (s : State) (d : Draft) : Accepts s (accept s d) [d] := by
  obtain ⟨slot, c, u, a, h | h⟩ := accept_cases s d <;> rw [h] <;> exact ⟨⟨_, rfl, rfl⟩, rfl, rfl⟩

theorem linkKept_accept (s : State) (d : Draft) : LinkKept s (accept s d) := by
  obtain ⟨slot, c, u, a, h | h⟩ := accept_cases s d <;> rw [h] <;> rfl

/-- An accepted record leaves everything but the Journal Writer, the line and the Link Port alone. -/
theorem accept_eq (s : State) (d : Draft) :
    accept s d = { s with
      writer := (accept s d).writer, line := (accept s d).line, link := (accept s d).link } := by
  obtain ⟨slot, c, u, a, h | h⟩ := accept_cases s d <;> rw [h] <;> rfl

/-! ### A pack's entry replaced, with and without a record (R11, R12) -/

/-- The entry found under a tag carries it. -/
theorem tag_of_pack {s : State} {n : Tag} {p : Pack} (h : s.pack n = some p) : p.tag = n := by
  simpa using List.find?_some h

theorem pack_putPack {s : State} {p : Pack} (h : (s.pack p.tag).isSome) : (putPack s p).pack p.tag = some p :=
  pack_setPack s p h

theorem otherPacks_putPack (s : State) (p : Pack) : OtherPacks p.tag s (putPack s p) :=
  fun t ht => pack_setPack_other s p t ht

theorem linkKept_putPack (s : State) (p : Pack) : LinkKept s (putPack s p) := linkKept_listPack (s.setPack p) _ _

theorem queue_putPack (s : State) (p : Pack) : (putPack s p).link.queue = s.link.queue :=
  congrArg Core.requests (putPack_core s p)

/-- The entry of the pack's tag, with its charge counted, and the record that carries it are all a pack's record writes. -/
theorem writePack_written {s : State} {p : Pack} (h : (s.pack p.tag).isSome) (k : RecordKind) (bay : Option BayId) (d : Detail) :
    PackWritten s (writePack s p k bay d) p.counted (packDraft p.counted k bay d) := by
  let a := accept s (packDraft p.counted k bay d)
  have ha : a = { s with writer := a.writer, line := a.line, link := a.link } := accept_eq s _
  have hpack (t : Tag) : a.pack t = s.pack t := by rw [ha]; rfl
  refine ⟨pack_putPack (s := a) (p := p.counted) (by rw [hpack]; exact h), fun t ht => ?_,
    accepts_accept s _, (linkKept_accept s _).trans (linkKept_putPack a _),
    congrArg Core.requests (writePack_core s p k bay d), ?_⟩
  · exact (otherPacks_putPack a p.counted t ht).trans (hpack t)
  · unfold writePack
    dsimp only
    rw [accept_eq]
    rfl

/-! ### CLEAR_EXPOSURE (R10) -/

section ClearExposure

variable {s : State} {m : Byte} {n : Tag} {p : Pack} {i : BitVec 16} (h : s.custodyTakes = true) (hn : n ≠ 0#32)
  (hp : s.pack n = some p) (he : p.exposure = some ⟨i, false⟩) (hb : s.writer.buffer.length ≤ 48)
include h hn hp he hb

/-- Below record charge 14 the exposure is cleared with an EXPOSE_CLEAR record. -/
theorem clearExposure_written (hq : p.state ≠ .quarantined) (hch : p.charge < 14) :
    ∃ t, exec (.clearExposure m n) s = .next (finish s t)
      ∧ Queued s t m (.clearExposure n) (.formed ⟨.ok, .packState (some p.state)⟩)
      ∧ t.pack n = some { p with exposure := some ⟨i, true⟩, charge := p.charge + 1 } ∧ OtherPacks n s t
      ∧ Accepts s t [⟨.exposeClear, n, p.lot, .pack p.state, p.bay, p.energy, p.trips, p.rebounds, p.charge + 1, .incident i⟩]
      ∧ LinkKept s t
      ∧ t = { s with packs := t.packs, writer := t.writer, line := t.line, link := t.link } := by
  obtain rfl := tag_of_pack hp
  let j := s.withEntry m (.clearExposure p.tag) .untaken
  let st := okay (.packState (some p.state))
  have hj : (j.pack p.tag).isSome := Option.isSome_of_eq_some hp
  obtain ⟨hpack, hother, haccepts, hlink, hqueue, hframe⟩ :=
    writePack_written (s := j) (p := { p with exposure := some ⟨i, true⟩ }) hj .exposeClear p.bay (.incident i)
  exact ⟨_, exec_clearExposure h (reqClearExposure_written hn hp he hq hb hch),
    queued_withStage (takesNow_of_custodyTakes h) hqueue st, hpack, hother, haccepts,
    (linkKept_withEntry s m _ .untaken).trans (hlink.trans (linkKept_withStage _ st)), congrArg (fun t => t.withStage st) hframe⟩

/-- A FEEDING pack at record charge 14 has its exposure cleared without a record. -/
theorem clearExposure_feeding (hch : 14 ≤ p.charge) (hf : p.state = .feeding) :
    ∃ t, exec (.clearExposure m n) s = .next (finish s t)
      ∧ Queued s t m (.clearExposure n) (.formed ⟨.ok, .packState (some .feeding)⟩)
      ∧ t.pack n = some { p with exposure := some ⟨i, true⟩ } ∧ OtherPacks n s t ∧ LinkKept s t
      ∧ t = { s with packs := t.packs, link := t.link } := by
  obtain rfl := tag_of_pack hp
  let j := s.withEntry m (.clearExposure p.tag) .untaken
  let q : Pack := { p with exposure := some ⟨i, true⟩ }
  let st := okay (.packState (some .feeding))
  have hj : (j.pack q.tag).isSome := Option.isSome_of_eq_some hp
  exact ⟨_, exec_clearExposure h (reqClearExposure_feeding hn hp he hb hch hf),
    queued_withStage (takesNow_of_custodyTakes h) (queue_putPack j q) st, pack_putPack hj, otherPacks_putPack j q,
    (linkKept_withEntry s m _ .untaken).trans ((linkKept_putPack j q).trans (linkKept_withStage _ st)), rfl⟩

end ClearExposure

/-- Settles O32: each outcome of `reqClearExposure`, carried through the request's row. -/
theorem exposureCleared : Obligations.ExposureCleared := by
  refine ⟨fun s m n p i h hn hp he hq hb => ⟨?_, ?_, ?_⟩, fun s m n h => ⟨?_, ?_, ?_, ?_⟩⟩
  · exact clearExposure_written h hn hp he hb hq
  · exact clearExposure_feeding h hn hp he hb
  · intro hch hf
    exact exec_clearExposure h (reqClearExposure_limited hn hp he hq hb hch hf)
  · rintro rfl
    exact exec_clearExposure_refused h (reqClearExposure_zero _)
  · intro hn hp
    exact exec_clearExposure_refused h (reqClearExposure_absent hn hp)
  · intro p hn hp hw
    exact exec_clearExposure_refused h (reqClearExposure_wrongState hn hp hw)
  · intro p i hn hp he hq hb
    exact exec_clearExposure_refused h (reqClearExposure_busy hn hp he hq hb)

/-- Settles O14: each read hands back the state it was given, so its row ends with the answer alone. -/
theorem custodyReads : Obligations.CustodyReads := by
  intro s m n h
  refine ⟨?_, ?_, ?_, ?_, ?_, ?_, ?_, rfl, rfl, rfl, rfl⟩
  · exact custody_answered (k := .readPack _) h rfl nofun rfl (reqReadPack_zero _)
  · intro hn hp
    exact custody_answered (k := .readPack _) h rfl nofun rfl (reqReadPack_absent hn hp)
  · intro p hn hp
    exact custody_answered (k := .readPack _) h rfl nofun rfl (reqReadPack_present hn hp)
  · exact custody_answered (k := .readLot _) h rfl nofun rfl (reqReadLot_zero _)
  · intro hn hl
    exact custody_answered (k := .readLot _) h rfl nofun rfl (reqReadLot_absent hn hl)
  · intro l hn hl
    exact custody_answered (k := .readLot _) h rfl nofun rfl (reqReadLot_present hn hl)
  · exact custody_answered (k := .readQueue) h rfl nofun rfl rfl

end Sys2Proof.Machine
end

section
/-! The feeder's following of its block reasons, the moves of the interlock, and SHRED_START, SHRED_STOP,
the running feedback and the shredder's timers (R132 to R137). -/

namespace Sys2Proof.Machine

/-! ### A step out of reset, and what the core and the plant say of a state -/

/-- Out of reset a step does what its row says. -/
theorem live_out {s : State} (h : s.inReset = false) (f : State → State) : live s f = .next (f s) := by simp [live, h]

/-- The core holds all of the Link Port that `LinkKept` keeps. -/
theorem linkKept_of_core {s t : State} (h : t.core = s.core) : LinkKept s t := by
  have hrx : t.link.rx = s.link.rx := congrArg Core.rx h
  have hgap : t.link.gap = s.link.gap := congrArg Core.gap h
  have hdiscards : t.link.discards = s.link.discards := congrArg Core.discards h
  have hrequests : t.link.discardedRequests = s.link.discardedRequests := congrArg Core.discardedRequests h
  have htx : t.link.tx = s.link.tx := congrArg Core.tx h
  have hsubscribed : t.link.subscribed = s.link.subscribed := congrArg Core.subscribed h
  have hrestart : t.link.restart = s.link.restart := congrArg Core.restart h
  unfold LinkKept
  dsimp only
  rw [← hrx, ← hgap, ← hdiscards, ← hrequests, ← htx, ← hsubscribed, ← hrestart]

/-- The block reasons read the plant and the re-settle timer (R137). -/
theorem blockReasons_of_plant {s t : State} (h : s.plant = t.plant) (hr : s.feeder.resettleTimer = t.feeder.resettleTimer) :
    s.blockReasons = t.blockReasons := by
  have hmode : s.line.mode = t.line.mode := congrArg Plant.mode h
  have hatm : s.atm = t.atm := congrArg Plant.atm h
  have heffect : s.effect = t.effect := congrArg Plant.effect h
  simp only [State.blockReasons, hmode, hatm, interlock_of_plant h, heffect, hr]

/-! ### What the feeder's operations may change -/

/-- At most the packs, the held events, the feeder and the Link Port differ. -/
def FeederOnly (s t : State) : Prop := t = { s with packs := t.packs, held := t.held, feeder := t.feeder, link := t.link }

theorem feederOnly_iff (s t : State) : FeederOnly s t ↔ ∃ p h f l, t = { s with packs := p, held := h, feeder := f, link := l } := by
  constructor
  · exact fun h => ⟨_, _, _, _, h⟩
  · rintro ⟨p, h, f, l, e⟩
    rw [FeederOnly, e]

theorem FeederOnly.trans {s t u : State} (h₁ : FeederOnly s t) (h₂ : FeederOnly t u) : FeederOnly s u := by
  obtain ⟨_, _, _, _, e₁⟩ := (feederOnly_iff s t).1 h₁
  obtain ⟨_, _, _, _, e₂⟩ := (feederOnly_iff t u).1 h₂
  exact (feederOnly_iff s u).2 ⟨_, _, _, _, by rw [e₂, e₁]⟩

/-- A notice class made pending changes the Link Port alone. -/
theorem markIf_eq (s : State) (d : Bool) (c : NoticeClass) : s.markIf d c = { s with link := (s.markIf d c).link } := by
  unfold State.markIf; split <;> rfl

theorem putFeeder_eq (s : State) (x : Feeder) : putFeeder s x = { s with feeder := x, link := (putFeeder s x).link } :=
  markIf_eq _ _ _

@[simp] theorem feeder_putFeeder (s : State) (x : Feeder) : (putFeeder s x).feeder = x := by rw [putFeeder_eq]

theorem feederOnly_putFeeder (s : State) (x : Feeder) : FeederOnly s (putFeeder s x) :=
  (feederOnly_iff _ _).2 ⟨_, _, _, _, putFeeder_eq s x⟩

/-- A FEEDING event submitted changes a pack's entry, or is held: it writes no record (R15). -/
theorem submit_feeding_eq (s : State) (t : Tag) :
    ∃ p h l, (submit s (.feeding t)).1 = { s with packs := p, held := h, link := l } := by
  unfold submit
  dsimp only [applyEvent]
  split
  · unfold takeFeeding
    split <;> exact ⟨_, _, _, rfl⟩
  · exact ⟨_, _, _, rfl⟩

@[simp] theorem feeder_submit_feeding (s : State) (t : Tag) : (submit s (.feeding t)).1.feeder = s.feeder := by
  obtain ⟨_, _, _, e⟩ := submit_feeding_eq s t
  rw [e]

theorem feederOnly_submit_feeding (s : State) (t : Tag) : FeederOnly s (submit s (.feeding t)).1 := by
  obtain ⟨_, _, _, e⟩ := submit_feeding_eq s t
  exact (feederOnly_iff _ _).2 ⟨_, _, _, _, e⟩

/-- A look for a feed finds none, submits FEEDING for the head, or starts the feed once that is taken (R138). -/
theorem tryFeed_cases (s : State) :
    tryFeed s = s ∨ ∃ t, tryFeed s = (submit s (.feeding t)).1 ∨ tryFeed s = openFeed (submit s (.feeding t)).1 t := by
  unfold tryFeed
  split
  · exact .inl rfl
  · rename_i t _ _
    split
    · refine .inr ⟨t, ?_⟩
      split
      · rename_i u hu
        exact .inr (by rw [hu])
      · rename_i u _ _ hu
        exact .inl (by rw [hu])
    · exact .inl rfl

theorem feederOnly_tryFeed (s : State) : FeederOnly s (tryFeed s) := by
  obtain h | ⟨t, h | h⟩ := tryFeed_cases s <;> rw [h]
  · exact rfl
  · exact feederOnly_submit_feeding s t
  · exact (feederOnly_submit_feeding s t).trans (feederOnly_putFeeder _ _)

/-- A look for a feed leaves the block-reason set and the re-settle timer alone. -/
theorem feeder_tryFeed (s : State) :
    (tryFeed s).feeder.reasons = s.feeder.reasons ∧ (tryFeed s).feeder.resettleTimer = s.feeder.resettleTimer := by
  obtain h | ⟨t, h | h⟩ := tryFeed_cases s <;> rw [h]
  · exact ⟨rfl, rfl⟩
  · simp
  · simp [openFeed]

/-- The feeder takes its block reasons as its sources give them, and where that makes it READY looks for a feed (R137). -/
theorem updateFeeder_cases (s : State) :
    ∃ st, updateFeeder s = putFeeder s { s.feeder with reasons := s.blockReasons, state := st }
      ∨ updateFeeder s = tryFeed (putFeeder s { s.feeder with reasons := s.blockReasons, state := st }) := by
  unfold updateFeeder
  dsimp only
  split
  case h_1 =>
    split
    · exact ⟨_, .inr rfl⟩
    · exact ⟨s.feeder.state, .inl rfl⟩
  case h_2 =>
    split
    · exact ⟨s.feeder.state, .inl rfl⟩
    · exact ⟨_, .inl rfl⟩
  all_goals exact ⟨s.feeder.state, .inl rfl⟩

theorem feederOnly_updateFeeder (s : State) : FeederOnly s (updateFeeder s) := by
  obtain ⟨st, h | h⟩ := updateFeeder_cases s <;> rw [h]
  · exact feederOnly_putFeeder _ _
  · exact (feederOnly_putFeeder _ _).trans (feederOnly_tryFeed _)

theorem feeder_updateFeeder (s : State) :
    (updateFeeder s).feeder.reasons = s.blockReasons ∧ (updateFeeder s).feeder.resettleTimer = s.feeder.resettleTimer := by
  obtain ⟨st, h | h⟩ := updateFeeder_cases s <;> rw [h]
  · simp
  · simpa using feeder_tryFeed (putFeeder s { s.feeder with reasons := s.blockReasons, state := st })

/-- Once the feeder has followed, its set is the one its sources give. -/
theorem reasons_updateFeeder (s : State) : (updateFeeder s).feeder.reasons = (updateFeeder s).blockReasons :=
  (feeder_updateFeeder s).1.trans (blockReasons_of_plant (updateFeeder_plant s).symm (feeder_updateFeeder s).2.symm)

/-! ### A move of the interlock (R132) -/

/-- The interlock has become `x` and the feeder has followed: of the rest, only packs, held events and the Link Port's pending classes
and lists may differ. -/
structure InterlockMoved (s t : State) (x : Interlock) : Prop where
  interlock : t.interlock = x
  reasons : t.feeder.reasons = t.blockReasons
  core : t.core = s.core
  frame : t = { s with packs := t.packs, held := t.held, interlock := t.interlock, feeder := t.feeder, link := t.link }

theorem putInterlock_eq (s : State) (x : Interlock) :
    putInterlock s x = { s with interlock := x, link := (putInterlock s x).link } :=
  markIf_eq _ _ _

theorem moveInterlock_moved (s : State) (x : Interlock) : InterlockMoved s (moveInterlock s x) x where
  interlock := (interlock_of_plant (updateFeeder_plant _)).trans (interlock_putInterlock s x)
  reasons := reasons_updateFeeder _
  core := moveInterlock_core s x
  frame := by
    obtain ⟨_, _, _, _, e⟩ := (feederOnly_iff _ _).1 (feederOnly_updateFeeder (putInterlock s x))
    rw [moveInterlock, e, putInterlock_eq]

/-! ### A request of the shredder from its row to its end (R174) -/

/-- The row of a request other than RESTART and those of the custody tables: the owner acts on the state with the request queued. -/
theorem row_plain {s : State} {m : Byte} {k : Request} {c : Instr} {u : State} {st : Stage} (h : s.takesNow = true)
    (hc : k.row m = some c) (hp : k.custodial = false) (hr : k ≠ .restart) (hk : runRequest (s.withEntry m k .untaken) k = (u, st)) :
    exec c s = .next (if k.linkOnly then linkPump (u.withStage st) else finish s (u.withStage st)) := by
  rw [row_out (inReset_of_takesNow h) hc, hostRequest_taken h m k (takeable_plain h m k hp hr), hk]

/-- SHRED_START and SHRED_STOP, the requests of the interlock. -/
def Request.OfShredder (k : Request) : Prop := k = .shredStart ∨ k = .shredStop

/-- A request of the interlock answered with nothing changed: the reply alone joins the queue. -/
theorem shredder_answered {s : State} {m : Byte} {k : Request} {c : Instr} {st : Stage} (h : s.takesNow = true) (hs : k.OfShredder)
    (hc : k.row m = some c) (hk : runRequest (s.withEntry m k .untaken) k = (s.withEntry m k .untaken, st)) :
    exec c s = .next (finish s (s.withEntry m k st)) := by
  obtain rfl | rfl := hs <;> rw [row_plain h hc rfl nofun hk, withStage_withEntry h] <;> rfl

/-- A request of the interlock that moves it to `y`. -/
theorem shredder_moved {s : State} {m : Byte} {k : Request} {c : Instr} {y : Interlock} {st : Stage} (h : s.takesNow = true)
    (hs : k.OfShredder) (hc : k.row m = some c)
    (hk : runRequest (s.withEntry m k .untaken) k = (moveInterlock (s.withEntry m k .untaken) y, st)) :
    ∃ t, exec c s = .next (finish s t) ∧ Queued s t m k st ∧ t.interlock = y ∧ t.feeder.reasons = t.blockReasons ∧ LinkKept s t
      ∧ t = { s with packs := t.packs, held := t.held, interlock := t.interlock, feeder := t.feeder, link := t.link } := by
  obtain ⟨hinterlock, hreasons, hcore, hframe⟩ := moveInterlock_moved (s.withEntry m k .untaken) y
  refine ⟨_, ?_, queued_withStage h (congrArg Core.requests hcore) st, hinterlock, hreasons,
    (linkKept_withEntry s m k .untaken).trans ((linkKept_of_core hcore).trans (linkKept_withStage _ st)),
    congrArg (fun t => t.withStage st) hframe⟩
  obtain rfl | rfl := hs <;> exact row_plain h hc rfl nofun hk

/-! ### The outcomes of SHRED_START (R134) -/

theorem reqShredStart_moving {s : State} (hx : s.interlock.state ≠ .stopped) : reqShredStart s = (s, refuseStart s .wrongState) := by
  simp [reqShredStart, hx]

section Stopped

variable {s : State} (hx : s.interlock.state = .stopped)
include hx

theorem reqShredStart_feedback (hf : s.feedback = true) : reqShredStart s = (s, refuseStart s .wrongState) := by
  simp [reqShredStart, hx, hf]

theorem reqShredStart_mode (hf : s.feedback = false) (hm : s.runConditions.mode = false) :
    reqShredStart s = (s, refuseStart s .wrongMode) := by simp [reqShredStart, hx, hf, hm]

theorem reqShredStart_unmet (hf : s.feedback = false) (hm : s.runConditions.mode = true) (hc : s.runConditions.met = false) :
    reqShredStart s = (s, refuseStart s .wrongState) := by simp [reqShredStart, hx, hf, hm, hc]

theorem reqShredStart_accepted (hf : s.feedback = false) (hc : s.runConditions.met = true) :
    reqShredStart s = (moveInterlock s { s.interlock with state := .starting, startTimer := some 10000 }, okay (.interlock .starting)) := by
  have hm : s.runConditions.mode = true := by
    simp only [RunConditions.met, Bool.and_eq_true] at hc
    exact hc.1.1.1.2
  simp [reqShredStart, hx, hf, hm, hc]

end Stopped

/-- The mode condition of run permission is PRODUCTION or DRAIN (R144). -/
theorem runConditions_mode_iff (s : State) : s.runConditions.mode = true ↔ s.line.mode = .production ∨ s.line.mode = .drain := by
  simp [State.runConditions, modeRuns]

/-! ### The outcomes of SHRED_STOP (R136) -/

theorem reqShredStop_on {s : State} (hx : s.interlock.state = .starting ∨ s.interlock.state = .running) :
    reqShredStop s = (moveInterlock s s.interlock.stop, okay (.interlock .stopping)) := by
  obtain hx | hx := hx <;> simp [reqShredStop, hx]

theorem reqShredStop_stopping {s : State} (hx : s.interlock.state = .stopping) : reqShredStop s = (s, okay (.interlock .stopping)) := by
  simp [reqShredStop, hx]

theorem reqShredStop_stopped {s : State} (hx : s.interlock.state = .stopped) : reqShredStop s = (s, okay (.interlock .stopped)) := by
  simp [reqShredStop, hx]

theorem reqShredStop_clears {s : State} (hx : s.interlock.state = .fault) (hf : s.feedback = false) :
    reqShredStop s = (moveInterlock s { s.interlock with state := .stopped, cause := none }, okay (.interlock .stopped)) := by
  simp [reqShredStop, hx, hf]

theorem reqShredStop_feedback {s : State} (hx : s.interlock.state = .fault) (hf : s.feedback = true) :
    reqShredStop s = (s, refuse .wrongState) := by simp [reqShredStop, hx, hf]

/-! ### The running feedback (R135, R149) -/

/-- The running feedback is conditioned at `v`, a change of its level: LINE is pending. -/
def State.feedbackConditioned (s : State) (v : Bool) : State :=
  State.mark { s with line := { s.line with inputs := { s.line.inputs with
    shredRunning := { s.line.inputs.shredRunning with cond := some v, debounce := none } } } } .line

/-- A level that differs from the one taken before goes to the interlock (R135, R150). -/
theorem conditioned_feedback {s : State} {v : Bool} (hd : s.line.inputs.shredRunning.debounce.isSome = true)
    (hr : s.line.inputs.shredRunning.raw = v) (hf : s.feedback = !v) :
    conditioned s .shredRunning = feedbackChange (s.feedbackConditioned v) v := by
  have hl : s.level .shredRunning = !v := hf
  simp [conditioned, Inputs.get, Inputs.put, hd, hr, hl, inputTaken, State.markIf, State.feedbackConditioned]

/-- A running feedback taken with the outcome `u`: what INPUT_CONDITIONED then does. -/
theorem exec_feedbackConditioned {s u : State} {v : Bool} (h : s.inReset = false)
    (hd : s.line.inputs.shredRunning.debounce.isSome = true) (hr : s.line.inputs.shredRunning.raw = v) (hf : s.feedback = !v)
    (hu : feedbackChange (s.feedbackConditioned v) v = u) : exec (.inputConditioned .shredRunning) s = .next (finish s u) := by
  calc exec (.inputConditioned .shredRunning) s = .next (finish s (conditioned s .shredRunning)) :=
        live_out h (fun s => finish s (conditioned s .shredRunning))
    _ = .next (finish s u) := by rw [conditioned_feedback hd hr hf, hu]

/-- What the conditioned feedback and the interlock's answer to it leave: the interlock is `y`, the feedback `v`. -/
structure FeedbackTaken (s t : State) (v : Bool) (y : Interlock) : Prop where
  interlock : t.interlock = y
  feedback : t.feedback = v
  link : LinkKept s t
  frame : t = { s with
    packs := t.packs, held := t.held, interlock := t.interlock, feeder := t.feeder, line := t.line, link := t.link }

theorem feedbackTaken_moved (s : State) (v : Bool) (y : Interlock) :
    FeedbackTaken s (moveInterlock (s.feedbackConditioned v) y) v y := by
  obtain ⟨hinterlock, -, hcore, hframe⟩ := moveInterlock_moved (s.feedbackConditioned v) y
  have hinputs : (moveInterlock (s.feedbackConditioned v) y).line.inputs = (s.feedbackConditioned v).line.inputs :=
    congrArg Core.inputs hcore
  refine ⟨hinterlock, ?_, LinkKept.trans (t := s.feedbackConditioned v) rfl (linkKept_of_core hcore), ?_⟩
  · rw [State.feedback, State.level, hinputs]
    rfl
  · rw [hframe]
    rfl

theorem feedbackTaken_unmoved (s : State) (v : Bool) : FeedbackTaken s (s.feedbackConditioned v) v s.interlock :=
  ⟨rfl, rfl, rfl, rfl⟩

/-- The states in which a change of the running feedback to `v` leaves the interlock alone (R135). -/
theorem feedbackChange_unmoved {s : State} {v : Bool}
    (hx : s.interlock.state = .stopped ∨ s.interlock.state = .fault ∨ (s.interlock.state = .starting ∧ v = false)
      ∨ (s.interlock.state = .running ∧ v = true) ∨ (s.interlock.state = .stopping ∧ v = true)) :
    feedbackChange s v = s := by
  obtain hx | hx | ⟨hx, rfl⟩ | ⟨hx, rfl⟩ | ⟨hx, rfl⟩ := hx <;> simp [feedbackChange, hx]

theorem feedbackChange_starting {s : State} (hx : s.interlock.state = .starting) :
    feedbackChange s true = moveInterlock s { s.interlock with state := .running, startTimer := none } := by
  simp [feedbackChange, hx]

theorem feedbackChange_running {s : State} (hx : s.interlock.state = .running) :
    feedbackChange s false = moveInterlock s (s.interlock.fail .feedbackLost) := by simp [feedbackChange, hx]

theorem feedbackChange_stopping {s : State} (hx : s.interlock.state = .stopping) :
    feedbackChange s false = moveInterlock s { s.interlock with state := .stopped, rundownTimer := none } := by
  simp [feedbackChange, hx]

/-- A conditioned change of the running feedback, by the interlock's answer to it. -/
theorem feedbackChange_taken {s t : State} {v : Bool} {y : Interlock} (h : s.inReset = false)
    (hd : s.line.inputs.shredRunning.debounce.isSome = true) (hr : s.line.inputs.shredRunning.raw = v) (hf : s.feedback = !v)
    (hu : feedbackChange (s.feedbackConditioned v) v = t) (ht : FeedbackTaken s t v y) :
    ∃ t, exec (.inputConditioned .shredRunning) s = .next (finish s t) ∧ t.interlock = y ∧ t.feedback = v ∧ LinkKept s t
      ∧ t = { s with
          packs := t.packs, held := t.held, interlock := t.interlock, feeder := t.feeder, line := t.line, link := t.link } :=
  ⟨t, exec_feedbackConditioned h hd hr hf hu, ht.interlock, ht.feedback, ht.link, ht.frame⟩

/-! ### The start timer and the rundown timer (R135, R136) -/

theorem exec_startTimerExpiry {s : State} (h : s.inReset = false) (hx : s.interlock.state = .starting)
    (ht : s.interlock.startTimer.isSome = true) :
    exec .startTimerExpiry s = .next (finish s (moveInterlock s (s.interlock.fail .startTimeout))) :=
  calc exec .startTimerExpiry s = .next (finish s (startOut s)) := live_out h (fun s => finish s (startOut s))
    _ = .next (finish s (moveInterlock s (s.interlock.fail .startTimeout))) := by simp [startOut, hx, ht]

theorem exec_rundownTimerExpiry {s : State} (h : s.inReset = false) (hx : s.interlock.state = .stopping)
    (ht : s.interlock.rundownTimer.isSome = true) :
    exec .rundownTimerExpiry s = .next (finish s (moveInterlock s (s.interlock.fail .rundownTimeout))) :=
  calc exec .rundownTimerExpiry s = .next (finish s (rundownOut s)) := live_out h (fun s => finish s (rundownOut s))
    _ = .next (finish s (moveInterlock s (s.interlock.fail .rundownTimeout))) := by simp [rundownOut, hx, ht]

/-- A step that moves the interlock to `y` and does nothing else. -/
theorem interlock_moved {s : State} {c : Instr} {y : Interlock} (he : exec c s = .next (finish s (moveInterlock s y))) :
    ∃ t, exec c s = .next (finish s t) ∧ t.interlock = y ∧ t.feeder.reasons = t.blockReasons ∧ LinkKept s t
      ∧ t = { s with packs := t.packs, held := t.held, interlock := t.interlock, feeder := t.feeder, link := t.link } := by
  obtain ⟨hinterlock, hreasons, hcore, hframe⟩ := moveInterlock_moved s y
  exact ⟨_, he, hinterlock, hreasons, linkKept_of_core hcore, hframe⟩

/-- Settles O39: each outcome of the two requests carried through their rows, each answer of the interlock to the running feedback, and
the two timers. -/
theorem shredderTaken : Obligations.ShredderTaken := by
  refine ⟨fun s m h => ?_, fun s v h hd hr hf => ?_, fun s h => ?_⟩
  · have start : Request.OfShredder .shredStart := .inl rfl
    have stop : Request.OfShredder .shredStop := .inr rfl
    refine ⟨?_, ?_, ?_, ?_, ?_, ?_, ?_, ?_, ?_, ?_⟩
    · intro hx
      exact shredder_answered h start rfl (reqShredStart_moving hx)
    · intro hx hf
      exact shredder_answered h start rfl (reqShredStart_feedback hx hf)
    · intro hx hf hp hd
      have hm : s.runConditions.mode = false := by
        rw [Bool.eq_false_iff, Ne, runConditions_mode_iff]
        exact not_or.2 ⟨hp, hd⟩
      exact shredder_answered h start rfl (reqShredStart_mode hx hf hm)
    · intro hx hf hm hc
      exact shredder_answered h start rfl (reqShredStart_unmet hx hf ((runConditions_mode_iff s).2 hm) hc)
    · intro hx hf hc
      exact shredder_moved h start rfl (reqShredStart_accepted hx hf hc)
    · intro hx
      exact shredder_moved h stop rfl (reqShredStop_on hx)
    · intro hx
      exact shredder_answered h stop rfl (reqShredStop_stopping hx)
    · intro hx
      exact shredder_answered h stop rfl (reqShredStop_stopped hx)
    · intro hx hf
      exact shredder_moved h stop rfl (reqShredStop_clears hx hf)
    · intro hx hf
      exact shredder_answered h stop rfl (reqShredStop_feedback hx hf)
  · refine ⟨?_, ?_, ?_, ?_⟩
    · rintro hx rfl
      exact feedbackChange_taken h hd hr hf (feedbackChange_starting hx) (feedbackTaken_moved s true _)
    · rintro hx rfl
      exact feedbackChange_taken h hd hr hf (feedbackChange_running hx) (feedbackTaken_moved s false _)
    · rintro hx rfl
      exact feedbackChange_taken h hd hr hf (feedbackChange_stopping hx) (feedbackTaken_moved s false _)
    · intro hx
      exact feedbackChange_taken h hd hr hf (feedbackChange_unmoved hx) (feedbackTaken_unmoved s v)
  · refine ⟨?_, ?_⟩
    · intro hx ht
      exact interlock_moved (exec_startTimerExpiry h hx ht)
    · intro hx ht
      exact interlock_moved (exec_rundownTimerExpiry h hx ht)

end Sys2Proof.Machine
end

section
/-! What the arbiter and the end of a step leave alone, the line clock through start-up, and SET_CLOCK with the line clock
(R161, R162, R168, R169, R177). -/

namespace Sys2Proof.Machine

/-! ### What the arbiter and the Link Port may change at the end of a step (R161, R162, R174) -/

/-- At most the Journal Writer and the Link Port differ. -/
def WriterLinkOnly (s t : State) : Prop := t = { s with writer := t.writer, link := t.link }

theorem writerLinkOnly_iff (s t : State) : WriterLinkOnly s t ↔ ∃ w l, t = { s with writer := w, link := l } := by
  constructor
  · exact fun h => ⟨_, _, h⟩
  · rintro ⟨w, l, e⟩
    rw [WriterLinkOnly, e]

theorem WriterLinkOnly.trans {s t u : State} (h₁ : WriterLinkOnly s t) (h₂ : WriterLinkOnly t u) : WriterLinkOnly s u := by
  obtain ⟨_, _, e₁⟩ := (writerLinkOnly_iff s t).1 h₁
  obtain ⟨_, _, e₂⟩ := (writerLinkOnly_iff t u).1 h₂
  exact (writerLinkOnly_iff s u).2 ⟨_, _, by rw [e₂, e₁]⟩

theorem WriterLinkOnly.clock {s t : State} (h : WriterLinkOnly s t) : t.clock = s.clock := by
  obtain ⟨_, _, e⟩ := (writerLinkOnly_iff s t).1 h
  rw [e]

theorem writerLinkOnly_eraseThen {s go : State} (t : EraseTarget) (erased : Bool) (h : WriterLinkOnly s go) :
    WriterLinkOnly s (eraseThen s t erased go) := by
  unfold eraseThen
  split_ifs
  · rfl
  · rfl
  · exact h
  · rfl

theorem writerLinkOnly_startSettings (s : State) (op : SettingsOp) : WriterLinkOnly s (startSettings s op) := by
  cases op <;> rfl

theorem writerLinkOnly_arbLow (s : State) : WriterLinkOnly s (arbLow s) := by
  unfold arbLow
  split
  · rfl
  · split
    · rfl
    · split
      · rfl
      · split
        · exact writerLinkOnly_startSettings s _
        · split <;> rfl

theorem writerLinkOnly_journalAction (s : State) (slot : Nat) : WriterLinkOnly s (journalAction s slot) :=
  writerLinkOnly_eraseThen _ _ rfl

theorem writerLinkOnly_incidentAction (s : State) (p : IncidentPart) : WriterLinkOnly s (incidentAction s p) :=
  writerLinkOnly_eraseThen _ _ rfl

theorem writerLinkOnly_arbFree (s : State) : WriterLinkOnly s (arbFree s) := by
  unfold arbFree
  split
  · split
    · exact writerLinkOnly_journalAction s _
    · exact writerLinkOnly_incidentAction s _
  · exact writerLinkOnly_journalAction s _
  · exact writerLinkOnly_incidentAction s _
  · exact writerLinkOnly_arbLow s

theorem writerLinkOnly_arbErase (s : State) (t : EraseTarget) (needed suspending : Bool) :
    WriterLinkOnly s (arbErase s t needed suspending) := by
  unfold arbErase
  split_ifs <;> rfl

theorem writerLinkOnly_arbPump (s : State) : WriterLinkOnly s (arbPump s) := by
  unfold arbPump
  split
  · exact writerLinkOnly_arbFree s
  · exact writerLinkOnly_arbErase s _ _ _
  · rfl

theorem writerLinkOnly_sendNotice (s : State) : WriterLinkOnly s (sendNotice s) := by
  unfold sendNotice
  split <;> rfl

theorem writerLinkOnly_linkPump (s : State) : WriterLinkOnly s (linkPump s) := by
  unfold linkPump
  split
  · rfl
  · split
    · split
      · rfl
      · exact writerLinkOnly_sendNotice s
    · exact writerLinkOnly_sendNotice s

theorem writerLinkOnly_signNotice (s₀ s : State) : WriterLinkOnly s (signNotice s₀ s) :=
  (writerLinkOnly_iff _ _).2 ⟨_, _, signNotice_eq s₀ s⟩

/-- The end of a step leaves everything but the Journal Writer and the Link Port alone. -/
theorem writerLinkOnly_finish (s₀ s : State) : WriterLinkOnly s (finish s₀ s) :=
  ((writerLinkOnly_arbPump s).trans (writerLinkOnly_signNotice s₀ _)).trans (writerLinkOnly_linkPump _)

/-! ### The line clock through start-up, and in a record (R151, R154, R169, R177) -/

theorem clock_of_core {s t : State} (h : s.core = t.core) : s.clock = t.clock := congrArg Core.clock h

theorem clock_supplyFalls (s : State) : (supplyFalls s).clock = s.clock := by
  let w := State.mark { s with line := { s.line with monitor := .warning } } .line
  calc (supplyFalls s).clock = w.clock := clock_of_core ((reportFlushed_core _).trans (enterSafeHold_core w .supply))
    _ = s.clock := rfl

theorem clock_compareSupply (s : State) : (compareSupply s).clock = s.clock := by
  unfold compareSupply
  dsimp only
  split_ifs
  · rfl
  · exact clock_supplyFalls s
  · rfl

/-- Start-up begins with the clock of the reset state, and none of what it forms afterwards moves it. -/
theorem clock_startUp (s : State) : (startUp s).clock = ⟨0#32, true⟩ := by
  let z := { scanned s with zones := startZones (scanned s) }
  let t := formEffects z
  calc (startUp s).clock = (compareSupply (eraseAhead t)).clock := (writerLinkOnly_finish t _).clock
    _ = (eraseAhead t).clock := clock_compareSupply _
    _ = z.clock := clock_of_core ((eraseAhead_core t).trans (formEffects_core z))
    _ = ⟨0#32, true⟩ := rfl

/-- The newest record buffered is the one accepted, stamped with the line clock. -/
theorem stamp_accept (s : State) (d : Draft) :
    (accept s d).writer.buffer.getLast?.map (fun b => b.record.stamp) = some s.clock := by
  have stamped (slot c u a) :
      (s.withRecord d slot c u a).writer.buffer.getLast?.map (fun b => b.record.stamp) = some s.clock := by
    simp [State.withRecord, Draft.record]
  obtain ⟨slot, c, u, a, h | h⟩ := accept_cases s d <;> rw [h] <;> exact stamped slot c u a

/-! ### SET_CLOCK and the second (R177) -/

/-- SET_CLOCK, taken: the clock set, the request answered with it. -/
theorem exec_setClock {s : State} (h : s.takesNow = true) (m : Byte) (n : BitVec 32) :
    exec (.setClock m n) s = .next (answered { s with clock := ⟨n, false⟩ } m (.setClock n) ⟨.ok, .clock ⟨n, false⟩⟩) := by
  let st := okay (.clock ⟨n, false⟩)
  have hset : ({ s.withEntry m (.setClock n) .untaken with clock := ⟨n, false⟩ } : State).withStage st
      = { s with clock := ⟨n, false⟩ }.withEntry m (.setClock n) st :=
    withStage_withEntry (s := { s with clock := ⟨n, false⟩ }) h m (.setClock n) st
  calc exec (.setClock m n) s
      = .next (linkPump (({ s.withEntry m (.setClock n) .untaken with clock := ⟨n, false⟩ } : State).withStage st)) :=
        row_plain (k := .setClock n) h rfl rfl nofun rfl
    _ = .next (answered { s with clock := ⟨n, false⟩ } m (.setClock n) ⟨.ok, .clock ⟨n, false⟩⟩) := by rw [hset]; rfl

theorem exec_clockSecond {s : State} (h : s.inReset = false) :
    exec .clockSecond s = .next { s with clock := ⟨s.clock.seconds + 1#32, s.clock.unset⟩ } :=
  live_out h (fun s => { s with clock := { s.clock with seconds := s.clock.seconds + 1#32 } })

/-- Settles O15: the two commands that move the clock, the wrap, its value after each reset, and the stamp of a record. -/
theorem lineClock : Obligations.LineClock := by
  intro s m n
  refine ⟨?_, ?_, ?_, ?_, ?_, ?_, ?_⟩
  · exact fun h => exec_setClock h m n
  · exact exec_clockSecond
  · decide
  · exact clock_startUp s
  · rfl
  · rfl
  · exact stamp_accept s

end Sys2Proof.Machine
end

section
/-! The storage forms under each operation of the Journal Writer and the Link Port: the journal area and the Writer's RAM within their rings
(R153, R157, R164), the request queue, the list of packs and the pending classes within theirs (R174, R176). -/

namespace Sys2Proof.Machine

/-! ### The forms, part by part -/

/-- The Journal Writer's RAM in its form, item by item (R153, R157, R164). -/
structure Writer.Good (w : Writer) : Prop where
  current : w.current < 256
  used : w.used ≤ 16
  buffer : ∀ b ∈ w.buffer, ∀ n, b.slot = some n → n < 4096
  running : ∀ o, w.running = some o → o.wf = true
  suspended : ∀ t, w.suspended = some t → t.wf = true
  aheads : ∀ t ∈ w.aheads, t.wf = true
  incidents : w.incidents.length ≤ 4

theorem writer_wf_iff (w : Writer) : w.wf = true ↔ w.Good := by
  simp only [Writer.wf, Bool.and_eq_true, decide_eq_true_eq, List.all_eq_true, Option.all_eq_true]
  constructor
  · rintro ⟨⟨⟨⟨⟨⟨hc, hu⟩, hb⟩, hr⟩, hs⟩, ha⟩, hi⟩
    exact ⟨hc, hu, hb, hr, hs, ha, hi⟩
  · rintro ⟨hc, hu, hb, hr, hs, ha, hi⟩
    exact ⟨⟨⟨⟨⟨⟨hc, hu⟩, hb⟩, hr⟩, hs⟩, ha⟩, hi⟩

/-- The journal area and the Journal Writer's RAM, in their forms. -/
def StoreWf (w : Writer) (n : Nv) : Prop := journalWf n.journal = true ∧ w.Good

/-- The request queue, the list of packs and the pending classes within their limits (R174, R176). -/
def Link.Fits (x : Link) : Prop :=
  x.queue.length ≤ 4 ∧ x.packsChanged.length ≤ 64 ∧ x.noticePending &&& ~~~x.subscribed = 0#7

theorem storageWf_iff (s : State) :
    s.storageWf = true ↔ StoreWf s.writer s.nv ∧ (s.link.Fits ∧ s.link.sends = true) ∧ s.feeder.gateWf = true := by
  simp only [State.storageWf, Link.wf, StoreWf, Link.Fits, Bool.and_eq_true, decide_eq_true_eq, writer_wf_iff]
  tauto

/-! ### The pending classes and the lists (R176) -/

/-- A class pending beside those subscribed stays within them. -/
theorem pending_or {p q c : BitVec 7} (h : p &&& ~~~c = 0#7) (hq : q &&& ~~~c = 0#7) : (p ||| q) &&& ~~~c = 0#7 := by
  rw [BitVec.and_comm, BitVec.and_or_distrib_left, BitVec.and_comm _ p, BitVec.and_comm _ q, h, hq]
  rfl

theorem and_subscribed (p c : BitVec 7) : (p &&& c) &&& ~~~c = 0#7 := by
  rw [BitVec.and_assoc, BitVec.and_not_self]
  simp

theorem fits_mark {x : Link} (c : NoticeClass) (h : x.Fits) : (x.mark c).Fits := by
  obtain ⟨hq, hp, hn⟩ := h
  exact ⟨hq, hp, pending_or hn (and_subscribed _ _)⟩

theorem fits_listPack {x : Link} (t : Tag) (e : Option ExitKind) (h : x.Fits) : (x.listPack t e).Fits := by
  obtain ⟨hq, hp, hn⟩ := h
  unfold Link.listPack
  split_ifs with hl hc
  · exact ⟨hq, by simpa using hp, hn⟩
  · exact ⟨hq, by simp only [List.length_append, List.length_singleton]; omega, hn⟩
  · exact ⟨hq, hp, hn⟩

theorem fits_sent {x : Link} (c : NoticeClass) (h : x.Fits) : (x.sent c).Fits := by
  obtain ⟨hq, hp, hn⟩ := h
  have hcut : (x.noticePending &&& ~~~(noticeBit c)) &&& ~~~x.subscribed = 0#7 := by
    rw [BitVec.and_assoc, BitVec.and_comm (~~~noticeBit c), ← BitVec.and_assoc, hn]
    simp
  have hd : (x.packsChanged.drop 12).length ≤ 64 := by rw [List.length_drop]; omega
  unfold Link.sent
  dsimp only
  split
  · exact ⟨hq, hp, hcut⟩
  · split
    · exact ⟨hq, hd, hcut⟩
    · exact fits_mark .pack ⟨hq, hd, hcut⟩
  · exact ⟨hq, hp, hcut⟩

theorem fits_subscribe {x : Link} (c : BitVec 7) (h : x.Fits) : (x.subscribe c).Fits := by
  obtain ⟨hq, hp, hn⟩ := h
  refine ⟨hq, ?_, pending_or (and_subscribed _ _) ?_⟩
  · unfold Link.subscribe
    dsimp only
    split_ifs <;> simp [hp]
  · change (c &&& ~~~x.subscribed) &&& ~~~c = 0#7
    rw [BitVec.and_comm c, and_subscribed]

/-! ### Slots and erases (R157, R158) -/

theorem good_queueJournalErase {s : State} {seg : Nat} (hs : seg < 256) (h : s.writer.Good) : (queueJournalErase s seg).writer.Good := by
  unfold queueJournalErase
  split_ifs
  · exact h
  · refine ⟨h.current, h.used, h.buffer, h.running, h.suspended, fun t ht => ?_, h.incidents⟩
    rcases List.mem_append.1 ht with ht | ht
    · exact h.aheads t ht
    · simpa [List.mem_singleton.1 ht, EraseTarget.wf] using hs

theorem writer_next_lt (w : Writer) : w.next < 256 := Nat.mod_lt _ (by decide)

theorem good_eraseAhead {s : State} (h : s.writer.Good) : (eraseAhead s).writer.Good := by
  unfold eraseAhead
  dsimp only
  split_ifs
  · exact good_queueJournalErase (writer_next_lt _) h
  · exact h

theorem good_queueIncidentErase {s : State} (n : Nat) (h : s.writer.Good) : (queueIncidentErase s n).writer.Good := by
  unfold queueIncidentErase
  dsimp only
  split_ifs
  · exact h
  · refine ⟨h.current, h.used, h.buffer, h.running, h.suspended, fun t ht => ?_, h.incidents⟩
    rcases List.mem_append.1 ht with ht | ht
    · exact h.aheads t ht
    · simpa [List.mem_singleton.1 ht, EraseTarget.wf] using Nat.mod_lt n (by decide)

/-- A slot assigned lies within the ring, and the Writer keeps its form. -/
theorem good_assignSlot {s : State} (h : s.writer.Good) :
    (assignSlot s).1.writer.Good ∧ ∀ n, (assignSlot s).2 = some n → n < 4096 := by
  have hc := h.current
  have hn := writer_next_lt s.writer
  unfold assignSlot
  dsimp only
  split_ifs with hu h0 hr he
  · exact ⟨good_eraseAhead ⟨hc, by dsimp only; omega, h.buffer, h.running, h.suspended, h.aheads, h.incidents⟩,
      fun n e => by simp only [Option.some.injEq] at e; omega⟩
  · exact ⟨⟨hc, by dsimp only; omega, h.buffer, h.running, h.suspended, h.aheads, h.incidents⟩,
      fun n e => by simp only [Option.some.injEq] at e; omega⟩
  · exact ⟨good_eraseAhead ⟨hn, by dsimp only; omega, h.buffer, h.running, h.suspended, h.aheads, h.incidents⟩,
      fun n e => by simp only [Option.some.injEq] at e; omega⟩
  · exact ⟨good_eraseAhead (good_queueJournalErase hn ⟨hn, by dsimp only; omega, h.buffer, h.running, h.suspended, h.aheads, h.incidents⟩),
      fun n e => by simp only [Option.some.injEq] at e; omega⟩
  · exact ⟨h, nofun⟩

/-- An accepted record changes the Writer, which keeps its form; where it clears the flush-done mark, LINE becomes pending besides. -/
theorem accept_good (s : State) (d : Draft) :
    ∃ w, (s.writer.Good → w.Good) ∧ (accept s d = { s with writer := w }
      ∨ accept s d = State.mark { s with writer := w, line := { s.line with flushDone := false } } .line) := by
  have hslot : ∃ v slot, (if s.writer.buffer.any (fun b => b.slot.isNone) then (s, none) else assignSlot s)
      = ({ s with writer := v }, slot) ∧ v.buffer = s.writer.buffer
      ∧ (s.writer.Good → v.Good ∧ ∀ n, slot = some n → n < 4096) := by
    split
    · exact ⟨s.writer, none, rfl, rfl, fun h => ⟨h, nofun⟩⟩
    · obtain ⟨c, u, a, e⟩ := assignSlot_eq s
      exact ⟨_, (assignSlot s).2, Prod.ext e rfl, rfl, fun h => by simpa only [e] using good_assignSlot h⟩
  obtain ⟨v, slot, hs, hb, hv⟩ := hslot
  unfold accept
  dsimp only
  rw [hs]
  refine ⟨{ v with buffer := v.buffer ++ [⟨d.record s.writer.nextSeq s.clock, slot⟩], nextSeq := v.nextSeq + 1 }, fun h => ?_, ?_⟩
  · obtain ⟨g, hn⟩ := hv h
    refine ⟨g.current, g.used, fun b hm n e => ?_, g.running, g.suspended, g.aheads, g.incidents⟩
    rcases List.mem_append.1 hm with hm | hm
    · exact g.buffer b hm n e
    · rw [List.mem_singleton.1 hm] at e
      exact hn n e
  · split
    · exact .inr rfl
    · exact .inl rfl

/-- Slots given to waiting records lie within the ring. -/
theorem good_assignList (l : List Buffered) {s : State} (h : s.writer.Good) (hl : ∀ b ∈ l, ∀ n, b.slot = some n → n < 4096) :
    (assignList l s).2.writer.Good ∧ ∀ b ∈ (assignList l s).1, ∀ n, b.slot = some n → n < 4096 := by
  induction l generalizing s with
  | nil => exact ⟨h, hl⟩
  | cons b t ih =>
    have ht : ∀ c ∈ t, ∀ n, c.slot = some n → n < 4096 := fun c hc => hl c (List.mem_cons_of_mem b hc)
    obtain ⟨g, hslot⟩ := good_assignSlot h
    cases hb : b.slot with
    | some k =>
      obtain ⟨hw, hm⟩ := ih h ht
      simp only [assignList, hb]
      exact ⟨hw, List.forall_mem_cons.2 ⟨hl b List.mem_cons_self, hm⟩⟩
    | none =>
      rcases e : assignSlot s with ⟨u, o⟩
      rw [e] at g hslot
      cases o with
      | some n =>
        obtain ⟨hw, hm⟩ := ih g ht
        simp only [assignList, hb, e]
        exact ⟨hw, List.forall_mem_cons.2 ⟨fun k ek => hslot k ek, hm⟩⟩
      | none =>
        simp only [assignList, hb, e]
        exact ⟨h, hl⟩

theorem assignList_eq (l : List Buffered) (s : State) :
    ∃ c u a, (assignList l s).2 = { s with writer := { s.writer with current := c, used := u, aheads := a } } := by
  induction l generalizing s with
  | nil => exact ⟨_, _, _, rfl⟩
  | cons b t ih =>
    cases hb : b.slot with
    | some k => simpa only [assignList, hb] using ih s
    | none =>
      rcases e : assignSlot s with ⟨u, o⟩
      cases o with
      | some n =>
        obtain ⟨_, _, _, e₁⟩ := assignSlot_eq s
        obtain ⟨c, v, a, e₂⟩ := ih u
        rw [e] at e₁
        obtain rfl : u = _ := e₁
        simp only [assignList, hb, e]
        exact ⟨c, v, a, e₂⟩
      | none =>
        simp only [assignList, hb, e]
        exact ⟨_, _, _, rfl⟩

theorem good_assignWaiting {s : State} (h : s.writer.Good) : (assignWaiting s).writer.Good := by
  obtain ⟨g, hm⟩ := good_assignList s.writer.buffer h h.buffer
  exact ⟨g.current, g.used, hm, g.running, g.suspended, g.aheads, g.incidents⟩

theorem assignWaiting_eq (s : State) : assignWaiting s = { s with writer := (assignWaiting s).writer } := by
  obtain ⟨c, u, a, e⟩ := assignList_eq s.writer.buffer s
  unfold assignWaiting
  dsimp only
  rw [e]

/-! ### Incident parts (R164) -/

/-- A part handed on changes the Writer alone. -/
theorem handPart_eq (s : State) (p : IncidentPart) : handPart s p = { s with writer := (handPart s p).writer } := by
  unfold handPart
  dsimp only
  split_ifs <;> rfl

theorem dropClosed_length {l : List IncidentPart} (h : l.any IncidentPart.isClosed = true) : (dropClosed l).length + 1 = l.length := by
  induction l with
  | nil => simp at h
  | cons p t ih =>
    unfold dropClosed
    split_ifs with hp
    · rfl
    · have ht : t.any IncidentPart.isClosed = true := by simpa [hp] using h
      simp [ih ht]

/-- The incident buffer never holds more than four parts. -/
theorem good_handPart {s : State} (p : IncidentPart) (h : s.writer.Good) : (handPart s p).writer.Good := by
  have hw : (if p.isClosed then s.writer else { s.writer with droppedOpen := none } : Writer).Good
      ∧ (if p.isClosed then s.writer else { s.writer with droppedOpen := none } : Writer).incidents = s.writer.incidents := by
    split_ifs
    · exact ⟨h, rfl⟩
    · exact ⟨⟨h.current, h.used, h.buffer, h.running, h.suspended, h.aheads, h.incidents⟩, rfl⟩
  unfold handPart
  dsimp only
  generalize (if p.isClosed then s.writer else { s.writer with droppedOpen := none } : Writer) = w at hw ⊢
  obtain ⟨g, hi⟩ := hw
  have put {l : List IncidentPart} (hl : l.length ≤ 4) : Writer.Good { w with incidents := l } :=
    ⟨g.current, g.used, g.buffer, g.running, g.suspended, g.aheads, hl⟩
  generalize hb : (if w.running = some NvOp.incidentProgram then 1 else 0 : Nat) = k
  split_ifs with h1 h2 h3 h4
  · exact ⟨h.current, h.used, h.buffer, h.running, h.suspended, h.aheads, h.incidents⟩
  · exact put (by rw [List.length_append, List.length_singleton]; omega)
  · refine put ?_
    have hd := dropClosed_length h3
    have hl := g.incidents
    have hk : k ≤ 1 := by rw [← hb]; split_ifs <;> decide
    simp only [List.length_append, List.length_take, List.length_drop, List.length_singleton] at hd ⊢
    omega
  · exact h
  · exact ⟨g.current, g.used, g.buffer, g.running, g.suspended, g.aheads, g.incidents⟩

end Sys2Proof.Machine
end

section
/-! A form of the state that the parts of an operation keep, the operation keeps: the bays, the custody tables and the feeder. -/

namespace Sys2Proof.Machine

/-- Of the whole state, at most parts that no form of a step reads differ: the commands that wait, the time, the tables of packs, lots and
settings, the loops, the zones and the open incident. -/
def TablesOnly (s t : State) : Prop :=
  t = { s with
    pending := t.pending, phase := t.phase, free := t.free, now := t.now, clock := t.clock, packs := t.packs, lots := t.lots
    queue := t.queue, held := t.held, rebuilt := t.rebuilt, gaps := t.gaps, classes := t.classes, loopA := t.loopA
    loopB := t.loopB, zones := t.zones, incident := t.incident, cells := t.cells }

/-- A form kept by each part of an operation of the bays, the custody tables and the feeder. -/
structure BayKept (P : State → Prop) : Prop where
  tables : ∀ {s t : State}, P s → TablesOnly s t → P t
  link : ∀ {s : State} {x : Link}, P s → (s.link.Fits → x.Fits) → P { s with link := x }
  store : ∀ {s : State} {w : Writer} {n : Nv}, P s → (StoreWf s.writer s.nv → StoreWf w n) → P { s with writer := w, nv := n }
  line : ∀ {s : State} {l : Line}, P s → l.mode = s.line.mode → l.inputs = s.line.inputs → P { s with line := l }
  feeder : ∀ {s : State} {x : Feeder}, P s → (s.feeder.gateWf = true → x.gateWf = true) → P { s with feeder := x }
  bays : ∀ {s : State} {v : Vector Bay 8}, P s →
    (∀ b : BayId, v[b].participant = (s.bay b).participant ∧ v[b].grant = (s.bay b).grant) → P { s with bays := v }
  apart : ∀ {s : State} (b : BayId) (x : Bay), P s → P (putApart s b x)
  discharge : ∀ {s : State} (b : BayId), P s → P (enterDischarging s b)
  renew : ∀ {s : State} (b : BayId), P s → P (renewRequest s b)

/-- What each operation of a list keeps, all of them one after the other keep. -/
theorem kept_foldl {α : Type} {P : State → Prop} {f : State → α → State} (hf : ∀ s a, P s → P (f s a)) (l : List α) {s : State} (h : P s) :
    P (l.foldl f s) := by
  induction l generalizing s with
  | nil => exact h
  | cons a t ih => exact ih (hf s a h)

/-- A sample's validity leaves what the Budget Arbiter holds of the bay alone. -/
theorem sampled_arbiter (x : Bay) (m : SampleMark) (v : Option Sample) (miss : Nat) :
    (x.sampled m v miss).participant = x.participant ∧ (x.sampled m v miss).grant = x.grant := by
  cases v <;> exact ⟨rfl, rfl⟩

namespace BayKept

variable {P : State → Prop} {s : State} (K : BayKept P)
include K

/-! ### Notice classes, change lists, records -/

theorem kept_mark (c : NoticeClass) (h : P s) : P (s.mark c) := K.link h (fits_mark c)

theorem kept_markIf (d : Bool) (c : NoticeClass) (h : P s) : P (s.markIf d c) := by
  unfold State.markIf
  split
  · exact K.kept_mark c h
  · exact h

theorem kept_listBay (b : BayId) (h : P s) : P (s.listBay b) := K.link h id

theorem kept_listPack (t : Tag) (e : Option ExitKind) (h : P s) : P (s.listPack t e) :=
  K.link h (fun hf => fits_mark .pack (fits_listPack t e hf))

theorem kept_writer {w : Writer} (h : P s) (hw : s.writer.Good → w.Good) : P { s with writer := w } :=
  K.store h (fun ⟨hj, hg⟩ => ⟨hj, hw hg⟩)

theorem kept_accept (d : Draft) (h : P s) : P (accept s d) := by
  obtain ⟨w, hw, e | e⟩ := accept_good s d <;> rw [e]
  · exact K.kept_writer h hw
  · exact K.kept_mark .line (K.line (K.kept_writer h hw) rfl rfl)

theorem kept_handPart (p : IncidentPart) (h : P s) : P (handPart s p) := by
  rw [handPart_eq]
  exact K.kept_writer h (good_handPart p)

theorem kept_reportFlushed (h : P s) : P (reportFlushed s) := by
  unfold reportFlushed
  split
  · exact K.kept_mark .line (K.line h rfl rfl)
  · exact h

/-! ### A bay replaced -/

/-- A bay replaced without touching what the Budget Arbiter holds of it. -/
theorem kept_setBay {b : BayId} {x : Bay} (hp : x.participant = (s.bay b).participant) (hg : x.grant = (s.bay b).grant) (h : P s) :
    P (s.setBay b x) := by
  refine K.bays h fun c => ?_
  by_cases hc : c = b
  · subst hc
    simp [hp, hg]
  · simp [hc, State.bay]

theorem kept_putBay {b : BayId} {x : Bay} (hp : x.participant = (s.bay b).participant) (hg : x.grant = (s.bay b).grant) (h : P s) :
    P (putBay s b x) := by
  have hset := K.kept_setBay hp hg h
  unfold putBay
  dsimp only
  apply K.kept_markIf
  split
  · exact hset
  · exact K.kept_listBay b hset

theorem kept_lockBay (b : BayId) (h : P s) : P (lockBay s b) := K.apart b _ h

theorem kept_enterApart (b : BayId) (st : BayState) (h : P s) : P (enterApart s b st) := K.apart b _ h

theorem kept_holdOrDischarge (b : BayId) (h : P s) : P (holdOrDischarge s b) := by
  unfold holdOrDischarge
  split
  · exact K.discharge b h
  · exact K.kept_enterApart b .held h

theorem kept_setHolds (b : BayId) (k : Holds) (h : P s) : P (setHolds s b k) := by
  unfold setHolds
  dsimp only
  split_ifs
  · exact h
  · exact K.kept_putBay rfl rfl h
  · exact K.apart b _ h
  · exact K.discharge b (K.kept_putBay rfl rfl h)
  · exact K.kept_putBay rfl rfl h

theorem kept_syncHolds (h : P s) : P (syncHolds s) := kept_foldl (fun _ b h => K.kept_setHolds b _ h) allBays h

theorem kept_addEnergy (b : BayId) (u : Sample) (h : P s) : P (addEnergy s b u) := by
  unfold addEnergy
  split
  · exact h
  · have hr (r : Nat) : P (s.setBay b { s.bay b with residue := r }) := K.kept_setBay rfl rfl h
    exact K.tables (hr _) rfl

/-! ### Records, lots and exits -/

theorem kept_putPack (p : Pack) (h : P s) : P (putPack s p) := K.kept_listPack _ _ (K.tables h rfl)

theorem kept_writePack (p : Pack) (k : RecordKind) (b : Option BayId) (d : Detail) (h : P s) : P (writePack s p k b d) :=
  K.kept_putPack _ (K.kept_accept _ h)

theorem kept_writeLot (n : Tag) (k : RecordKind) (a : LotState) (d : Detail) (h : P s) : P (writeLot s n k a d) :=
  K.kept_mark .pack (K.kept_accept _ h)

theorem kept_quarantinePack (p : Pack) (r : QuarReason) (h : P s) : P (quarantinePack s p r) := by
  have hw (q : Pack) (b : Option BayId) : P (leaveQueue (writePack s q .quarantine b (.quarantine r)) p.tag) :=
    K.tables (K.kept_writePack q .quarantine b (.quarantine r) h) rfl
  unfold quarantinePack
  dsimp only
  split
  · split
    · exact K.kept_lockBay _ (hw _ _)
    · exact hw _ _
  · exact hw _ _

theorem kept_otherRecord (p q : Pack) (k : RecordKind) (b : Option BayId) (d : Detail) (h : P s) : P (otherRecord s p q k b d).1 := by
  unfold otherRecord
  split
  · exact K.kept_quarantinePack p _ h
  · exact K.kept_writePack q k b d h

theorem kept_finalizeLot (n : Tag) (h : P s) : P (finalizeLot s n) := by
  unfold finalizeLot
  split
  · dsimp only
    split
    · exact K.tables (K.kept_writeLot _ _ _ _ h) rfl
    · exact h
  · exact h

/-- The lot's counters after an exit are a matter of the lot table alone. -/
theorem kept_exitPack (p : Pack) (kind : ExitKind) (late : Bool) (h : P s) : P (exitPack s p kind late) := by
  unfold exitPack
  dsimp only
  apply K.kept_finalizeLot
  apply K.kept_listPack
  have ha : P (match kind with
      | .fed => accept s (packDraft p.counted .fed none (.fed late))
      | .removed => accept s (packDraft p.counted .removed p.bay .none)) := by
    cases kind
    · exact K.kept_accept _ h
    · exact K.kept_accept _ h
  split
  · exact K.tables ha rfl
  · exact K.tables ha rfl

/-! ### Pack events (R13 to R16, R155) -/

theorem kept_takeTrip (b : BayId) (t : Tag) (k : TripKind) (h : P s) : P (takeTrip s b t k).1 := by
  unfold takeTrip
  split
  · exact h
  · rename_i p _
    have ho := K.kept_otherRecord { p with trips := satAdd 8 p.trips 1 } { p with trips := satAdd 8 p.trips 1 } .trip (some b) (.trip k) h
    dsimp only
    split
    · rename_i e
      rw [e] at ho
      split
      · exact K.kept_quarantinePack _ _ ho
      · exact ho
    · exact ho

theorem kept_takeRebound (b : BayId) (t : Tag) (h : P s) : P (takeRebound s b t).1 := by
  unfold takeRebound
  split
  · exact h
  · split
    · exact K.kept_otherRecord _ _ _ _ _ h
    · exact K.kept_quarantinePack _ _ h

theorem kept_takeReady (b : BayId) (t : Tag) (h : P s) : P (takeReady s b t).1 := by
  unfold takeReady
  split
  · exact h
  · exact K.kept_otherRecord _ _ _ _ _ h

theorem kept_takeBayQuarantine (b : BayId) (t : Tag) (r : QuarReason) (h : P s) : P (takeBayQuarantine s b t r).1 := by
  unfold takeBayQuarantine
  split
  · exact h
  · exact K.kept_quarantinePack _ _ h

theorem kept_takeFeeding (t : Tag) (h : P s) : P (takeFeeding s t).1 := by
  unfold takeFeeding
  split
  · exact h
  · exact K.kept_putPack _ h

theorem kept_takeFed (t : Tag) (late : Bool) (h : P s) : P (takeFed s t late).1 := by
  unfold takeFed
  split
  · exact h
  · exact K.kept_exitPack _ .fed late h

theorem kept_takeFeedRemoved (t : Tag) (h : P s) : P (takeFeedRemoved s t).1 := by
  unfold takeFeedRemoved
  split
  · exact h
  · exact K.kept_quarantinePack _ _ h

theorem kept_takeExpose (t : Tag) (n : BitVec 16) (h : P s) : P (takeExpose s t n).1 := by
  unfold takeExpose
  split
  · exact h
  · dsimp only
    split_ifs
    · exact h
    · exact K.kept_putPack _ h
    · exact K.kept_otherRecord _ _ _ _ _ h

theorem kept_applyEvent (e : PackEvent) (h : P s) : P (applyEvent s e).1 := by
  cases e with
  | trip b t k => exact K.kept_takeTrip b t k h
  | rebound b t => exact K.kept_takeRebound b t h
  | ready b t => exact K.kept_takeReady b t h
  | bayQuarantine b t r => exact K.kept_takeBayQuarantine b t r h
  | feeding t => exact K.kept_takeFeeding t h
  | fed t late => exact K.kept_takeFed t late h
  | feedRemoved t => exact K.kept_takeFeedRemoved t h
  | expose t n => exact K.kept_takeExpose t n h

theorem kept_submit (e : PackEvent) (h : P s) : P (submit s e).1 := by
  unfold submit
  dsimp only
  split
  · exact K.kept_applyEvent e h
  · exact K.tables h rfl

theorem kept_submitBay (e : PackEvent) {act : State → Answer → State} (ha : ∀ s a, P s → P (act s a)) (h : P s) : P (submitBay s e act) := by
  have hs := K.kept_submit e h
  unfold submitBay
  split
  · rename_i t a e
    rw [e] at hs
    exact ha t a hs
  · rename_i t e
    rwa [e] at hs

theorem kept_exposeAll (n : BitVec 16) (l : List Tag) (h : P s) : P (exposeAll s n l) := kept_foldl (fun _ _ h => K.kept_submit _ h) l h

/-! ### The feeder (R137 to R139) -/

/-- A feeder whose gate is closed, or which is FEEDING, is in its form. -/
theorem kept_putFeeder {x : Feeder} (hx : s.feeder.gateWf = true → x.gateWf = true) (h : P s) : P (putFeeder s x) :=
  K.kept_markIf _ _ (K.feeder h hx)

theorem kept_openFeed (t : Tag) (h : P s) : P (openFeed s t) := K.kept_putFeeder (fun _ => rfl) h

theorem kept_tryFeed (h : P s) : P (tryFeed s) := by
  obtain e | ⟨t, e | e⟩ := tryFeed_cases s <;> rw [e]
  · exact h
  · exact K.kept_submit _ h
  · exact K.kept_openFeed t (K.kept_submit _ h)

theorem kept_updateFeeder (h : P s) : P (updateFeeder s) := by
  unfold updateFeeder
  dsimp only
  split
  case h_1 hx =>
    have hg : s.feeder.gateWf = true → s.feeder.gate = false := by simp [Feeder.gateWf, hx]
    split
    · exact K.kept_tryFeed (K.kept_putFeeder (fun w => by simp [Feeder.gateWf, hg w]) h)
    · exact K.kept_putFeeder id h
  case h_2 hx =>
    have hg : s.feeder.gateWf = true → s.feeder.gate = false := by simp [Feeder.gateWf, hx]
    split
    · exact K.kept_putFeeder id h
    · exact K.kept_putFeeder (fun w => by simp [Feeder.gateWf, hg w]) h
  all_goals exact K.kept_putFeeder id h

theorem kept_endFeed (h : P s) : P (endFeed s) := K.kept_updateFeeder (K.kept_putFeeder (fun _ => rfl) h)

/-! ### What a bay does on the outcome of its event (R32, R37, R40, R41) -/

theorem kept_afterTrip (b : BayId) (t : Tag) (k : TripKind) (a : Answer) (h : P s) : P (afterTrip s b t k a) := by
  unfold afterTrip
  dsimp only
  split
  · exact h
  · split
    · split
      · exact K.kept_lockBay b (K.kept_submit _ h)
      · exact K.kept_submitBay _ (fun _ _ h => K.kept_lockBay b h) h
    · split
      · exact K.kept_lockBay b h
      · exact K.kept_enterApart b .tripped (K.kept_setBay rfl rfl h)

theorem kept_afterReady (b : BayId) (t : Tag) (a : Answer) (h : P s) : P (afterReady s b t a) := by
  unfold afterReady
  dsimp only
  split
  · exact h
  · split
    · exact K.kept_enterApart b .ready h
    · exact K.kept_lockBay b h
    · exact h

theorem kept_afterRebound (b : BayId) (t : Tag) (a : Answer) (h : P s) : P (afterRebound s b t a) := by
  unfold afterRebound
  dsimp only
  split
  · exact h
  · split
    · exact K.kept_holdOrDischarge b h
    · exact K.kept_lockBay b h
    · exact h

theorem kept_afterBayQuarantine (b : BayId) (t : Tag) (h : P s) : P (afterBayQuarantine s b t) := by
  unfold afterBayQuarantine
  split
  · exact K.kept_lockBay b h
  · exact h

theorem kept_bayQuarantine (b : BayId) (r : QuarReason) (h : P s) : P (bayQuarantine s b r) := by
  unfold bayQuarantine
  split
  · exact h
  · exact K.kept_submitBay _ (fun _ _ h => K.kept_afterBayQuarantine b _ h) (K.apart b _ h)

theorem kept_bayTrip (b : BayId) (k : TripKind) (h : P s) : P (bayTrip s b k) := by
  unfold bayTrip
  split
  · exact h
  · exact K.kept_submitBay _ (fun _ a h => K.kept_afterTrip b _ k a h) (K.apart b _ h)

theorem kept_bayReady (b : BayId) (h : P s) : P (bayReady s b) := by
  unfold bayReady
  split
  · exact h
  · exact K.kept_submitBay _ (fun _ a h => K.kept_afterReady b _ a h) h

theorem kept_bayRebound (b : BayId) (h : P s) : P (bayRebound s b) := by
  unfold bayRebound
  split
  · exact h
  · exact K.kept_submitBay _ (fun _ a h => K.kept_afterRebound b _ a h) h

/-! ### Decisions and samples (R27 to R36) -/

theorem kept_placedDecision (b : BayId) (p : Pack) (v : Int) (h : P s) : P (placedDecision s b p v) := by
  unfold placedDecision
  split_ifs
  · exact K.kept_bayQuarantine b _ h
  · exact K.kept_bayReady b h
  · exact K.kept_holdOrDischarge b h

theorem kept_restDecision (b : BayId) (h : P s) : P (restDecision s b) := by
  unfold restDecision
  split
  · split
    · exact K.kept_bayReady b h
    · exact K.kept_bayRebound b h
  · exact h

theorem kept_enterResting (b : BayId) (p : Pack) (h : P s) : P (enterResting s b p) := by
  unfold enterResting
  dsimp only
  split
  · exact K.kept_restDecision b (K.apart b _ h)
  · exact K.apart b _ h

theorem kept_dischargingEvent (b : BayId) (p : Pack) (u : Sample) (e : SampleEvent) (h : P s) : P (dischargingEvent s b p u e) := by
  have hs : P (s.setBay b { s.bay b with sustained := sustainedAfter (s.bay b) e.completed }) := K.kept_setBay rfl rfl h
  unfold dischargingEvent
  dsimp only
  split
  · exact K.kept_bayTrip b _ hs
  · split_ifs
    · exact K.kept_enterResting b p hs
    · exact K.renew b hs
    · exact hs

theorem kept_bayDecides (b : BayId) (p : Pack) (u : Sample) (e : SampleEvent) (h : P s) : P (bayDecides s b p u e) := by
  have reversal (v : Bool) : P (if v then s.setBay b { s.bay b with reversalDue := false } else s) := by
    split
    · exact K.kept_setBay rfl rfl h
    · exact h
  unfold bayDecides
  dsimp only
  split
  case h_1 => exact h
  case h_2 => exact h
  case h_3 => exact K.kept_dischargingEvent b p u e h
  case h_4 =>
    split
    · exact K.kept_bayQuarantine b _ h
    · split
      · exact K.kept_bayQuarantine b _ (reversal _)
      · split
        · exact K.kept_placedDecision b p _ (reversal _)
        · exact reversal _
  case h_5 =>
    split_ifs
    · exact K.kept_bayQuarantine b _ h
    · exact K.discharge b h
    · exact h
  case h_6 =>
    split_ifs
    · exact K.kept_bayQuarantine b _ h
    · exact K.kept_holdOrDischarge b h
    · exact h
  case h_7 =>
    split_ifs
    · exact K.kept_bayQuarantine b _ h
    · exact K.kept_restDecision b h
    · exact h
  case h_8 =>
    split
    · exact K.kept_bayQuarantine b _ h
    · exact h

theorem kept_bayActs (b : BayId) (e : SampleEvent) (h : P s) : P (bayActs s b e) := by
  unfold bayActs
  split
  · exact h
  · split
    · exact K.kept_bayDecides b _ _ e h
    · exact h

theorem kept_bayMeasures (b : BayId) (m : SampleMark) (v : Option Sample) (miss : Nat) (h : P s) : P (bayMeasures s b m v miss).1 := by
  obtain ⟨hp, hg⟩ := sampled_arbiter (s.bay b) m v miss
  unfold bayMeasures
  dsimp only
  split
  · exact K.kept_putBay hp hg h
  · dsimp only
    split
    · exact K.kept_addEnergy b _ (K.kept_putBay hp hg h)
    · exact K.kept_putBay hp hg h

/-! ### Timers of a bay, and requests that end in the bays, the tables or the feeder -/

theorem kept_retryExpired (b : BayId) (h : P s) : P (retryExpired s b) := by
  unfold retryExpired
  dsimp only
  split
  · exact K.kept_setBay rfl rfl h
  · exact h

theorem kept_restExpired (b : BayId) (h : P s) : P (restExpired s b) := by
  have hs : P (s.setBay b { s.bay b with restTimer := none }) := K.kept_setBay rfl rfl h
  unfold restExpired
  dsimp only
  split_ifs
  · exact K.kept_restDecision b hs
  · exact hs
  · exact h

theorem kept_timeReached (b : BayId) (h : P s) : P (timeReached s b) := by
  unfold timeReached
  dsimp only
  split
  · exact K.kept_bayQuarantine b _ (K.kept_setBay rfl rfl h)
  · exact h

theorem kept_clearReached (b : BayId) (h : P s) : P (clearReached s b) := by
  unfold clearReached
  dsimp only
  split
  · exact K.kept_setBay rfl rfl h
  · exact h

theorem kept_renewClass (c : ClassId) (h : P s) : P (renewClass s c) := by
  refine kept_foldl (fun s b h => ?_) allBays h
  split
  · exact K.renew b h
  · exact h

theorem kept_placeAccepted (p : Pack) (b : BayId) (h : P s) : P (placeAccepted s p b) :=
  K.kept_putBay rfl rfl (K.kept_writePack _ _ _ _ h)

theorem kept_confirmAccepted (b : BayId) (p : Pack) (h : P s) : P (confirmAccepted s b p).1 := by
  have ho := K.kept_otherRecord p p .confirm (some b) .none h
  unfold confirmAccepted
  split
  · rename_i e
    rw [e] at ho
    exact K.kept_putBay rfl rfl ho
  · rename_i e
    rwa [e] at ho

theorem kept_installBay (b : BayId) (h : P s) : P (installBay s b) := by
  have same (x : Bay) (p : Pack) : (rebuiltBay x p).participant = x.participant ∧ (rebuiltBay x p).grant = x.grant := by
    unfold rebuiltBay
    split <;> exact ⟨rfl, rfl⟩
  unfold installBay
  split
  · exact K.kept_putBay (same _ _).1 (same _ _).2 h
  · exact h

theorem kept_installRebuild (h : P s) : P (installRebuild s) := by
  unfold installRebuild
  dsimp only
  apply K.kept_tryFeed
  apply K.kept_mark
  apply K.kept_mark
  refine kept_foldl (fun _ _ h => K.kept_listPack _ _ h) _ ?_
  exact kept_foldl (fun _ b h => K.kept_installBay b h) _ (K.tables h rfl)

end BayKept

end Sys2Proof.Machine
end

section
/-! A form of the state that the parts of a step keep, the step keeps: the zones, the chamber, the shredder, the line, the loops, the
requests, the Journal Writer, the Link Port, and every command. -/

namespace Sys2Proof.Machine

/-- A form kept by each part of a step. -/
structure Kept (P : State → Prop) : Prop extends BayKept P where
  atm : ∀ {s : State} {x : Atmosphere}, P s → x.state = s.atm.state → x.valve = s.atm.valve → P { s with atm := x }
  interlock : ∀ {s : State} {x : Interlock}, P s → x.state = s.interlock.state → x.permission = s.interlock.permission →
    P { s with interlock := x }
  inputs : ∀ {s : State} {x : Inputs}, P s → x.estop.cond = s.line.inputs.estop.cond → x.doorClosed.cond = s.line.inputs.doorClosed.cond →
    P { s with line := { s.line with inputs := x } }
  permission : ∀ {s : State}, P s → P (updatePermission s)
  lineMode : ∀ {s : State} (m : LineMode) (c : Option HoldCause), P s → P (setLineMode s m c)
  chamber : ∀ {s : State} (x : Atmosphere), P s → P (putAtm s x)
  move : ∀ {s : State} (x : Interlock), P s → x.permission = s.interlock.permission →
    (x.runOutput = true → s.interlock.runOutput = true ∨ s.runConditions.met = true) → P (moveInterlock s x)
  effects : ∀ {s : State}, P s → P (formEffects s)
  estop : ∀ {s : State}, P s → P (conditioned s .estop)
  door : ∀ {s : State}, P s → P (conditioned s .doorClosed)
  watts : ∀ {s : State} (v : Budget), P s →
    P (if s.effective = State.effective { s with budget := v } then { s with budget := v } else regrant { s with budget := v })
  hold : ∀ {s : State} (p : Phase), P s → P (holdReset s p)
  scan : ∀ {s : State}, P s → P (scanned s)

/-- What both orders of two changes keep, the order taken keeps, where the count of free values is no part of it. -/
theorem kept_eitherOrder {P : State → Prop} (K : BayKept P) (pick : Nat → Bool) (n : Nat) {a b : State} (ha : P a) (hb : P b) :
    P (eitherOrder pick n a b) := by
  unfold eitherOrder
  split_ifs
  · exact ha
  · exact K.tables hb rfl
  · exact K.tables ha rfl

/-! ### What the reads and the queue's own operations leave alone -/

theorem reqReadConfig_state (s : State) (v : Byte) : (reqReadConfig s v).1 = s := by
  unfold reqReadConfig
  split <;> rfl

theorem reqReadPack_state (s : State) (t : Tag) : (reqReadPack s t).1 = s := by
  unfold reqReadPack
  split
  · rfl
  · split <;> rfl

theorem reqReadLot_state (s : State) (n : Tag) : (reqReadLot s n).1 = s := by
  unfold reqReadLot
  split
  · rfl
  · split <;> rfl

theorem reqReadBay_state (s : State) (v : Byte) : (reqReadBay s v).1 = s := by
  unfold reqReadBay
  split <;> rfl

theorem reqReadZone_state (s : State) (v : Byte) : (reqReadZone s v).1 = s := by
  unfold reqReadZone
  split <;> rfl

theorem reqReadHead_state (s : State) (l a : Byte) : (reqReadHead s l a).1 = s := by
  unfold reqReadHead
  split <;> rfl

theorem setUntaken_length (st : Stage) (q : List Entry) : (setUntaken st q).length = q.length := by
  induction q with
  | nil => rfl
  | cons e t ih =>
    unfold setUntaken
    split
    · rfl
    · simp [ih]

/-- An operation in hand that names a segment of the array, with fewer erases queued, keeps the Writer's form. -/
theorem good_starts {w : Writer} (g : w.Good) {o : NvOp} (ho : o.wf = true) {l : List EraseTarget} (hl : ∀ t ∈ l, t.wf = true)
    {su : Option EraseTarget} (hs : ∀ t, su = some t → t.wf = true) (rd : List ReadOp) (so : List SettingsOp) :
    Writer.Good { w with aheads := l, running := some o, suspended := su, reads := rd, settingsOps := so } :=
  ⟨g.current, g.used, g.buffer, fun _ e => Option.some.inj e ▸ ho, hs, hl, g.incidents⟩

theorem headSlot_lt {w : Writer} (g : w.Good) {n : Nat} (hn : w.headSlot = some n) : n < 4096 := by
  unfold Writer.headSlot at hn
  split at hn
  · rename_i b t hb
    exact g.buffer b (by simp [hb]) n hn
  · cases hn

/-- The erase owed is of a segment of the ring. -/
theorem eraseOwed_lt {s : State} (g : s.writer.Good) {n : Nat} (hn : s.eraseOwed = some n) : n < 256 := by
  obtain ⟨b, hb, e⟩ := List.exists_of_findSome?_eq_some hn
  split at e
  · rename_i k hk
    split at e
    · have := g.buffer b hb k hk
      simp only [Option.some.injEq, segOf] at e
      omega
    · cases e
  · cases e

theorem answerRead_length (o : ReadOp) (r : Reply) (q : List Entry) : (answerRead o r q).length = q.length := by
  induction q with
  | nil => rfl
  | cons e t ih =>
    unfold answerRead
    split
    · rfl
    · simp [ih]

/-- Held in reset a part stands still; out of it the step does what its row says. -/
theorem kept_live {P : State → Prop} {s t : State} {f : State → State} (hf : ∀ s, P s → P (f s)) (h : P s) (e : live s f = .next t) : P t := by
  unfold live at e
  cases e
  split
  · exact h
  · exact hf s h

theorem kept_ite {P : State → Prop} {c : Prop} [Decidable c] {a b : State} (ha : P a) (hb : P b) : P (if c then a else b) := by
  split
  · exact ha
  · exact hb

/-- PASS_SENSOR is left alone, ends a feed or a jam, or counts a stray (R139, R140). -/
theorem passEvent_cases (s : State) :
    passEvent s = s ∨ (∃ e, passEvent s = finishFeed s e) ∨
      ∃ n, passEvent s = ({ s with feeder := { s.feeder with strays := n } } : State).mark .feed := by
  have takes (e : PackEvent) :
      (if s.feederWaits then s else finishFeed s e) = s ∨ ∃ e', (if s.feederWaits then s else finishFeed s e) = finishFeed s e' := by
    split
    · exact .inl rfl
    · exact .inr ⟨e, rfl⟩
  cases ht : s.feeder.tag <;> cases hs : s.feeder.state <;> simp only [passEvent, hs, ht]
  case some.feeding t =>
    exact (takes (.fed t false)).imp id .inl
  case some.jammed t =>
    exact (takes (.fed t true)).imp id .inl
  case none.feeding => exact .inl trivial
  case none.jammed => exact .inl trivial
  all_goals exact .inr (.inr ⟨_, rfl⟩)

/-- RESUME leaves the state alone, or enters STANDBY (R147). -/
theorem reqResume_state (s : State) : (reqResume s).1 = s ∨ (reqResume s).1 = setLineMode s .standby none := by
  unfold reqResume
  split
  · exact .inl rfl
  · split
    · right
      dsimp only
    · exact .inl rfl

namespace Kept

variable {P : State → Prop} {s : State} (K : Kept P)
include K

/-! ### Zones, loops and heads replaced -/

theorem kept_putZone (z : ZoneId) (x : Zone) (h : P s) : P (putZone s z x) :=
  K.kept_markIf _ _ (K.tables (t := s.setZone z x) h rfl)

theorem kept_setLoop (l : LoopId) (x : Loop) (h : P s) : P (s.setLoop l x) := by
  cases l <;> exact K.tables h rfl

theorem kept_putLoop (l : LoopId) (x : Loop) (h : P s) : P (putLoop s l x) := K.kept_markIf _ _ (K.kept_setLoop l x h)

theorem kept_putHead (l : LoopId) (a : HeadAddr) (o : Option Head) (h : P s) : P (putHead s l a o) :=
  K.kept_markIf _ _ (K.kept_setLoop l _ h)

/-! ### Line mode, feeds and their ends (R135, R139, R144, R147) -/

theorem kept_enterSafeHold (c : HoldCause) (h : P s) : P (enterSafeHold s c) := by
  unfold enterSafeHold
  split
  · exact h
  · exact K.lineMode _ _ h

theorem kept_reportEmpty (s₀ : State) (h : P s) : P (reportEmpty s₀ s) := by
  unfold reportEmpty
  split
  · exact K.lineMode _ _ h
  · exact h

theorem kept_afterFeedEvent (s₀ : State) (h : P s) : P (afterFeedEvent s₀ s) := K.kept_reportEmpty s₀ (K.kept_endFeed h)

theorem kept_finishFeed (e : PackEvent) (h : P s) : P (finishFeed s e) := by
  have hs := K.kept_submit e (K.kept_putFeeder (x := { s.feeder with gate := false, feedTimer := none }) (fun _ => rfl) h)
  unfold finishFeed
  dsimp only
  split
  · rename_i e₁
    rw [e₁] at hs
    exact K.kept_afterFeedEvent s hs
  · rename_i e₁
    rwa [e₁] at hs

theorem kept_passEvent (h : P s) : P (passEvent s) := by
  obtain e | ⟨v, e⟩ | ⟨n, e⟩ := passEvent_cases s <;> rw [e]
  · exact h
  · exact K.kept_finishFeed v h
  · exact K.kept_mark .feed (K.feeder h (fun hg => hg))

/-- A move of the interlock with the run output off. -/
theorem kept_moveOff (x : Interlock) (hp : x.permission = s.interlock.permission) (ho : x.runOutput = false) (h : P s) :
    P (moveInterlock s x) := K.move x h hp (fun hr => absurd hr (by simp [ho]))

theorem kept_feedbackChange (v : Bool) (h : P s) : P (feedbackChange s v) := by
  unfold feedbackChange
  dsimp only
  split
  · rename_i hx
    exact K.move _ h rfl (fun _ => .inl (by simp [Interlock.runOutput, hx]))
  · exact K.kept_moveOff _ rfl rfl h
  · exact K.kept_moveOff _ rfl rfl h
  · exact h

/-! ### Zones and incidents (R93 to R104) -/

theorem kept_incidentStep (z : ZoneId) (h : P s) : P (incidentStep s z) := by
  unfold incidentStep
  dsimp only
  split
  · exact K.kept_handPart _ (K.kept_exposeAll _ _ (K.tables h rfl))
  · exact K.kept_exposeAll _ _ (K.tables h rfl)

theorem kept_closeIncident (h : P s) : P (closeIncident s) := by
  unfold closeIncident
  split
  · exact h
  · split
    · exact h
    · exact K.kept_mark _ (K.kept_handPart _ (K.tables h rfl))

theorem kept_enterAlarm (z : ZoneId) (c : Option AlarmCause) (h : P s) : P (enterAlarm s z c) :=
  K.kept_mark _ (K.effects (K.kept_incidentStep z (K.kept_putZone z _ h)))

theorem kept_evaluateZone (z : ZoneId) (i : ZoneInput) (f : Bool) (h : P s) : P (evaluateZone s z i f) := by
  unfold evaluateZone
  dsimp only
  split
  · exact h
  · exact h
  · split_ifs
    · exact K.kept_enterAlarm z _ h
    · exact K.effects (K.kept_putZone z _ h)
    · exact h
  · split_ifs
    · exact K.kept_enterAlarm z _ h
    · exact K.kept_putZone z _ h
    · exact K.kept_putZone z _ h

theorem kept_refreshZone (z : ZoneId) (i : ZoneInput) (h : P s) : P (refreshZone s z i) := by
  have hz (x : Zone) : P (putZone s z x) := K.kept_putZone z x h
  unfold refreshZone
  dsimp only
  apply K.kept_evaluateZone
  split
  · exact hz _
  · exact K.effects (hz _)

theorem kept_refreshZones (l : List ZoneId) (i : ZoneInput) (h : P s) : P (refreshZones s l i) :=
  kept_foldl (fun _ z h => K.kept_refreshZone z i h) l h

theorem kept_thermalChange (b : BayId) (h : P s) : P (thermalChange s b) := by
  unfold thermalChange
  split
  · exact K.kept_refreshZone _ _ h
  · exact h

theorem kept_sparkReport (z : ZoneId) (l : LoopId) (a : HeadAddr) (n : Nat) (h : P s) : P (sparkReport s z l a n) :=
  K.kept_evaluateZone z _ _ (K.kept_putZone z _ h)

theorem kept_sampleEvent (b : BayId) (m : SampleMark) (v : Option Sample) (miss : Nat) (h : P s) : P (sampleEvent s b m v miss) := by
  have hm := K.kept_bayMeasures b m v miss h
  unfold sampleEvent
  dsimp only
  split
  · exact K.kept_bayActs b _ hm
  · exact kept_eitherOrder K.toBayKept _ _ (K.kept_thermalChange b (K.kept_bayActs b _ hm)) (K.kept_bayActs b _ (K.kept_thermalChange b hm))

theorem kept_vacate (b : BayId) {x : Bay} (hp : x.participant = (s.bay b).participant) (hg : x.grant = (s.bay b).grant) (h : P s) :
    P (vacate s b x) := by
  unfold vacate
  dsimp only
  split
  · exact K.kept_thermalChange b (K.kept_putBay hp hg h)
  · exact K.kept_putBay hp hg h

/-! ### Loops and heads (R70 to R84) -/

theorem kept_handHead (l : LoopId) (a : HeadAddr) (o x : Head) (h : P s) : P (handHead s l a o x) := by
  unfold handHead
  dsimp only
  split
  · exact K.kept_refreshZone _ _ (K.kept_putHead l a _ h)
  · exact K.kept_putHead l a _ h

theorem kept_hearHead (l : LoopId) (a : HeadAddr) (o : Head) (lv : FrameLevel) (v : Int) (t r : Bool) (h : P s) :
    P (hearHead s l a o lv v t r) := by
  unfold hearHead
  dsimp only
  split
  · exact K.kept_sparkReport _ _ _ _ (K.kept_handHead l a _ _ h)
  · exact K.kept_handHead l a _ _ h

/-- The requests queued may change their stage. -/
theorem kept_stages (f : Entry → Entry) (h : P s) : P { s with link := { s.link with queue := s.link.queue.map f } } :=
  K.link h (fun ⟨hq, hp, hn⟩ => ⟨by simpa using hq, hp, hn⟩)

theorem kept_answerTests (l : LoopId) (start : Bool) (r : Reply) (h : P s) : P (answerTests s l start r) := K.kept_stages _ h

theorem kept_answerDiscarded (l : LoopId) (h : P s) : P (answerDiscarded s l) := K.kept_answerTests _ _ _ (K.kept_answerTests _ _ _ h)

theorem kept_broadcastDone (l : LoopId) (b : Broadcast) (h : P s) : P (broadcastDone s l b) := by
  have hl := K.kept_putLoop l ((s.loop l).broadcast b) h
  cases b
  · exact K.kept_answerTests _ _ _ hl
  · exact K.kept_answerTests _ _ _ hl
  · exact hl

theorem kept_gapExpired (l : LoopId) (free : Bool) (h : P s) : P (gapExpired s l free) := by
  unfold gapExpired
  dsimp only
  split
  · exact K.kept_putLoop l _ h
  · exact h

theorem kept_headSeizes (l : LoopId) (h : P s) : P (headSeizes s l) := by
  unfold headSeizes
  dsimp only
  split
  · exact K.kept_putLoop l _ h
  · exact h

theorem kept_pollDone (l : LoopId) (h : P s) : P (pollDone s l) := by
  unfold pollDone
  dsimp only
  split
  · exact K.kept_putLoop l _ h
  · exact h

theorem kept_broadcastOut (l : LoopId) (h : P s) : P (broadcastOut s l) := by
  unfold broadcastOut
  split
  · exact K.kept_broadcastDone l _ h
  · exact h

theorem kept_frameLost (l : LoopId) (h : P s) : P (frameLost s l) := K.kept_putLoop l _ h

theorem kept_answerIn (l : LoopId) (a : HeadAddr) (lv : FrameLevel) (v : Int) (t : Bool) (h : P s) : P (answerIn s l a lv v t) := by
  unfold answerIn
  dsimp only
  split
  · split
    · split_ifs
      · exact K.kept_putLoop l _ h
      · exact K.kept_putLoop l _ (K.kept_hearHead l a _ lv v t false h)
      · exact K.kept_frameLost l h
    · exact K.kept_putLoop l _ h
  · exact K.kept_frameLost l h

theorem kept_windowOut (l : LoopId) (h : P s) : P (windowOut s l) := by
  unfold windowOut
  dsimp only
  split
  · split
    · apply K.kept_putLoop
      split
      · split
        · exact h
        · exact K.kept_handHead l _ _ _ h
      · exact h
    · exact h
  · exact h

theorem kept_reportIn (l : LoopId) (a : HeadAddr) (lv : FrameLevel) (v : Int) (t : Bool) (h : P s) : P (reportIn s l a lv v t) := by
  unfold reportIn
  dsimp only
  split
  · split
    · split
      · exact K.kept_putLoop l _ (K.kept_hearHead l a _ lv v t true h)
      · exact K.kept_frameLost l h
    · exact K.kept_putLoop l _ h
  · exact h

theorem kept_loopShorted (l : LoopId) (h : P s) : P (loopShorted s l) := by
  unfold loopShorted
  dsimp only
  split
  · exact h
  · exact K.kept_refreshZones _ _ (K.kept_putLoop l _ h)

theorem kept_loopReleased (l : LoopId) (h : P s) : P (loopReleased s l) := by
  unfold loopReleased
  dsimp only
  split
  · exact K.kept_refreshZones _ _ (K.kept_answerDiscarded l (K.kept_putLoop l _ h))
  · exact h

theorem kept_testExpired (l : LoopId) (h : P s) : P (testExpired s l) := by
  unfold testExpired
  dsimp only
  split
  · exact K.kept_setLoop l _ h
  · exact h

/-! ### Chamber, shredder and feeder timers; zone timers -/

theorem kept_oxygenEvent (k : OxyChan) (v : Option Nat) (miss : Nat) (h : P s) : P (oxygenEvent s k v miss) := K.chamber _ h

theorem kept_settleOut (h : P s) : P (settleOut s) := by
  unfold settleOut
  split
  · exact K.chamber _ h
  · exact h

theorem kept_maxPurgeOut (h : P s) : P (maxPurgeOut s) := by
  unfold maxPurgeOut
  split
  · exact K.chamber _ h
  · exact h

theorem kept_gasSecond (h : P s) : P { s with atm := s.atm.second } := by
  refine K.atm h ?_ ?_ <;> (unfold Atmosphere.second; split <;> rfl)

theorem kept_startOut (h : P s) : P (startOut s) := by
  unfold startOut
  dsimp only
  split
  · exact K.kept_moveOff _ rfl rfl h
  · exact h

theorem kept_rundownOut (h : P s) : P (rundownOut s) := by
  unfold rundownOut
  dsimp only
  split
  · exact K.kept_moveOff _ rfl rfl h
  · exact h

theorem kept_feedOut (h : P s) : P (feedOut s) := by
  unfold feedOut
  dsimp only
  split
  · exact K.kept_putFeeder (fun _ => rfl) h
  · exact h

theorem kept_resettleOut (h : P s) : P (resettleOut s) := by
  unfold resettleOut
  split
  · exact K.kept_updateFeeder (K.feeder h id)
  · exact h

theorem kept_preClearOut (z : ZoneId) (h : P s) : P (preClearOut s z) := by
  unfold preClearOut
  dsimp only
  split
  · exact K.kept_evaluateZone z _ _ (K.effects (K.kept_putZone z _ h))
  · exact h

theorem kept_sparkWindowOut (z : ZoneId) (h : P s) : P (sparkWindowOut s z) := by
  unfold sparkWindowOut
  dsimp only
  split
  · exact K.kept_evaluateZone z _ _ (K.kept_putZone z _ h)
  · exact h

theorem kept_releaseOut (z : ZoneId) (h : P s) : P (releaseOut s z) := by
  have hz (x : Zone) (i : Incident) : P { putZone s z x with incident := i } := K.tables (K.kept_putZone z x h) rfl
  unfold releaseOut
  dsimp only
  split
  · exact K.kept_mark _ (K.effects (hz _ _))
  · exact h
  · exact h

theorem kept_holdOut (z : ZoneId) (h : P s) : P (holdOut s z) := by
  unfold holdOut
  dsimp only
  split
  · exact K.kept_putZone z _ h
  · exact h

theorem kept_quenchOut (z : ZoneId) (h : P s) : P (quenchOut s z) := by
  unfold quenchOut
  dsimp only
  split
  · exact K.kept_putZone z _ h
  · exact h

/-! ### Held events, inputs and supply (R149 to R152, R155) -/

theorem kept_afterHeld (s₀ : State) (e : PackEvent) (a : Answer) (h : P s) : P (afterHeld s₀ s e a) := by
  cases e with
  | trip b t k => exact K.kept_afterTrip b t k a h
  | rebound b t => exact K.kept_afterRebound b t a h
  | ready b t => exact K.kept_afterReady b t a h
  | bayQuarantine b t r => exact K.kept_afterBayQuarantine b t h
  | feeding t =>
    unfold afterHeld
    dsimp only
    split
    · exact K.kept_openFeed t h
    · exact K.kept_tryFeed h
  | fed t late => exact K.kept_afterFeedEvent s₀ h
  | feedRemoved t => exact K.kept_afterFeedEvent s₀ h
  | expose t n => exact h

theorem kept_answerFeed (t : Tag) (h : P s) : P (answerFeed s t) := K.kept_stages _ h

theorem kept_takeHeld (h : P s) : P (takeHeld s) := by
  unfold takeHeld
  split
  · exact h
  · rename_i e l _
    have hl : P { s with held := l } := K.tables h rfl
    have hr := K.kept_afterHeld s e (applyEvent { s with held := l } e).2 (K.kept_applyEvent e hl)
    split
    · exact h
    · dsimp only
      split
      · exact K.kept_tryFeed hl
      · split
        · split
          · exact K.kept_answerFeed _ hr
          · exact K.kept_answerFeed _ hr
          · exact hr
        · exact h

theorem kept_rawChange (i : InputId) (v : Bool) (h : P s) : P (rawChange s i v) := by
  have hc (x : Input) : (x.change v).cond = x.cond := by
    unfold Input.change
    split <;> rfl
  cases i <;> refine K.inputs h ?_ ?_ <;> first | rfl | exact hc _

/-- An input conditioned: the emergency stop and the door each by themselves, the others by their receivers. -/
theorem kept_conditioned (i : InputId) (h : P s) : P (conditioned s i) := by
  cases i with
  | estop => exact K.estop h
  | doorClosed => exact K.door h
  | coolingOk =>
    unfold conditioned
    dsimp only
    split
    · dsimp only [inputTaken]
      split
      · exact K.kept_syncHolds (K.kept_markIf _ _ (K.inputs h rfl rfl))
      · exact K.kept_markIf _ _ (K.inputs h rfl rfl)
    · exact h
  | shredRunning =>
    unfold conditioned
    dsimp only
    split
    · dsimp only [inputTaken]
      split
      · exact K.kept_feedbackChange _ (K.kept_markIf _ _ (K.inputs h rfl rfl))
      · exact K.kept_markIf _ _ (K.inputs h rfl rfl)
    · exact h
  | packPassed =>
    unfold conditioned
    dsimp only
    split
    · dsimp only [inputTaken]
      split
      · exact K.kept_passEvent (K.kept_markIf _ _ (K.inputs h rfl rfl))
      · exact K.kept_markIf _ _ (K.inputs h rfl rfl)
    · exact h

theorem kept_compareSupply (h : P s) : P (compareSupply s) := by
  unfold compareSupply
  dsimp only
  split_ifs
  · exact h
  · exact K.kept_reportFlushed (K.kept_enterSafeHold _ (K.kept_mark _ (K.line h rfl rfl)))
  · exact K.kept_mark _ (K.line h rfl rfl)

/-! ### The requests, each by its owner -/

theorem kept_askRewrite (c : Section) (h : P s) : P (askRewrite s c) := by
  unfold askRewrite
  split
  · exact h
  · exact K.kept_writer h (fun g => ⟨g.current, g.used, g.buffer, g.running, g.suspended, g.aheads, g.incidents⟩)

theorem kept_queueRead (o : ReadOp) (h : P s) : P (queueRead s o) :=
  K.kept_writer h (fun g => ⟨g.current, g.used, g.buffer, g.running, g.suspended, g.aheads, g.incidents⟩)

/-- What changes the Writer alone, and keeps its form. -/
theorem kept_writerOnly {t : State} (e : ∃ w, t = { s with writer := w }) (hw : s.writer.Good → t.writer.Good) (h : P s) : P t := by
  obtain ⟨w, rfl⟩ := e
  exact K.kept_writer h hw

theorem kept_eraseAhead (h : P s) : P (eraseAhead s) := K.kept_writerOnly ⟨_, eraseAhead_eq s⟩ good_eraseAhead h

theorem kept_assignWaiting (h : P s) : P (assignWaiting s) := K.kept_writerOnly ⟨_, assignWaiting_eq s⟩ good_assignWaiting h

theorem kept_raiseMark (n : Nat) (h : P s) : P (raiseMark s n) := by
  apply K.kept_askRewrite
  apply K.kept_eraseAhead
  apply K.kept_assignWaiting
  apply K.kept_mark
  exact K.kept_writer h (fun g => ⟨g.current, g.used, g.buffer, g.running, g.suspended, g.aheads, g.incidents⟩)

theorem kept_reqRestart (h : P s) : P (reqRestart s).1 := by
  unfold reqRestart
  split
  · exact K.link h id
  · exact h

theorem kept_changeMode (m : LineMode) (h : P s) : P (changeMode s m).1 := by
  have ht := K.lineMode m none h
  have hd : P (if m = .drain && (setLineMode s m none).packs.isEmpty then setLineMode (setLineMode s m none) .standby none
      else setLineMode s m none) := by
    split
    · exact K.lineMode _ _ ht
    · exact ht
  exact kept_ite (K.kept_enterSafeHold _ hd) hd

theorem kept_reqSetMode (v : Byte) (h : P s) : P (reqSetMode s v).1 := by
  unfold reqSetMode
  split
  · exact h
  · split
    case h_1 =>
      split
      · exact K.kept_changeMode _ h
      · exact h
    case h_2 => exact K.kept_changeMode _ h
    case h_3 => exact K.kept_changeMode _ h
    case h_4 => exact K.kept_changeMode _ h
    case h_5 => exact K.kept_changeMode _ h
    case h_6 => exact K.kept_changeMode _ h
    case h_7 => exact h
    case h_8 => exact h
    case h_9 =>
      split
      · exact K.kept_changeMode _ h
      · exact h
    case h_10 => exact h

theorem kept_reqResume (h : P s) : P (reqResume s).1 := by
  obtain e | e := reqResume_state s <;> rw [e]
  · exact h
  · exact K.lineMode .standby none h

theorem kept_reqSubscribe (v : Byte) (h : P s) : P (reqSubscribe s v).1 := by
  unfold reqSubscribe
  split
  · exact h
  · exact K.link h (fits_subscribe _)

theorem kept_reqConfigClass (a : ClassArgs) (h : P s) : P (reqConfigClass s a).1 := by
  unfold reqConfigClass
  split
  · exact h
  · rename_i c _
    dsimp only
    have hs : P { s with classes := vput s.classes c (some (classApplied a)) } := K.tables h rfl
    exact K.kept_askRewrite .cls (K.kept_renewClass c hs)

theorem kept_reqConfigBay (a : BayArgs) (h : P s) : P (reqConfigBay s a).1 := by
  unfold reqConfigBay
  split
  · rename_i b z _ _
    have hs : P (s.setBay b { s.bay b with settings := some (bayApplied a z) }) := K.kept_setBay rfl rfl h
    dsimp only
    split
    · apply K.kept_askRewrite
      split
      · exact K.kept_refreshZones _ _ (K.kept_setHolds _ _ hs)
      · exact K.kept_setHolds _ _ hs
    · exact h
  · exact h

theorem kept_reqConfigBudget (w : BitVec 16) (e : Byte) (h : P s) : P (reqConfigBudget s w e).1 :=
  K.kept_askRewrite _ (K.watts (budgetApplied w e) h)

theorem kept_reqConfigZone (a : ZoneArgs) (h : P s) : P (reqConfigZone s a).1 := by
  unfold reqConfigZone
  split
  · dsimp only
    split_ifs
    · exact h
    · exact h
    · exact K.kept_askRewrite _ (K.kept_evaluateZone _ _ _ (K.kept_putZone _ _ h))
    · exact K.kept_askRewrite _ (K.kept_evaluateZone _ _ _ (K.kept_putZone _ _ h))
  · exact h

theorem kept_reqConfigAction (z c a p : Byte) (h : P s) : P (reqConfigAction s z c a p).1 := by
  unfold reqConfigAction
  split
  · exact K.kept_askRewrite _ (K.effects (K.tables h rfl))
  · exact h

theorem kept_handEnrollment (l : LoopId) (a : HeadAddr) (o n : Option ZoneId) (h : P s) : P (handEnrollment s l a o n) := by
  unfold handEnrollment
  split
  · exact h
  · exact K.kept_refreshZone _ _ h
  · exact K.kept_refreshZone _ _ h
  · split_ifs
    · exact K.kept_refreshZone _ _ h
    · exact K.kept_refreshZone _ _ (K.kept_refreshZone _ _ h)
    · exact K.kept_refreshZone _ _ (K.kept_refreshZone _ _ h)

theorem kept_configHeadAt (l : LoopId) (a : HeadAddr) (e : Option Enrollment) (h : P s) : P (configHeadAt s l a e).1 := by
  have hset (o : Option Head) : P (setEnrollment s l a o) := K.kept_putLoop l _ (K.kept_putHead l a o h)
  unfold configHeadAt
  dsimp only
  split
  · exact h
  · exact K.kept_askRewrite _ (K.kept_handEnrollment l a _ _ (hset _))

theorem kept_reqConfigHead (l a e k z : Byte) (h : P s) : P (reqConfigHead s l a e k z).1 := by
  unfold reqConfigHead
  split
  · exact K.kept_configHeadAt _ _ _ h
  · split
    · exact K.kept_configHeadAt _ _ _ h
    · exact h
  · exact h

theorem kept_reqConfigAtmosphere (a : AtmArgs) (h : P s) : P (reqConfigAtmosphere s a).1 := by
  have hs : P { s with atm := { s.atm with settings := atmApplied (atmSent a) },
                       feeder := { s.feeder with resettle := (atmApplied (atmSent a)).resettle } } :=
    K.feeder (s := { s with atm := { s.atm with settings := atmApplied (atmSent a) } }) (K.atm h rfl rfl) id
  unfold reqConfigAtmosphere
  split
  · exact h
  · exact K.kept_askRewrite _ hs

theorem kept_reqConfigFeed (t v : Byte) (h : P s) : P (reqConfigFeed s t v).1 :=
  K.kept_askRewrite _ (K.kept_compareSupply (K.feeder h id))

theorem kept_reqOpenLot (n : Tag) (h : P s) : P (reqOpenLot s n).1 := by
  unfold reqOpenLot
  split_ifs <;> first | exact h | exact K.kept_writeLot _ _ _ _ (K.tables h rfl)

theorem kept_reqCloseLot (n : Tag) (h : P s) : P (reqCloseLot s n).1 := by
  unfold reqCloseLot
  split
  · exact h
  · split
    · exact h
    · split_ifs
      · exact h
      · exact h
      · exact K.kept_finalizeLot _ (K.kept_writeLot _ _ _ _ (K.tables h rfl))

theorem kept_reqAdmit (a : AdmitArgs) (h : P s) : P (reqAdmit s a).1 := by
  unfold reqAdmit
  split
  · exact h
  · split
    · exact h
    · split
      · exact h
      · split_ifs <;> first | exact h | exact K.kept_writePack _ _ _ _ (K.tables h rfl)

theorem kept_reqPlace (t : Tag) (b : Byte) (h : P s) : P (reqPlace s t b).1 := by
  unfold reqPlace
  split
  · exact h
  · split
    · exact h
    · split
      · exact h
      · split
        · exact h
        · split_ifs <;> first | exact h | exact K.kept_placeAccepted _ _ h

theorem kept_stageAccepted (p : Pack) (h : P s) : P (stageAccepted s p) := by
  have hw (q : Pack) (l : List Tag) : P (writePack { s with queue := l } q .stage p.bay .none) := K.kept_writePack _ _ _ _ (K.tables h rfl)
  unfold stageAccepted
  dsimp only
  apply K.kept_tryFeed
  split
  · exact K.kept_vacate _ rfl rfl (hw _ _)
  · exact hw _ _

theorem kept_reqStage (t : Tag) (h : P s) : P (reqStage s t).1 := by
  unfold reqStage
  split
  · exact h
  · split
    · exact h
    · split_ifs
      · exact h
      · exact h
      · exact h
      · exact h
      · exact K.kept_quarantinePack _ _ h
      · exact K.kept_stageAccepted _ h

theorem kept_reqQuarantine (t : Tag) (h : P s) : P (reqQuarantine s t).1 := by
  unfold reqQuarantine
  split
  · exact h
  · split
    · exact h
    · split_ifs
      · exact h
      · exact h
      · exact K.kept_quarantinePack _ _ h

theorem kept_removeAccepted (p : Pack) (h : P s) : P (removeAccepted s p) := by
  have he := K.kept_exitPack p .removed false h
  unfold removeAccepted
  dsimp only
  apply K.kept_reportEmpty
  split
  · exact K.kept_vacate _ rfl rfl he
  · exact he

theorem kept_reqRemove (t : Tag) (h : P s) : P (reqRemove s t).1 := by
  unfold reqRemove
  split
  · exact h
  · split
    · exact h
    · split_ifs
      · exact h
      · exact h
      · exact K.kept_removeAccepted _ h

theorem kept_reqClearExposure (t : Tag) (h : P s) : P (reqClearExposure s t).1 := by
  unfold reqClearExposure
  split
  · exact h
  · split
    · exact h
    · split
      · exact h
      · dsimp only
        split_ifs
        · exact h
        · exact h
        · exact K.kept_writePack _ _ _ _ h
        · exact K.kept_putPack _ h
        · exact K.kept_quarantinePack _ _ h

theorem kept_requestHold (v : Byte) (on : Bool) (h : P s) : P (requestHold s v on).1 := by
  unfold requestHold
  split
  · exact h
  · split
    · exact h
    · exact K.kept_setHolds _ _ h

theorem kept_reqConfirmBay (v : Byte) (h : P s) : P (reqConfirmBay s v).1 := by
  unfold reqConfirmBay
  split
  · exact h
  · dsimp only
    split
    · exact h
    · split_ifs
      · exact h
      · exact h
      · exact h
      · exact K.kept_confirmAccepted _ _ h

theorem kept_reqUnlockBay (v : Byte) (h : P s) : P (reqUnlockBay s v).1 := by
  unfold reqUnlockBay
  split
  · exact h
  · dsimp only
    split
    · exact K.kept_putBay rfl rfl h
    · exact h

theorem kept_clearBayPeaks (b : BayId) (h : P s) : P (clearBayPeaks s b) := K.kept_setBay rfl rfl h

theorem kept_reqClearPeaks (v : Byte) (h : P s) : P (reqClearPeaks s v).1 := by
  unfold reqClearPeaks
  split
  · exact h
  · exact K.kept_clearBayPeaks _ h
  · exact kept_foldl (fun _ b h => K.kept_clearBayPeaks b h) allBays h
  · exact K.atm h rfl rfl

theorem kept_resetAccepted (z : ZoneId) (h : P s) : P (resetAccepted s z) := by
  apply K.kept_evaluateZone
  apply K.kept_mark
  exact K.effects (K.kept_closeIncident (K.kept_putZone z _ h))

theorem kept_reqResetZone (v : Byte) (h : P s) : P (reqResetZone s v).1 := by
  unfold reqResetZone
  split
  · exact h
  · dsimp only
    split
    · exact h
    · exact K.kept_resetAccepted _ h

theorem kept_reqHoldRelease (v : Byte) (h : P s) : P (reqHoldRelease s v).1 := by
  unfold reqHoldRelease
  split
  · exact h
  · dsimp only
    split
    · split
      · exact h
      · exact K.kept_putZone _ _ h
    · exact h
    · exact h

theorem kept_isolation (l a : Byte) (on : Bool) (h : P s) : P (isolation s l a on).1 := by
  unfold isolation
  split
  · split
    · exact h
    · unfold setIsolation
      dsimp only
      split
      · exact h
      · exact K.kept_refreshZone _ _ (K.kept_putHead _ _ _ h)
  · exact h

theorem kept_reqLoopTest (v : Byte) (h : P s) : P (reqLoopTest s v).1 := by
  unfold reqLoopTest
  split
  · exact h
  · dsimp only
    split
    · exact h
    · exact K.kept_setLoop _ _ h

theorem kept_reqInertStart (h : P s) : P (reqInertStart s).1 := by
  unfold reqInertStart
  dsimp only
  split_ifs
  · exact h
  · exact h
  · exact h
  · exact K.chamber _ h

theorem kept_reqInertStop (h : P s) : P (reqInertStop s).1 := by
  unfold reqInertStop
  split_ifs
  · exact h
  · exact h
  · exact h
  · exact K.chamber _ h

theorem kept_reqShredStart (h : P s) : P (reqShredStart s).1 := by
  unfold reqShredStart
  dsimp only
  split_ifs with h1 h2 h3 h4
  · exact h
  · exact h
  · exact h
  · exact h
  · exact K.move _ h rfl (fun _ => .inr (by simpa using h4))

theorem kept_reqShredStop (h : P s) : P (reqShredStop s).1 := by
  unfold reqShredStop
  dsimp only
  split
  · exact K.kept_moveOff _ rfl rfl h
  · exact K.kept_moveOff _ rfl rfl h
  · exact h
  · exact h
  · split
    · exact h
    · exact K.kept_moveOff _ rfl rfl h

theorem kept_reqFeedClear (v : Byte) (h : P s) : P (reqFeedClear s v).1 := by
  unfold reqFeedClear
  split
  · exact h
  · split
    · exact h
    · split
      · exact h
      · split
        · exact h
        · exact K.kept_finishFeed _ h

theorem kept_reqReadJournal (n : BitVec 32) (c : Byte) (h : P s) : P (reqReadJournal s n c).1 := by
  unfold reqReadJournal
  dsimp only
  split_ifs
  · exact h
  · exact h
  · exact h
  · exact K.kept_queueRead _ h

theorem kept_reqExportMark (n : BitVec 32) (h : P s) : P (reqExportMark s n).1 := by
  unfold reqExportMark
  dsimp only
  split_ifs
  · exact h
  · exact h
  · exact K.kept_raiseMark _ h

theorem kept_reqReadIncident (n : BitVec 16) (h : P s) : P (reqReadIncident s n).1 := by
  unfold reqReadIncident
  split
  · exact h
  · exact K.kept_queueRead _ h

theorem kept_runRequest (r : Request) (h : P s) : P (runRequest s r).1 := by
  cases r with
  | readStatus => exact h
  | setClock n => exact K.tables h rfl
  | restart => exact K.kept_reqRestart h
  | setMode m => exact K.kept_reqSetMode m h
  | resume => exact K.kept_reqResume h
  | subscribe c => exact K.kept_reqSubscribe c h
  | configClass a => exact K.kept_reqConfigClass a h
  | configBay a => exact K.kept_reqConfigBay a h
  | configBudget w e => exact K.kept_reqConfigBudget w e h
  | configZone a => exact K.kept_reqConfigZone a h
  | configAction z c a p => exact K.kept_reqConfigAction z c a p h
  | configHead l a e k z => exact K.kept_reqConfigHead l a e k z h
  | configAtmosphere a => exact K.kept_reqConfigAtmosphere a h
  | configFeed t v => exact K.kept_reqConfigFeed t v h
  | readConfig c => exact (reqReadConfig_state s c).symm ▸ h
  | openLot n => exact K.kept_reqOpenLot n h
  | closeLot n => exact K.kept_reqCloseLot n h
  | admitPack a => exact K.kept_reqAdmit a h
  | place t b => exact K.kept_reqPlace t b h
  | stage t => exact K.kept_reqStage t h
  | quarantine t => exact K.kept_reqQuarantine t h
  | remove t => exact K.kept_reqRemove t h
  | clearExposure t => exact K.kept_reqClearExposure t h
  | readPack t => exact (reqReadPack_state s t).symm ▸ h
  | readLot n => exact (reqReadLot_state s n).symm ▸ h
  | readQueue => exact h
  | pauseBay b => exact K.kept_requestHold b true h
  | continueBay b => exact K.kept_requestHold b false h
  | confirmBay b => exact K.kept_reqConfirmBay b h
  | unlockBay b => exact K.kept_reqUnlockBay b h
  | readBay b => exact (reqReadBay_state s b).symm ▸ h
  | clearPeaks t => exact K.kept_reqClearPeaks t h
  | resetZone z => exact K.kept_reqResetZone z h
  | holdRelease z => exact K.kept_reqHoldRelease z h
  | isolateHead l a => exact K.kept_isolation l a true h
  | restoreHead l a => exact K.kept_isolation l a false h
  | loopTest l => exact K.kept_reqLoopTest l h
  | readZone z => exact (reqReadZone_state s z).symm ▸ h
  | readHead l a => exact (reqReadHead_state s l a).symm ▸ h
  | inertStart => exact K.kept_reqInertStart h
  | inertStop => exact K.kept_reqInertStop h
  | shredStart => exact K.kept_reqShredStart h
  | shredStop => exact K.kept_reqShredStop h
  | feedClear o => exact K.kept_reqFeedClear o h
  | readAtmosphere => exact h
  | readFeed => exact h
  | readJournal n c => exact K.kept_reqReadJournal n c h
  | exportMark n => exact K.kept_reqExportMark n h
  | readIncident n => exact K.kept_reqReadIncident n h

/-! ### The request queue (R174) -/

theorem kept_takeAsked (k : Asked) (h : P s) : P (takeAsked s k) := by
  have hr : P (runAsked s k).1 := by
    cases k with
    | known r => exact K.kept_runRequest r h
    | unknownKind b => exact h
    | badLength b => exact h
  exact K.link hr (fun ⟨hq, hp, hn⟩ => ⟨by rw [setUntaken_length]; exact hq, hp, hn⟩)

theorem kept_signNotice (s₀ : State) (h : P s) : P (signNotice s₀ s) := K.kept_markIf _ _ h

theorem kept_takeWaiting (h : P s) : P (takeWaiting s) :=
  takeAll_keeps (fun s k h => K.kept_signNotice s (K.kept_takeAsked k h)) 4 h

theorem kept_joinQueue (m : Byte) (k : Asked) (h : P s) : P (joinQueue s m k) := by
  unfold joinQueue
  dsimp only
  split_ifs with hl
  · exact K.link h id
  · exact K.link h (fun ⟨_, hp, hn⟩ => ⟨by simp only [List.length_append, List.length_singleton]; omega, hp, hn⟩)

theorem kept_hostRequest (m : Byte) (r : Request) (h : P s) : P (hostRequest s m r) := by
  have hj := K.kept_joinQueue m (.known r) h
  unfold hostRequest
  dsimp only
  split
  · exact hj
  · exact K.kept_takeAsked _ hj

/-! ### The end of a step (R161, R162, R174, R176) -/

theorem kept_linkPump (h : P s) : P (linkPump s) := by
  have hn : P (sendNotice s) := by
    unfold sendNotice
    split
    · exact h
    · exact K.link h (fun hf => fits_sent _ hf)
  unfold linkPump
  split
  · exact h
  · split
    · rename_i e t hq
      split
      · refine K.link h (fun ⟨hl, hp, hn⟩ => ⟨?_, hp, hn⟩)
        rw [hq, List.length_cons] at hl
        dsimp only
        omega
      · exact hn
    · exact hn

theorem kept_startErase {t : EraseTarget} (n : Bool) (ht : s.writer.Good → t.wf = true) (h : P s) : P (startErase s t n) :=
  K.kept_writer h (fun g => good_starts g (o := .erase t n false) (ht g) (fun u hu => g.aheads u (List.mem_of_mem_erase hu)) g.suspended
    s.writer.reads s.writer.settingsOps)

theorem kept_resumeErase {t : EraseTarget} (n : Bool) (ht : s.writer.Good → t.wf = true) (h : P s) : P (resumeErase s t n) :=
  K.kept_mark _ (K.kept_writer h (fun g => good_starts g (o := .erase t n false) (ht g) g.aheads (su := none) nofun s.writer.reads s.writer.settingsOps))

theorem kept_eraseThen {t : EraseTarget} (e : Bool) {go : State} (ht : s.writer.Good → t.wf = true) (hg : P go) (h : P s) :
    P (eraseThen s t e go) := by
  unfold eraseThen
  split_ifs
  · exact K.kept_resumeErase true ht h
  · exact K.kept_startErase true ht h
  · exact hg
  · exact K.kept_startErase true ht h

theorem kept_journalAction {n : Nat} (hn : s.writer.headSlot = some n) (h : P s) : P (journalAction s n) := by
  refine K.kept_eraseThen _ (fun g => ?_) ?_ h
  · have := headSlot_lt g hn
    have hseg : segOf n < 256 := by
      unfold segOf
      omega
    simpa [EraseTarget.wf] using hseg
  · exact K.kept_writer h (fun g => good_starts g rfl g.aheads g.suspended s.writer.reads s.writer.settingsOps)

theorem kept_incidentAction (p : IncidentPart) (h : P s) : P (incidentAction s p) := by
  refine K.kept_eraseThen _ (fun _ => ?_) ?_ h
  · simp [EraseTarget.wf]
  · exact K.kept_writer h (fun g => good_starts g rfl g.aheads g.suspended s.writer.reads s.writer.settingsOps)

theorem kept_startSettings (o : SettingsOp) (h : P s) : P (startSettings s o) := by
  cases o with
  | erase c =>
    have hw : P { s with writer := { s.writer with
        settingsOps := s.writer.settingsOps.erase (.erase c), running := some (.settingsErase c) } } :=
      K.kept_writer h (fun g => good_starts g rfl g.aheads g.suspended s.writer.reads _)
    exact K.kept_stages (startedEntry c) hw
  | program c => exact K.kept_writer h (fun g => good_starts g rfl g.aheads g.suspended s.writer.reads _)

theorem kept_arbLow (h : P s) : P (arbLow s) := by
  unfold arbLow
  split
  · exact h
  · split
    · exact K.kept_writer h (fun g => good_starts g rfl g.aheads g.suspended _ s.writer.settingsOps)
    · split
      · rename_i t ht
        exact K.kept_resumeErase false (fun g => g.suspended t ht) h
      · split
        · exact K.kept_startSettings _ h
        · split
          · rename_i t l ha
            exact K.kept_startErase false (fun g => g.aheads t (by simp [ha])) h
          · exact h

theorem kept_arbPump (h : P s) : P (arbPump s) := by
  unfold arbPump
  split
  · unfold arbFree
    split
    · rename_i hs _
      split
      · exact K.kept_journalAction hs h
      · exact K.kept_incidentAction _ h
    · rename_i hs _
      exact K.kept_journalAction hs h
    · exact K.kept_incidentAction _ h
    · exact K.kept_arbLow h
  · rename_i t n u hr
    have wf (g : s.writer.Good) : t.wf = true := g.running _ hr
    unfold arbErase
    split_ifs
    · exact h
    · exact K.kept_writer h (fun g => good_starts g (o := .erase t true false) (wf g) g.aheads g.suspended s.writer.reads s.writer.settingsOps)
    · exact K.kept_writer h (fun g => good_starts g (o := .erase t false true) (wf g) g.aheads g.suspended s.writer.reads s.writer.settingsOps)
    · exact h
  · exact h

theorem kept_finish (s₀ : State) (h : P s) : P (finish s₀ s) := K.kept_linkPump (K.kept_signNotice s₀ (K.kept_arbPump h))

/-! ### Start-up, the Link Port's own events, the array's -/

theorem kept_startUp (h : P s) : P (startUp s) :=
  K.kept_finish _ (K.kept_compareSupply (K.kept_eraseAhead (K.effects (K.tables (K.scan h) rfl))))

theorem kept_powerUp (v : Nat) (h : P s) : P (powerUp s v) := by
  have hv : P (supplyAt s v) := K.line h rfl rfl
  unfold powerUp
  split_ifs
  · exact K.kept_startUp hv
  · exact hv
  · exact h

theorem kept_supplyEvent (v : Nat) (h : P s) : P (supplyEvent s v) := by
  have hv : P (supplyAt s v) := K.line h rfl rfl
  unfold supplyEvent
  dsimp only
  split_ifs
  · exact K.hold _ hv
  · exact K.kept_powerUp v h
  · exact hv
  · exact K.kept_finish _ (K.kept_compareSupply hv)

theorem kept_receiveByte (b : Byte) (h : P s) : P (receiveByte s b) := by
  have hx {x : Link} (hq : x.queue = s.link.queue) (hp : x.packsChanged = s.link.packsChanged)
      (hn : x.noticePending = s.link.noticePending) (hs : x.subscribed = s.link.subscribed) : P { s with link := x } :=
    K.link h (fun hf => by unfold Link.Fits; rw [hq, hp, hn, hs]; exact hf)
  unfold receiveByte checkFrame
  dsimp only
  split
  · split
    · exact hx rfl rfl rfl rfl
    · exact h
  · split
    · exact hx rfl rfl rfl rfl
    · exact hx rfl rfl rfl rfl
  · split
    · exact hx rfl rfl rfl rfl
    · split
      · split
        · exact K.kept_joinQueue _ _ (hx rfl rfl rfl rfl)
        · exact hx rfl rfl rfl rfl
      · exact hx rfl rfl rfl rfl

theorem kept_byteTaken (b : Byte) (h : P s) : P (byteTaken s b) := by
  have hb := K.kept_receiveByte b h
  unfold byteTaken
  dsimp only
  split
  · exact K.kept_linkPump hb
  · exact K.kept_finish _ (K.kept_takeWaiting hb)

theorem kept_bufferEmptied (h : P s) : P (bufferEmptied s) := by
  unfold bufferEmptied
  split
  · exact K.kept_reportFlushed (K.kept_mark _ h)
  · exact h

theorem kept_journalProgrammed (n : Nat) (h : P s) : P (journalProgrammed s n) := by
  refine K.kept_bufferEmptied (K.store h (fun ⟨hj, g⟩ => ⟨?_, ?_⟩))
  · exact journalWf_program (fun b hb k hk => g.buffer b (List.mem_of_mem_take hb) k hk) hj
  · exact ⟨g.current, g.used, fun b hb => g.buffer b (List.mem_of_mem_drop hb), nofun, g.suspended, g.aheads, g.incidents⟩

theorem kept_incidentProgrammed (p : IncidentPart) {l : List IncidentPart} (hl : s.writer.incidents = p :: l) (h : P s) :
    P (incidentProgrammed s p l) := by
  have hi (g : s.writer.Good) : l.length ≤ 4 := by
    have := g.incidents
    rw [hl, List.length_cons] at this
    omega
  have hs (n : Nv) (hn : n.journal = s.nv.journal) :
      P (State.mark { s with writer := { s.writer with running := none, incidents := l, lastIncident := some p.number }, nv := n } .journal) :=
    K.kept_mark _ (K.store h (fun ⟨hj, g⟩ => ⟨hn ▸ hj, g.current, g.used, g.buffer, nofun, g.suspended, g.aheads, hi g⟩))
  have he {u : State} (n : Nat) (hu : P u) : P (queueIncidentErase u n) := by
    refine K.kept_writerOnly ?_ (good_queueIncidentErase n) hu
    unfold queueIncidentErase
    dsimp only
    split_ifs
    · exact ⟨_, rfl⟩
    · exact ⟨_, rfl⟩
  unfold incidentProgrammed
  dsimp only
  split
  · exact he _ (hs _ rfl)
  · exact hs _ rfl

theorem kept_settingsErased (c : Section) (h : P s) : P (settingsErased s c) :=
  K.store h (fun ⟨hj, g⟩ => ⟨hj, g.current, g.used, g.buffer, nofun, g.suspended, g.aheads, g.incidents⟩)

theorem kept_settingsProgrammed (c : Section) (d : SectionData) (h : P s) : P (settingsProgrammed s c d) := by
  have hs : P { s with
      writer := { s.writer with running := none, valid := vput s.writer.valid (sectionIdx c) true }
      nv := { s.nv with sections := vput s.nv.sections (sectionIdx c) (.good d) } } :=
    K.store h (fun ⟨hj, g⟩ => ⟨hj, g.current, g.used, g.buffer, nofun, g.suspended, g.aheads, g.incidents⟩)
  exact K.kept_stages (rewrittenEntry c) hs

theorem kept_arrayFree (h : P s) : P (arrayFree s) :=
  K.kept_writer h (fun g => ⟨g.current, g.used, g.buffer, nofun, g.suspended, g.aheads, g.incidents⟩)

theorem kept_erased (t : EraseTarget) (h : P s) : P (erased s t) := by
  have hn : P { s with nv := s.nv.erase t } := K.store h (fun ⟨hj, g⟩ => by
    refine ⟨?_, g⟩
    cases t with
    | journal seg => exact journalWf_erase seg hj
    | incident i => exact hj)
  have hf := K.kept_arrayFree hn
  unfold erased eraseEnded
  split
  · rename_i n ho
    exact K.kept_writerOnly ⟨_, queueJournalErase_eq _ n⟩ (fun g => good_queueJournalErase (eraseOwed_lt g ho) g) hf
  · exact K.kept_eraseAhead hf

theorem kept_suspendAcked {t : EraseTarget} (ht : s.writer.Good → t.wf = true) (h : P s) : P (suspendAcked s t) :=
  K.kept_mark _ (K.kept_writer h
    (fun g => ⟨g.current, g.used, g.buffer, nofun, fun _ e => Option.some.inj e ▸ ht g, g.aheads, g.incidents⟩))

theorem kept_readDone (o : ReadOp) (h : P s) : P (readDone s o) :=
  K.kept_arrayFree (K.link h (fun ⟨hq, hp, hn⟩ => ⟨by rw [answerRead_length]; exact hq, hp, hn⟩))

/-! ### The part's own time (log 3) -/

theorem kept_tick (h : P s) : P (tick s) := by
  have same (x : Bay) (w : Bool) : (x.tick w).participant = x.participant ∧ (x.tick w).grant = x.grant := by
    unfold Bay.tick
    dsimp only
    split
    · exact ⟨rfl, rfl⟩
    · split <;> exact ⟨rfl, rfl⟩
  have hv : P { s with link := { s.link with gap := down s.link.gap } } := K.link h id
  have hb : P { s with
      link := { s.link with gap := down s.link.gap }, bays := Vector.ofFn fun b => (s.bay b).tick (s.awaiting b) } :=
    K.bays hv (fun b => by simpa [State.bay] using same (s.bay b) (s.awaiting b))
  have ha := K.atm (x := s.atm.tick) hb rfl rfl
  have hi := K.interlock
    (x := { s.interlock with startTimer := down s.interlock.startTimer, rundownTimer := down s.interlock.rundownTimer }) ha rfl rfl
  have hf := K.feeder
    (x := { s.feeder with feedTimer := down s.feeder.feedTimer, resettleTimer := down s.feeder.resettleTimer }) hi id
  exact K.tables (K.inputs (x := s.line.inputs.tick) hf rfl rfl) rfl

/-! ### Every command -/

theorem kept_transmitted (h : P s) : P (transmitted s) := K.link h (fun hf => hf)

theorem kept_request {m : Byte} {r : Request} {t : State} (h : P s) (e : request s m r = .next t) : P t :=
  kept_live (fun s h => K.kept_finish s (K.kept_hostRequest m r h)) h e

theorem kept_linkRequest {m : Byte} {r : Request} {t : State} (h : P s) (e : linkRequest s m r = .next t) : P t :=
  kept_live (fun _ h => K.kept_linkPump (K.kept_hostRequest m r h)) h e

/-- A step that ends as every step that may have touched the journal. -/
theorem kept_step {f : State → State} {t : State} (hf : ∀ s, P s → P (f s)) (h : P s)
    (e : live s (fun s => finish s (f s)) = .next t) : P t :=
  kept_live (fun s h => K.kept_finish s (hf s h)) h e

theorem kept_exec {c : Instr} {t : State} (h : P s) (e : exec c s = .next t) : P t := by
  cases c with
  | hostByteReceived b => exact kept_live (fun _ => K.kept_byteTaken b) h e
  | interByteTimeout =>
    unfold exec execInterByteTimeout at e
    refine kept_live (fun _ h => K.kept_linkPump ?_) h e
    split
    · exact K.link h id
    · exact h
  | requestTaken => exact K.kept_step (fun _ => K.kept_takeWaiting) h e
  | transmitComplete => exact K.kept_step (fun _ h => K.kept_takeWaiting (K.kept_transmitted h)) h e
  | readStatus m => exact K.kept_linkRequest h e
  | setClock m n => exact K.kept_linkRequest h e
  | restart m => exact K.kept_linkRequest h e
  | subscribe m v => exact K.kept_linkRequest h e
  | readConfig m v => exact K.kept_linkRequest h e
  | readPack m n => exact K.kept_linkRequest h e
  | readLot m n => exact K.kept_linkRequest h e
  | readQueue m => exact K.kept_linkRequest h e
  | readBay m b => exact K.kept_linkRequest h e
  | clearPeaks m v => exact K.kept_linkRequest h e
  | loopTest m l => exact K.kept_linkRequest h e
  | readZone m z => exact K.kept_linkRequest h e
  | readHead m l a => exact K.kept_linkRequest h e
  | readAtmosphere m => exact K.kept_linkRequest h e
  | readFeed m => exact K.kept_linkRequest h e
  | setMode m v => exact K.kept_request h e
  | resume m => exact K.kept_request h e
  | configClass m a => exact K.kept_request h e
  | configBay m a => exact K.kept_request h e
  | configBudget m w x => exact K.kept_request h e
  | configZone m a => exact K.kept_request h e
  | configAction m z c a p => exact K.kept_request h e
  | configHead m l a x k z => exact K.kept_request h e
  | configAtmosphere m a => exact K.kept_request h e
  | configFeed m t v => exact K.kept_request h e
  | openLot m n => exact K.kept_request h e
  | closeLot m n => exact K.kept_request h e
  | admitPack m a => exact K.kept_request h e
  | place m n b => exact K.kept_request h e
  | stage m n => exact K.kept_request h e
  | quarantine m n => exact K.kept_request h e
  | remove m n => exact K.kept_request h e
  | clearExposure m n => exact K.kept_request h e
  | pauseBay m b => exact K.kept_request h e
  | continueBay m b => exact K.kept_request h e
  | confirmBay m b => exact K.kept_request h e
  | unlockBay m b => exact K.kept_request h e
  | resetZone m z => exact K.kept_request h e
  | holdRelease m z => exact K.kept_request h e
  | isolateHead m l a => exact K.kept_request h e
  | restoreHead m l a => exact K.kept_request h e
  | inertStart m => exact K.kept_request h e
  | shredStart m => exact K.kept_request h e
  | shredStop m => exact K.kept_request h e
  | feedClear m v => exact K.kept_request h e
  | readJournal m n c => exact K.kept_request h e
  | exportMark m n => exact K.kept_request h e
  | readIncident m n => exact K.kept_request h e
  | heldPackEventTaken => exact K.kept_step (fun _ => K.kept_takeHeld) h e
  | baySampleArrival b v i t u m => exact K.kept_step (fun _ => K.kept_sampleEvent b _ _ _) h e
  | baySampleMiss b => exact K.kept_step (fun _ => K.kept_sampleEvent b _ _ _) h e
  | retryTimerExpiry b => exact K.kept_step (fun _ => K.kept_retryExpired b) h e
  | restTimerExpiry b => exact K.kept_step (fun _ => K.kept_restExpired b) h e
  | maxDischargeTime b => exact K.kept_step (fun _ => K.kept_timeReached b) h e
  | clearPeriod b => exact K.kept_step (fun _ => K.kept_clearReached b) h e
  | loopGapExpiry l f => exact K.kept_step (fun _ => K.kept_gapExpired l f) h e
  | loopSeized l => exact K.kept_step (fun _ => K.kept_headSeizes l) h e
  | pollSent l => exact K.kept_step (fun _ => K.kept_pollDone l) h e
  | broadcastSent l => exact K.kept_step (fun _ => K.kept_broadcastOut l) h e
  | answerReceived l a lv v x => exact K.kept_step (fun _ => K.kept_answerIn l a lv v x) h e
  | answerWindowExpiry l => exact K.kept_step (fun _ => K.kept_windowOut l) h e
  | reportReceived l a lv v x => exact K.kept_step (fun _ => K.kept_reportIn l a lv v x) h e
  | loopFrameError l => exact K.kept_step (fun _ => K.kept_frameLost l) h e
  | loopShort l => exact K.kept_step (fun _ => K.kept_loopShorted l) h e
  | loopRecessive l => exact K.kept_step (fun _ => K.kept_loopReleased l) h e
  | testWindowExpiry l => exact K.kept_step (fun _ => K.kept_testExpired l) h e
  | preClearTimerExpiry z => exact K.kept_step (fun _ => K.kept_preClearOut z) h e
  | windowTimerExpiry z => exact K.kept_step (fun _ => K.kept_sparkWindowOut z) h e
  | releaseTimerExpiry z => exact K.kept_step (fun _ => K.kept_releaseOut z) h e
  | holdTimerExpiry z => exact K.kept_step (fun _ => K.kept_holdOut z) h e
  | quenchTimerExpiry z => exact K.kept_step (fun _ => K.kept_quenchOut z) h e
  | oxygenSampleArrival k v m => exact K.kept_step (fun _ => K.kept_oxygenEvent k _ _) h e
  | oxygenSampleMiss k => exact K.kept_step (fun _ => K.kept_oxygenEvent k _ _) h e
  | settleTimerExpiry => exact K.kept_step (fun _ => K.kept_settleOut) h e
  | maxPurgeTimerExpiry => exact K.kept_step (fun _ => K.kept_maxPurgeOut) h e
  | gasCounterSecond => exact kept_live (fun _ => K.kept_gasSecond) h e
  | startTimerExpiry => exact K.kept_step (fun _ => K.kept_startOut) h e
  | rundownTimerExpiry => exact K.kept_step (fun _ => K.kept_rundownOut) h e
  | feedTimerExpiry => exact K.kept_step (fun _ => K.kept_feedOut) h e
  | resettleTimerExpiry => exact K.kept_step (fun _ => K.kept_resettleOut) h e
  | rawInputChange i v =>
    cases e
    exact K.kept_rawChange i v h
  | inputConditioned i => exact K.kept_step (fun _ => K.kept_conditioned i) h e
  | supplyWarning v =>
    cases e
    exact K.kept_supplyEvent v h
  | supplyNormal v =>
    cases e
    exact K.kept_supplyEvent v h
  | powerReset =>
    cases e
    exact K.hold _ h
  | powerResetRelease v =>
    cases e
    exact K.kept_powerUp v h
  | pinReset =>
    cases e
    unfold pinDown
    split
    · exact h
    · exact K.hold _ h
  | pinResetRelease =>
    cases e
    unfold pinUp
    split
    · exact K.kept_startUp h
    · exact h
  | commandResetTaken =>
    unfold exec execCommandResetTaken at e
    refine kept_live (fun _ h => ?_) h e
    split
    · exact K.kept_startUp h
    · exact h
  | rebuildComplete =>
    unfold exec execRebuildComplete at e
    refine kept_live (fun _ h => ?_) h e
    split
    · exact K.kept_finish _ (K.kept_takeWaiting (K.kept_signNotice _ (K.kept_installRebuild h)))
    · exact h
  | journalProgramDone =>
    unfold exec execJournalProgramDone at e
    refine kept_live (fun _ h => ?_) h e
    split
    · exact K.kept_finish _ (K.kept_journalProgrammed _ h)
    · exact h
  | incidentProgramDone =>
    unfold exec execIncidentProgramDone at e
    refine kept_live (fun _ h => ?_) h e
    split
    · rename_i hl
      exact K.kept_finish _ (K.kept_incidentProgrammed _ hl h)
    · exact h
  | settingsEraseDone =>
    unfold exec execSettingsEraseDone at e
    refine kept_live (fun _ h => ?_) h e
    split
    · exact K.kept_finish _ (K.kept_settingsErased _ h)
    · exact h
  | settingsProgramDone =>
    unfold exec execSettingsProgramDone at e
    refine kept_live (fun _ h => ?_) h e
    split
    · exact K.kept_finish _ (K.kept_settingsProgrammed _ _ h)
    · exact h
  | nvEraseDone =>
    unfold exec execNvEraseDone at e
    refine kept_live (fun _ h => ?_) h e
    split
    · exact K.kept_finish _ (K.kept_erased _ h)
    · exact h
  | eraseSuspendAck =>
    unfold exec execEraseSuspendAck at e
    refine kept_live (fun _ h => ?_) h e
    split
    · rename_i hr
      exact K.kept_finish _ (K.kept_suspendAcked (fun g => g.running _ hr) h)
    · exact h
  | nvReadDone =>
    unfold exec execNvReadDone at e
    refine kept_live (fun _ h => ?_) h e
    split
    · exact K.kept_finish _ (K.kept_readDone _ h)
    · exact h
  | clockSecond => exact kept_live (f := fun s => { s with clock := { s.clock with seconds := s.clock.seconds + 1#32 } }) (fun _ h => K.tables h rfl) h e
  | goodAnswerNotTaken l a => exact K.kept_step (fun _ => K.kept_frameLost l) h e

/-- A form that each part of a step keeps, every step keeps. -/
theorem kept_everyStep {t : State} (h : P s) (e : step s = .next t) : P t := by
  unfold step at e
  split at e
  · exact K.kept_step (fun _ => K.kept_tick) h e
  · rename_i c q _
    have hq : P { s with pending := q } := K.tables h rfl
    exact K.kept_exec hq e

end Kept

end Sys2Proof.Machine
end

section
/-! Where a form does not speak of the bays, or of the plant, most of its parts are kept at once; and the storage form (O5). -/

namespace Sys2Proof.Machine

/-! ### A form that does not speak of the bays -/

/-- A form that neither a class made pending nor a change of the bays touches. -/
structure BaysFree (P : State → Prop) : Prop where
  link : ∀ {s : State} {x : Link}, P s → (s.link.Fits → x.Fits) → P { s with link := x }
  bays : ∀ {s : State} (v : Vector Bay 8), P s → P { s with bays := v }

namespace BaysFree

variable {P : State → Prop} {s : State} (K : BaysFree P)
include K

theorem kept_markIf (d : Bool) (c : NoticeClass) (h : P s) : P (s.markIf d c) := by
  unfold State.markIf
  split
  · exact K.link h (fits_mark c)
  · exact h

theorem kept_putBay (b : BayId) (x : Bay) (h : P s) : P (putBay s b x) := by
  have hset : P (s.setBay b x) := K.bays _ h
  unfold putBay
  dsimp only
  apply K.kept_markIf
  split
  · exact hset
  · exact K.link hset id

theorem kept_regrant (h : P s) : P (regrant s) := by
  refine kept_foldl (fun s g h => ?_) _ h
  unfold takeGrant
  dsimp only
  split
  · exact h
  · exact K.kept_putBay _ _ h

theorem kept_reform (b : BayId) (h : P s) : P (reform s b) := K.kept_putBay b _ h

theorem kept_putApart (b : BayId) (x : Bay) (h : P s) : P (putApart s b x) := by
  unfold putApart
  dsimp only
  split
  · exact K.kept_regrant (K.kept_putBay _ _ h)
  · exact K.kept_putBay _ _ h

theorem kept_enterDischarging (b : BayId) (h : P s) : P (enterDischarging s b) :=
  K.kept_reform b (K.kept_regrant (K.kept_putBay b _ h))

theorem kept_renewRequest (b : BayId) (h : P s) : P (renewRequest s b) := by
  unfold renewRequest
  split
  · exact h
  · dsimp only
    apply K.kept_reform
    split
    · exact K.kept_putBay _ _ h
    · exact K.kept_regrant (K.kept_putBay _ _ h)

end BaysFree

/-- A form that does not speak of the bays, and that each plain change keeps, the bay operations keep. -/
theorem bayKept_of_baysFree {P : State → Prop} (K : BaysFree P) (tables : ∀ {s t : State}, P s → TablesOnly s t → P t)
    (store : ∀ {s : State} {w : Writer} {n : Nv}, P s → (StoreWf s.writer s.nv → StoreWf w n) → P { s with writer := w, nv := n })
    (line : ∀ {s : State} {l : Line}, P s → l.mode = s.line.mode → l.inputs = s.line.inputs → P { s with line := l })
    (feeder : ∀ {s : State} {x : Feeder}, P s → (s.feeder.gateWf = true → x.gateWf = true) → P { s with feeder := x }) : BayKept P where
  tables := tables
  link := K.link
  store := store
  line := line
  feeder := feeder
  bays h _ := K.bays _ h
  apart := K.kept_putApart
  discharge := K.kept_enterDischarging
  renew := K.kept_renewRequest

/-! ### A form that does not speak of the chamber, the shredder and the line -/

/-- A form kept by the bay operations that no change of the chamber, the shredder or the line touches. -/
structure PlantFree (P : State → Prop) : Prop extends BayKept P where
  freeAtm : ∀ {s : State} (x : Atmosphere), P s → P { s with atm := x }
  freeInterlock : ∀ {s : State} (x : Interlock), P s → P { s with interlock := x }
  freeLine : ∀ {s : State} (x : Line), P s → P { s with line := x }

namespace PlantFree

variable {P : State → Prop} {s : State} (K : PlantFree P)
include K

theorem kept_putInterlock (x : Interlock) (h : P s) : P (putInterlock s x) := K.kept_markIf _ _ (K.freeInterlock x h)

theorem kept_moveInterlock (x : Interlock) (h : P s) : P (moveInterlock s x) := K.kept_updateFeeder (K.kept_putInterlock x h)

theorem kept_updatePermission (h : P s) : P (updatePermission s) := by
  unfold updatePermission
  dsimp only
  split
  · exact K.kept_moveInterlock _ h
  · exact K.kept_putInterlock _ h

theorem kept_setLineMode (m : LineMode) (c : Option HoldCause) (h : P s) : P (setLineMode s m c) := by
  have hl : P { s with line := { s.line with mode := m, cause := c } } := K.freeLine _ h
  unfold setLineMode
  dsimp only
  exact K.kept_updateFeeder (K.kept_updatePermission (K.kept_syncHolds (K.kept_markIf _ _ hl)))

theorem kept_safeHold (c : HoldCause) (h : P s) : P (enterSafeHold s c) := by
  unfold enterSafeHold
  split
  · exact h
  · exact K.kept_setLineMode _ _ h

theorem kept_putChamber (x : Atmosphere) (h : P s) : P (putChamber s x) := K.kept_markIf _ _ (K.freeAtm _ h)

theorem kept_putAtm (x : Atmosphere) (h : P s) : P (putAtm s x) :=
  K.kept_updateFeeder (K.kept_updatePermission (K.kept_putChamber x h))

theorem kept_stopParts (o : EffectSet) (h : P s) : P (stopParts o s) := by
  unfold stopParts lineHoldEnters
  split
  · exact K.kept_safeHold _ (K.kept_updatePermission h)
  · exact K.kept_updatePermission h

theorem kept_lateParts (o : EffectSet) (h : P s) : P (lateParts o s) := by
  unfold lateParts
  split
  · exact kept_eitherOrder K.toBayKept _ _ (K.kept_stopParts o (K.kept_updateFeeder h)) (K.kept_updateFeeder (K.kept_stopParts o h))
  · exact K.kept_updateFeeder (K.kept_stopParts o h)

theorem kept_formEffects (hm : ∀ {s : State} (e : EffectSet), P s → P (marksThenPct e s))
    (hp : ∀ {s : State} (e : EffectSet), P s → P (pctThenMarks e s)) (h : P s) : P (formEffects s) := by
  have hs := K.kept_mark .line h
  have he := kept_eitherOrder K.toBayKept Config.pctFirst (s.mark .line).free (hm (effectOf s) hs) (hp (effectOf s) hs)
  unfold formEffects
  dsimp only
  split
  · exact h
  · apply K.kept_lateParts
    split
    · exact he
    · exact K.kept_putChamber _ he

theorem kept_estop (h : P s) : P (conditioned s .estop) := by
  unfold conditioned
  dsimp only
  split
  · have hm (l : Line) (c : Bool) : P (State.markIf { s with line := l } c .line) := K.kept_markIf _ _ (K.freeLine l h)
    unfold inputTaken estopTaken
    dsimp only
    split_ifs
    · exact K.kept_updatePermission (K.kept_safeHold _ (hm _ _))
    · exact K.kept_updatePermission (hm _ _)
    · exact K.kept_safeHold _ (hm _ _)
    · exact hm _ _
  · exact h

theorem kept_door (h : P s) : P (conditioned s .doorClosed) := by
  unfold conditioned
  dsimp only
  split
  · have hm (l : Line) (c : Bool) : P (State.markIf { s with line := l } c .line) := K.kept_markIf _ _ (K.freeLine l h)
    have change {u : State} (v : Bool) (hu : P u) : P (updatePermission (doorChange u v)) :=
      K.kept_updatePermission (K.kept_putAtm _ hu)
    unfold inputTaken doorTaken
    dsimp only
    split_ifs
    · exact change _ (K.kept_safeHold _ (hm _ _))
    · exact change _ (hm _ _)
    · exact K.kept_safeHold _ (hm _ _)
    · exact hm _ _
  · exact h

end PlantFree

/-- A form that does not speak of the chamber, the shredder and the line, kept by the rest of a step, every part of a step keeps. -/
theorem kept_of_plantFree {P : State → Prop} (K : PlantFree P)
    (marks : ∀ {s : State} (e : EffectSet), P s → P (marksThenPct e s))
    (pct : ∀ {s : State} (e : EffectSet), P s → P (pctThenMarks e s))
    (watts : ∀ {s : State} (v : Budget), P s →
      P (if s.effective = State.effective { s with budget := v } then { s with budget := v } else regrant { s with budget := v }))
    (hold : ∀ {s : State} (p : Phase), P s → P (holdReset s p)) (scan : ∀ {s : State}, P s → P (scanned s)) : Kept P where
  toBayKept := K.toBayKept
  atm h _ _ := K.freeAtm _ h
  interlock h _ _ := K.freeInterlock _ h
  inputs h _ _ := K.freeLine _ h
  permission := K.kept_updatePermission
  lineMode := K.kept_setLineMode
  chamber := K.kept_putAtm
  move x h _ _ := K.kept_moveInterlock x h
  effects := K.kept_formEffects marks pct
  estop := K.kept_estop
  door := K.kept_door
  watts := watts
  hold := hold
  scan := scan

/-! ### The storage form (R153, R157, R164, R174, R176) -/

/-- The storage form but for the transmitter, which the end of a step sets in motion. -/
def State.StorageFits (s : State) : Prop := StoreWf s.writer s.nv ∧ s.link.Fits ∧ s.feeder.gateWf = true

theorem baysFree_storageFits : BaysFree State.StorageFits where
  link h hl := ⟨h.1, hl h.2.1, h.2.2⟩
  bays _ h := h

theorem bayKept_storageFits : BayKept State.StorageFits :=
  bayKept_of_baysFree baysFree_storageFits
    (tables := fun h e => by rw [e]; exact h)
    (store := fun h hw => ⟨hw h.1, h.2⟩)
    (line := fun h _ _ => h)
    (feeder := fun h hx => ⟨h.1, h.2.1, hx h.2.2⟩)

theorem plantFree_storageFits : PlantFree State.StorageFits where
  toBayKept := bayKept_storageFits
  freeAtm _ h := h
  freeInterlock _ h := h
  freeLine _ h := h

/-- The newest record the scan finds lies in a slot of the ring. -/
theorem newestSlot_lt {j : List (Nat × Slot)} (h : journalWf j = true) {p : Nat × Nat} (e : newestSlot j = some p) : p.2 < 4096 := by
  obtain ⟨-, hm⟩ := (journalWf_iff j).1 h
  have fold : ∀ (l : List (Nat × Slot)) (o : Option (Nat × Nat)), (∀ f ∈ l, f.1 < 4096) → (∀ p, o = some p → p.2 < 4096) →
      ∀ p, l.foldl (fun o e => match e.2 with
        | .failed => o
        | .good r =>
          match o with
          | none => some (r.seq, e.1)
          | some (q, n) => if q < r.seq then some (r.seq, e.1) else some (q, n)) o = some p → p.2 < 4096 := by
    intro l
    induction l with
    | nil => exact fun o _ ho => ho
    | cons f t ih =>
      intro o hl ho
      have hf := hl f List.mem_cons_self
      refine ih _ (fun g hg => hl g (List.mem_cons_of_mem f hg)) fun p hp => ?_
      dsimp only at hp
      split at hp
      · exact ho p hp
      · split at hp
        · cases hp
          exact hf
        · split at hp
          · cases hp
            exact hf
          · exact ho p hp
  exact fold j none hm nofun p e

theorem usedFrom_le (j : List (Nat × Slot)) (seg k : Nat) : usedFrom j seg k ≤ 16 := by
  unfold usedFrom
  cases h : List.find? (fun i => (journalAt j (16 * seg + i)).isNone) ((List.range 16).filter (fun i => decide (k ≤ i))) with
  | none => exact le_refl 16
  | some i =>
    have hi := List.mem_filter.1 (List.mem_of_find?_eq_some h)
    exact le_of_lt (List.mem_range.1 hi.1)

/-- The Journal Writer as a scan leaves it is in its form (R169). -/
theorem good_scannedWriter {n : Nv} (i : Option (BitVec 16)) (h : journalWf n.journal = true) : (scannedWriter n i).Good where
  current := by
    change ((newestSlot n.journal).map (fun p => segOf p.2)).getD 0 < 256
    cases e : newestSlot n.journal with
    | none => decide
    | some p =>
      have hp := newestSlot_lt h e
      simp only [Option.map_some, Option.getD_some, segOf]
      omega
  used := usedFrom_le _ _ _
  buffer b hb := absurd (show b ∈ [] from hb) List.not_mem_nil
  running o ho := absurd (show none = some o from ho) nofun
  suspended t ht := absurd (show none = some t from ht) nofun
  aheads t ht := absurd (show t ∈ [] from ht) List.not_mem_nil
  incidents := show ([] : List IncidentPart).length ≤ 4 from Nat.zero_le 4

theorem fits_initial : Link.initial.Fits := by
  refine ⟨?_, ?_, ?_⟩ <;> decide

theorem storageFits_scanned {s : State} (h : s.StorageFits) : (scanned s).StorageFits := by
  obtain ⟨⟨hj, hg⟩, -, -⟩ := h
  have hc := journalWf_cut ((writer_wf_iff _).2 hg) hj
  refine ⟨⟨hc, good_scannedWriter _ hc⟩, fits_mark .journal fits_initial, rfl⟩

theorem storageFits_holdReset {s : State} (p : Phase) (h : s.StorageFits) : (holdReset s p).StorageFits := by
  obtain ⟨⟨hj, hg⟩, -, -⟩ := h
  have hw : Writer.initial.wf = true := by decide
  exact ⟨⟨journalWf_cut ((writer_wf_iff _).2 hg) hj, (writer_wf_iff _).1 hw⟩, fits_initial, rfl⟩

theorem kept_storageFits : Kept State.StorageFits := by
  have B := bayKept_storageFits
  have effect {s : State} (e : EffectSet) (h : s.StorageFits) : State.StorageFits { s with effect := e } := h
  have take {s : State} (e : EffectSet) (h : s.StorageFits) : (takePct e s).StorageFits := by
    unfold takePct
    dsimp only
    split
    · exact effect e h
    · exact baysFree_storageFits.kept_regrant (effect e h)
  refine kept_of_plantFree plantFree_storageFits (fun e h => take e (B.kept_syncHolds (effect _ h)))
    (fun e h => B.kept_syncHolds (take e h)) (fun v h => ?_) storageFits_holdReset storageFits_scanned
  exact kept_ite (P := State.StorageFits) h (baysFree_storageFits.kept_regrant h)

end Sys2Proof.Machine
end

section
/-! The storage form is kept by every step (O5). -/

namespace Sys2Proof.Machine

/-! ### Beside a free transmitter nothing waits, after any step (R174, R176) -/

theorem sends_live {s t : State} {f : State → State} (hf : ∀ s, s.link.sends = true → (f s).link.sends = true)
    (h : s.link.sends = true) (e : live s f = .next t) : t.link.sends = true :=
  kept_live (P := fun s => s.link.sends = true) hf h e

/-- A step that ends as most do. -/
theorem sends_finish {s t : State} {f : State → State} (h : s.link.sends = true) (e : live s (fun s => finish s (f s)) = .next t) :
    t.link.sends = true :=
  sends_live (fun _ _ => finish_sends _ _) h e

/-- A step of the Link Port's own rows. -/
theorem sends_linkPump {s t : State} {f : State → State} (h : s.link.sends = true) (e : live s (fun s => linkPump (f s)) = .next t) :
    t.link.sends = true :=
  sends_live (fun _ _ => linkPump_sends _) h e

/-- A step that ends as most do, or leaves the state alone. -/
theorem sends_ite {s : State} {c : Prop} [Decidable c] {x : State} (h : s.link.sends = true) (hx : x.link.sends = true) :
    (if c then x else s).link.sends = true := kept_ite (P := fun s => s.link.sends = true) hx h

theorem sends_request {s t : State} {m : Byte} {r : Request} (h : s.link.sends = true) (e : request s m r = .next t) :
    t.link.sends = true :=
  sends_finish h e

theorem sends_linkRequest {s t : State} {m : Byte} {r : Request} (h : s.link.sends = true) (e : linkRequest s m r = .next t) :
    t.link.sends = true :=
  sends_linkPump h e

theorem sends_initial : Link.initial.sends = true := by decide

theorem sends_powerUp (s : State) (v : Nat) (h : s.link.sends = true) : (powerUp s v).link.sends = true := by
  unfold powerUp
  split_ifs
  · exact startUp_sends _
  · exact h
  · exact h

theorem sends_supplyEvent (s : State) (v : Nat) (h : s.link.sends = true) : (supplyEvent s v).link.sends = true := by
  unfold supplyEvent
  dsimp only
  split_ifs
  · exact sends_initial
  · exact sends_powerUp s v h
  · exact h
  · exact finish_sends _ _

theorem sends_byteTaken (s : State) (b : Byte) : (byteTaken s b).link.sends = true := by
  unfold byteTaken
  dsimp only
  split
  · exact linkPump_sends _
  · exact finish_sends _ _

theorem sends_exec {c : Instr} {s t : State} (h : s.link.sends = true) (e : exec c s = .next t) : t.link.sends = true := by
  unfold exec at e
  cases c with
  | hostByteReceived b => exact sends_live (f := fun s => byteTaken s b) (fun s _ => sends_byteTaken s b) h e
  | interByteTimeout => exact sends_linkPump h e
  | requestTaken => exact sends_finish h e
  | transmitComplete => exact sends_finish h e
  | readStatus _ => exact sends_linkRequest h e
  | setClock _ _ => exact sends_linkRequest h e
  | restart _ => exact sends_linkRequest h e
  | subscribe _ _ => exact sends_linkRequest h e
  | readConfig _ _ => exact sends_linkRequest h e
  | readPack _ _ => exact sends_linkRequest h e
  | readLot _ _ => exact sends_linkRequest h e
  | readQueue _ => exact sends_linkRequest h e
  | readBay _ _ => exact sends_linkRequest h e
  | clearPeaks _ _ => exact sends_linkRequest h e
  | loopTest _ _ => exact sends_linkRequest h e
  | readZone _ _ => exact sends_linkRequest h e
  | readHead _ _ _ => exact sends_linkRequest h e
  | readAtmosphere _ => exact sends_linkRequest h e
  | readFeed _ => exact sends_linkRequest h e
  | setMode _ _ => exact sends_request h e
  | resume _ => exact sends_request h e
  | configClass _ _ => exact sends_request h e
  | configBay _ _ => exact sends_request h e
  | configBudget _ _ _ => exact sends_request h e
  | configZone _ _ => exact sends_request h e
  | configAction _ _ _ _ _ => exact sends_request h e
  | configHead _ _ _ _ _ _ => exact sends_request h e
  | configAtmosphere _ _ => exact sends_request h e
  | configFeed _ _ _ => exact sends_request h e
  | openLot _ _ => exact sends_request h e
  | closeLot _ _ => exact sends_request h e
  | admitPack _ _ => exact sends_request h e
  | place _ _ _ => exact sends_request h e
  | stage _ _ => exact sends_request h e
  | quarantine _ _ => exact sends_request h e
  | remove _ _ => exact sends_request h e
  | clearExposure _ _ => exact sends_request h e
  | pauseBay _ _ => exact sends_request h e
  | continueBay _ _ => exact sends_request h e
  | confirmBay _ _ => exact sends_request h e
  | unlockBay _ _ => exact sends_request h e
  | resetZone _ _ => exact sends_request h e
  | holdRelease _ _ => exact sends_request h e
  | isolateHead _ _ _ => exact sends_request h e
  | restoreHead _ _ _ => exact sends_request h e
  | inertStart _ => exact sends_request h e
  | shredStart _ => exact sends_request h e
  | shredStop _ => exact sends_request h e
  | feedClear _ _ => exact sends_request h e
  | readJournal _ _ _ => exact sends_request h e
  | exportMark _ _ => exact sends_request h e
  | readIncident _ _ => exact sends_request h e
  | heldPackEventTaken => exact sends_finish h e
  | baySampleArrival _ _ _ _ _ _ => exact sends_finish h e
  | baySampleMiss _ => exact sends_finish h e
  | retryTimerExpiry _ => exact sends_finish h e
  | restTimerExpiry _ => exact sends_finish h e
  | maxDischargeTime _ => exact sends_finish h e
  | clearPeriod _ => exact sends_finish h e
  | loopGapExpiry _ _ => exact sends_finish h e
  | loopSeized _ => exact sends_finish h e
  | pollSent _ => exact sends_finish h e
  | broadcastSent _ => exact sends_finish h e
  | answerReceived _ _ _ _ _ => exact sends_finish h e
  | answerWindowExpiry _ => exact sends_finish h e
  | reportReceived _ _ _ _ _ => exact sends_finish h e
  | loopFrameError _ => exact sends_finish h e
  | loopShort _ => exact sends_finish h e
  | loopRecessive _ => exact sends_finish h e
  | testWindowExpiry _ => exact sends_finish h e
  | preClearTimerExpiry _ => exact sends_finish h e
  | windowTimerExpiry _ => exact sends_finish h e
  | releaseTimerExpiry _ => exact sends_finish h e
  | holdTimerExpiry _ => exact sends_finish h e
  | quenchTimerExpiry _ => exact sends_finish h e
  | oxygenSampleArrival _ _ _ => exact sends_finish h e
  | oxygenSampleMiss _ => exact sends_finish h e
  | settleTimerExpiry => exact sends_finish h e
  | maxPurgeTimerExpiry => exact sends_finish h e
  | gasCounterSecond =>
    unfold execGasCounterSecond at e
    refine sends_live (fun s h => ?_) h e
    exact h
  | startTimerExpiry => exact sends_finish h e
  | rundownTimerExpiry => exact sends_finish h e
  | feedTimerExpiry => exact sends_finish h e
  | resettleTimerExpiry => exact sends_finish h e
  | rawInputChange _ _ =>
    cases e
    exact h
  | inputConditioned _ => exact sends_finish h e
  | supplyWarning _ =>
    cases e
    exact sends_supplyEvent s _ h
  | supplyNormal _ =>
    cases e
    exact sends_supplyEvent s _ h
  | powerReset =>
    cases e
    exact sends_initial
  | powerResetRelease _ =>
    cases e
    exact sends_powerUp s _ h
  | pinReset =>
    cases e
    unfold pinDown
    split_ifs
    · exact h
    · exact sends_initial
  | pinResetRelease =>
    cases e
    exact sends_ite h (startUp_sends s)
  | commandResetTaken => exact sends_live (f := fun s => if s.flushed then startUp s else s) (fun s h => sends_ite h (startUp_sends s)) h e
  | rebuildComplete =>
    unfold execRebuildComplete at e
    refine sends_live (fun s h => ?_) h e
    split
    · exact finish_sends _ _
    · exact h
  | journalProgramDone =>
    unfold execJournalProgramDone at e
    refine sends_live (fun s h => ?_) h e
    split
    · exact finish_sends _ _
    · exact h
  | incidentProgramDone =>
    unfold execIncidentProgramDone at e
    refine sends_live (fun s h => ?_) h e
    split
    · exact finish_sends _ _
    · exact h
  | settingsEraseDone =>
    unfold execSettingsEraseDone at e
    refine sends_live (fun s h => ?_) h e
    split
    · exact finish_sends _ _
    · exact h
  | settingsProgramDone =>
    unfold execSettingsProgramDone at e
    refine sends_live (fun s h => ?_) h e
    split
    · exact finish_sends _ _
    · exact h
  | nvEraseDone =>
    unfold execNvEraseDone at e
    refine sends_live (fun s h => ?_) h e
    split
    · exact finish_sends _ _
    · exact h
  | eraseSuspendAck =>
    unfold execEraseSuspendAck at e
    refine sends_live (fun s h => ?_) h e
    split
    · exact finish_sends _ _
    · exact h
  | nvReadDone =>
    unfold execNvReadDone at e
    refine sends_live (fun s h => ?_) h e
    split
    · exact finish_sends _ _
    · exact h
  | clockSecond =>
    unfold execClockSecond at e
    refine sends_live (fun s h => ?_) h e
    exact h
  | goodAnswerNotTaken _ _ => exact sends_finish h e

theorem sends_step {s t : State} (h : s.link.sends = true) (e : step s = .next t) : t.link.sends = true := by
  unfold step at e
  split at e
  · exact sends_finish h e
  · rename_i c q _
    exact sends_exec (s := { s with pending := q }) h e

/-- Settles O5: what a step writes into the array and the Writer stays in form (`kept_storageFits`), and a step that touches the Link
Port sets the transmitter in motion as its last act (`sends_step`). -/
theorem storageKept : Obligations.StorageKept := by
  unfold Obligations.StorageKept
  intro s t h e
  obtain ⟨hs, ⟨hl, hn⟩, hf⟩ := (storageWf_iff s).1 h
  obtain ⟨hs', hl', hf'⟩ := kept_storageFits.kept_everyStep ⟨hs, hl, hf⟩ e
  exact (storageWf_iff t).2 ⟨hs', ⟨hl', sends_step hn e⟩, hf'⟩

end Sys2Proof.Machine
end

section
/-! Run permission and the valve command follow their sources through every step (O6, O7). -/

namespace Sys2Proof.Machine

/-! ### What the plant's own operations leave of the plant -/

theorem putInterlock_plant (s : State) (x : Interlock) : (putInterlock s x).plant = { s.plant with interlock := x } :=
  markIf_plant _ _ _

theorem moveInterlock_plant (s : State) (x : Interlock) : (moveInterlock s x).plant = { s.plant with interlock := x } :=
  (updateFeeder_plant _).trans (putInterlock_plant s x)

theorem updatePermission_plant (s : State) : ∃ x, (updatePermission s).plant = { s.plant with interlock := x } := by
  unfold updatePermission
  dsimp only
  split
  · exact ⟨_, moveInterlock_plant s _⟩
  · exact ⟨_, putInterlock_plant s _⟩

theorem setLineMode_plant (s : State) (m : LineMode) (c : Option HoldCause) :
    ∃ x, (setLineMode s m c).plant = { s.plant with interlock := x, mode := m, cause := c } := by
  unfold setLineMode
  dsimp only
  generalize hu : State.markIf _ _ _ = u
  have hp : u.plant = { s.plant with mode := m, cause := c } := by rw [← hu, markIf_plant]; rfl
  obtain ⟨x, hx⟩ := updatePermission_plant (syncHolds u)
  exact ⟨x, by rw [updateFeeder_plant, hx, syncHolds_plant, hp]⟩

theorem putChamber_plant (s : State) (x : Atmosphere) : (putChamber s x).plant = { s.plant with atm := withValve s x } :=
  markIf_plant _ _ _

theorem takePct_plant (e : EffectSet) (s : State) : (takePct e s).plant = { s.plant with effect := e } := by
  unfold takePct
  dsimp only
  split
  · rfl
  · exact regrant_plant _

theorem marksThenPct_plant (e : EffectSet) (s : State) : (marksThenPct e s).plant = { s.plant with effect := e } := by
  unfold marksThenPct
  rw [takePct_plant, syncHolds_plant]
  rfl

theorem pctThenMarks_plant (e : EffectSet) (s : State) : (pctThenMarks e s).plant = { s.plant with effect := e } := by
  unfold pctThenMarks
  rw [syncHolds_plant, takePct_plant]

/-- What does not see the count of free values, both orders of two changes have where each of the two has it. -/
theorem eitherOrder_of {Q : State → Prop} (hf : ∀ {s : State}, Q s → Q s.spendFree) (pick : Nat → Bool) (n : Nat) {a b : State} (ha : Q a)
    (hb : Q b) : Q (eitherOrder pick n a b) := by
  unfold eitherOrder
  split_ifs
  · exact ha
  · exact hf hb
  · exact hf ha

/-! ### What run permission and the valve follow -/

/-- `t` has the chamber, the effect set and the inputs of `s`. -/
structure SameSources (s t : State) : Prop where
  atm : t.atm = s.atm
  effect : t.effect = s.effect
  inputs : t.line.inputs = s.line.inputs

theorem SameSources.trans {s t u : State} (h₁ : SameSources s t) (h₂ : SameSources t u) : SameSources s u :=
  ⟨h₂.atm.trans h₁.atm, h₂.effect.trans h₁.effect, h₂.inputs.trans h₁.inputs⟩

/-- What changes the shredder and the line mode alone leaves their sources alone. -/
theorem sameSources_of {s t : State} (hc : t.core = s.core) {x : Interlock} {m : LineMode} {c : Option HoldCause}
    (hp : t.plant = { s.plant with interlock := x, mode := m, cause := c }) : SameSources s t :=
  ⟨congrArg Plant.atm hp, congrArg Plant.effect hp, congrArg Core.inputs hc⟩

theorem sameSources_updateFeeder (s : State) : SameSources s (updateFeeder s) :=
  sameSources_of (updateFeeder_core s) (updateFeeder_plant s)

theorem sameSources_updatePermission (s : State) : SameSources s (updatePermission s) :=
  have ⟨_, hx⟩ := updatePermission_plant s
  sameSources_of (updatePermission_core s) hx

theorem sameSources_setLineMode (s : State) (m : LineMode) (c : Option HoldCause) : SameSources s (setLineMode s m c) :=
  have ⟨_, hx⟩ := setLineMode_plant s m c
  sameSources_of (setLineMode_core s m c) hx

theorem sameSources_enterSafeHold (s : State) (c : HoldCause) : SameSources s (enterSafeHold s c) := by
  unfold enterSafeHold
  split
  · exact ⟨rfl, rfl, rfl⟩
  · exact sameSources_setLineMode s _ _

theorem sameSources_stopParts (o : EffectSet) (s : State) : SameSources s (stopParts o s) := by
  unfold stopParts lineHoldEnters
  split
  · exact (sameSources_updatePermission s).trans (sameSources_enterSafeHold _ _)
  · exact sameSources_updatePermission s

theorem sameSources_lateParts (o : EffectSet) (s : State) : SameSources s (lateParts o s) := by
  unfold lateParts
  split
  · exact eitherOrder_of (Q := SameSources s) (fun h => ⟨h.atm, h.effect, h.inputs⟩) _ _
      ((sameSources_updateFeeder s).trans (sameSources_stopParts o _)) ((sameSources_stopParts o s).trans (sameSources_updateFeeder _))
  · exact (sameSources_stopParts o s).trans (sameSources_updateFeeder _)

/-! ### The parts of a changed effect set, one after the other (R109 to R115) -/

/-- A changed effect set once the bays and the arbiter have taken their parts. -/
def effectTaken (s : State) : State :=
  eitherOrder Config.pctFirst (s.mark .line).free (marksThenPct (effectOf s) (s.mark .line)) (pctThenMarks (effectOf s) (s.mark .line))

/-- The bays and the arbiter taking their parts leave the chamber, the shredder and the line alone. -/
structure EffectOnly (s t : State) (e : EffectSet) : Prop where
  atm : t.atm = s.atm
  interlock : t.interlock = s.interlock
  effect : t.effect = e
  inputs : t.line.inputs = s.line.inputs

theorem effectTaken_only (s : State) : EffectOnly s (effectTaken s) (effectOf s) := by
  have only {t : State} (hp : t.plant = { s.plant with effect := effectOf s }) (hc : t.core = s.core) : EffectOnly s t (effectOf s) :=
    ⟨congrArg Plant.atm hp, congrArg Plant.interlock hp, congrArg Plant.effect hp, congrArg Core.inputs hc⟩
  refine eitherOrder_of (Q := fun t => EffectOnly s t (effectOf s)) (fun h => ⟨h.atm, h.interlock, h.effect, h.inputs⟩) _ _ ?_ ?_
  · exact only (by rw [marksThenPct_plant, mark_plant]) (by rw [marksThenPct_core, mark_core])
  · exact only (by rw [pctThenMarks_plant, mark_plant]) (by rw [pctThenMarks_core, mark_core])

/-- The effect set formed afresh: nothing where it is the one in force; else the parts in their order (R109). -/
theorem formEffects_cases (s : State) :
    (s.effect = effectOf s ∧ formEffects s = s)
      ∨ (s.effect ≠ effectOf s ∧ s.effect.inertBoost = (effectOf s).inertBoost ∧ formEffects s = lateParts s.effect (effectTaken s))
      ∨ (s.effect ≠ effectOf s ∧ s.effect.inertBoost ≠ (effectOf s).inertBoost
          ∧ formEffects s = lateParts s.effect (putChamber (effectTaken s) (effectTaken s).atm)) := by
  unfold formEffects effectTaken
  dsimp only
  split
  · rename_i h
    exact .inl ⟨h, rfl⟩
  · rename_i h
    split
    · rename_i hb
      exact .inr (.inl ⟨h, hb, rfl⟩)
    · rename_i hb
      exact .inr (.inr ⟨h, hb, rfl⟩)

/-! ### An input conditioned (R149, R150) -/

/-- The part with input `i` at its raw level, and LINE pending where the receivers take another level for it than before. -/
def State.conditionedAt (s : State) (i : InputId) : State :=
  let v := s.line.inputs.get i
  State.markIf { s with line := { s.line with inputs := s.line.inputs.put i { v with cond := some v.raw, debounce := none } } }
    (s.level i ≠ v.raw) .line

/-- A conditioning is of an input whose 20 ms run, and the level goes to its receivers. -/
theorem conditioned_cases (s : State) (i : InputId) :
    conditioned s i = s ∨ conditioned s i
      = inputTaken (s.conditionedAt i) i (s.line.inputs.get i).raw (decide (s.level i ≠ (s.line.inputs.get i).raw)) := by
  unfold conditioned State.conditionedAt
  dsimp only
  split
  · exact .inr rfl
  · exact .inl rfl

theorem conditionedAt_eq (s : State) (i : InputId) : ∃ l, s.conditionedAt i = { s with
    line := { s.line with inputs := s.line.inputs.put i { s.line.inputs.get i with
      cond := some (s.line.inputs.get i).raw, debounce := none } }
    link := l } :=
  ⟨_, markIf_eq _ _ _⟩

theorem level_conditionedAt (s : State) (i : InputId) : (s.conditionedAt i).level i = (s.line.inputs.get i).raw := by
  obtain ⟨l, e⟩ := conditionedAt_eq s i
  rw [e]
  cases i <;> rfl

theorem level_conditionedAt_other (s : State) {i j : InputId} (h : j ≠ i) : (s.conditionedAt i).level j = s.level j := by
  obtain ⟨l, e⟩ := conditionedAt_eq s i
  rw [e]
  revert h
  cases i <;> cases j <;> simp [State.level, Inputs.get, Inputs.put]

end Sys2Proof.Machine
end

section
/-! Run permission and the run output (O6), and the valve command (O7), through every step. -/

namespace Sys2Proof.Machine

/-! ### Run permission (R133) -/

/-- The run output is on only while run permission is met. -/
def State.Guarded (s : State) : Prop := s.interlock.runOutput = true → s.interlock.permission = true

theorem runWf_iff (s : State) : s.runWf = true ↔ s.interlock.permission = s.runConditions.met ∧ s.Guarded := by
  simp only [State.runWf, State.Guarded, Bool.and_eq_true, decide_eq_true_eq, Bool.or_eq_true, Bool.not_eq_true']
  cases s.interlock.runOutput <;> simp

theorem guarded_of_runWf {s : State} (h : s.runWf = true) : s.Guarded := ((runWf_iff s).1 h).2

theorem runWf_of_plant {s t : State} (hp : t.plant = s.plant) (hc : t.core = s.core) (h : s.runWf = true) : t.runWf = true := by
  unfold State.runWf at h ⊢
  rwa [runConditions_of_plant hp hc, interlock_of_plant hp]

theorem guarded_of_plant {s t : State} (hp : t.plant = s.plant) (h : s.Guarded) : t.Guarded := by
  unfold State.Guarded
  rwa [interlock_of_plant hp]

/-- Run permission formed afresh, where the run output was off without it, is in its form. -/
theorem runWf_updatePermission {s : State} (h : s.Guarded) : (updatePermission s).runWf = true := by
  refine (runWf_iff _).2 ⟨(updatePermission_follows s).1, ?_⟩
  unfold State.Guarded
  rw [interlock_updatePermission]
  split
  · intro hr
    simp [Interlock.runOutput] at hr
  · rename_i hn
    intro hr
    have ho : s.interlock.state = .starting ∨ s.interlock.state = .running := by simpa [Interlock.runOutput] using hr
    have hp : s.interlock.permission = true := h (by simpa [Interlock.runOutput] using ho)
    by_contra hm
    exact hn ⟨hp, by simpa using hm, ho⟩

theorem runWf_updateFeeder {s : State} (h : s.runWf = true) : (updateFeeder s).runWf = true :=
  runWf_of_plant (updateFeeder_plant s) (updateFeeder_core s) h

theorem runWf_setLineMode {s : State} (m : LineMode) (c : Option HoldCause) (h : s.Guarded) : (setLineMode s m c).runWf = true := by
  unfold setLineMode
  dsimp only
  generalize hu : State.markIf _ _ _ = u
  have hi : u.interlock = s.interlock := by
    rw [← hu, markIf_eq]
  have hg : u.Guarded := by
    unfold State.Guarded
    rwa [hi]
  exact runWf_updateFeeder (runWf_updatePermission (guarded_of_plant (syncHolds_plant u) hg))

theorem interlock_putChamber (s : State) (x : Atmosphere) : (putChamber s x).interlock = s.interlock :=
  congrArg Plant.interlock (putChamber_plant s x)

theorem guarded_putChamber {s : State} (x : Atmosphere) (h : s.Guarded) : (putChamber s x).Guarded := by
  unfold State.Guarded
  rwa [interlock_putChamber]

theorem runWf_putAtm {s : State} (x : Atmosphere) (h : s.Guarded) : (putAtm s x).runWf = true :=
  runWf_updateFeeder (runWf_updatePermission (guarded_putChamber x h))

/-- SAFE_HOLD entered, or not, keeps the form. -/
theorem runWf_enterSafeHold {s : State} (c : HoldCause) (h : s.runWf = true) : (enterSafeHold s c).runWf = true := by
  unfold enterSafeHold
  split
  · exact h
  · exact runWf_setLineMode _ _ (guarded_of_runWf h)

theorem guarded_enterSafeHold {s : State} (c : HoldCause) (h : s.Guarded) : (enterSafeHold s c).Guarded := by
  unfold enterSafeHold
  split
  · exact h
  · exact guarded_of_runWf (runWf_setLineMode _ _ h)

theorem runWf_stopParts {s : State} (o : EffectSet) (h : s.Guarded) : (stopParts o s).runWf = true := by
  unfold stopParts lineHoldEnters
  split
  · exact runWf_enterSafeHold _ (runWf_updatePermission h)
  · exact runWf_updatePermission h

theorem runWf_lateParts {s : State} (o : EffectSet) (h : s.Guarded) : (lateParts o s).runWf = true := by
  unfold lateParts
  split
  · exact eitherOrder_of (Q := fun s => s.runWf = true) (fun h => h) _ _
      (runWf_stopParts o (guarded_of_plant (updateFeeder_plant s) h)) (runWf_updateFeeder (runWf_stopParts o h))
  · exact runWf_updateFeeder (runWf_stopParts o h)

theorem runWf_formEffects {s : State} (h : s.runWf = true) : (formEffects s).runWf = true := by
  have hi := (effectTaken_only s).interlock
  have hg : (effectTaken s).Guarded := by
    unfold State.Guarded
    rw [hi]
    exact guarded_of_runWf h
  obtain ⟨-, e⟩ | ⟨-, -, e⟩ | ⟨-, -, e⟩ := formEffects_cases s <;> rw [e]
  · exact h
  · exact runWf_lateParts _ hg
  · exact runWf_lateParts _ (guarded_putChamber _ hg)

/-- What keeps the interlock and the five conditions keeps the form. -/
theorem runWf_of_conditions {s t : State} (hi : t.interlock = s.interlock) (hc : t.runConditions = s.runConditions) (h : s.runWf = true) :
    t.runWf = true := by
  unfold State.runWf at h ⊢
  rwa [hi, hc]

/-- An input conditioned at the level that the receivers took before leaves the five conditions alone. -/
theorem runConditions_conditionedAt {s : State} {i : InputId} (h : s.level i = (s.line.inputs.get i).raw) :
    (s.conditionedAt i).runConditions = s.runConditions := by
  have hl (j : InputId) : (s.conditionedAt i).level j = s.level j := by
    by_cases hj : j = i
    · rw [hj, level_conditionedAt, h]
    · exact level_conditionedAt_other s hj
  have he := hl .estop
  have hd := hl .doorClosed
  obtain ⟨l, e⟩ := conditionedAt_eq s i
  rw [e] at he hd ⊢
  simp only [State.runConditions, State.estopActive, State.doorClosed, he, hd]

theorem interlock_conditionedAt (s : State) (i : InputId) : (s.conditionedAt i).interlock = s.interlock := by
  obtain ⟨l, e⟩ := conditionedAt_eq s i
  rw [e]

theorem guarded_conditionedAt {s : State} (i : InputId) (h : s.Guarded) : (s.conditionedAt i).Guarded := by
  unfold State.Guarded
  rwa [interlock_conditionedAt]

theorem runWf_conditionedAt {s : State} {i : InputId} (hl : s.level i = (s.line.inputs.get i).raw) (h : s.runWf = true) :
    (s.conditionedAt i).runWf = true := runWf_of_conditions (interlock_conditionedAt s i) (runConditions_conditionedAt hl) h

theorem runWf_estop {s : State} (h : s.runWf = true) : (conditioned s .estop).runWf = true := by
  obtain e | e := conditioned_cases s .estop <;> rw [e]
  · exact h
  · by_cases hl : s.level .estop = (s.line.inputs.get .estop).raw
    · have hw := runWf_conditionedAt hl h
      simp only [inputTaken, estopTaken, hl, ne_eq, not_true_eq_false, decide_false, Bool.false_eq_true, if_false]
      split
      · exact runWf_enterSafeHold _ hw
      · exact hw
    · have hg := guarded_conditionedAt .estop (guarded_of_runWf h)
      simp only [inputTaken, estopTaken, hl, ne_eq, not_false_eq_true, decide_true, if_true]
      split
      · exact runWf_updatePermission (guarded_enterSafeHold _ hg)
      · exact runWf_updatePermission hg

theorem runWf_door {s : State} (h : s.runWf = true) : (conditioned s .doorClosed).runWf = true := by
  obtain e | e := conditioned_cases s .doorClosed <;> rw [e]
  · exact h
  · by_cases hl : s.level .doorClosed = (s.line.inputs.get .doorClosed).raw
    · have hw := runWf_conditionedAt hl h
      simp only [inputTaken, doorTaken, hl, ne_eq, not_true_eq_false, decide_false, Bool.false_eq_true, if_false]
      split
      · exact runWf_enterSafeHold _ hw
      · exact hw
    · have hg := guarded_conditionedAt .doorClosed (guarded_of_runWf h)
      simp only [inputTaken, doorTaken, hl, ne_eq, not_false_eq_true, decide_true, if_true]
      split
      · exact runWf_updatePermission (guarded_of_runWf (runWf_putAtm _ (guarded_enterSafeHold _ hg)))
      · exact runWf_updatePermission (guarded_of_runWf (runWf_putAtm _ hg))

/-- A move of the interlock with its permission, to a state whose run output was on before or whose conditions are met. -/
theorem runWf_moveInterlock {s : State} (x : Interlock) (h : s.runWf = true) (hp : x.permission = s.interlock.permission)
    (ho : x.runOutput = true → s.interlock.runOutput = true ∨ s.runConditions.met = true) : (moveInterlock s x).runWf = true := by
  obtain ⟨hm, hg⟩ := (runWf_iff s).1 h
  have hc := runConditions_putInterlock s x
  refine runWf_updateFeeder ((runWf_iff _).2 ⟨?_, ?_⟩)
  · rw [interlock_putInterlock, hc, hp, hm]
  · unfold State.Guarded
    rw [interlock_putInterlock, hp]
    intro hx
    obtain h' | h' := ho hx
    · exact hg h'
    · rw [hm, h']

/-- Out of reset or held in it, a part that has just lost its RAM is in STANDBY, with run permission unmet and the run output off. -/
theorem runWf_of_reset {s : State} (hi : s.interlock = Interlock.initial) (hm : s.line.mode = .standby) : s.runWf = true := by
  refine (runWf_iff s).2 ⟨?_, fun hr => ?_⟩
  · simp [hi, Interlock.initial, RunConditions.met, State.runConditions, hm, modeRuns]
  · rw [hi] at hr
    exact absurd hr (by decide)

theorem bayKept_runWf : BayKept (fun s => s.runWf = true) :=
  bayKept_of_baysFree ⟨fun h _ => h, fun _ h => h⟩
    (tables := fun h e => by rw [e]; exact h)
    (store := fun h _ => h)
    (line := fun {s} l h hm hi => runWf_of_conditions (s := s) (t := { s with line := l }) rfl
      (by simp only [State.runConditions, State.estopActive, State.doorClosed, State.level, hm, hi]) h)
    (feeder := fun h _ => h)

theorem kept_runWf : Kept (fun s => s.runWf = true) where
  toBayKept := bayKept_runWf
  atm {s x} h hs _ := runWf_of_conditions (s := s) (t := { s with atm := x }) rfl
    (by simp only [State.runConditions, Atmosphere.runCondition, State.estopActive, State.doorClosed, State.level, hs]) h
  interlock {s x} h hs hp := by
    have hr : x.runOutput = s.interlock.runOutput := by simp only [Interlock.runOutput, hs]
    obtain ⟨hm, hg⟩ := (runWf_iff s).1 h
    exact (runWf_iff _).2 ⟨hp.trans hm, fun ho => hp.trans (hg (hr ▸ ho))⟩
  inputs {s x} h he hd := runWf_of_conditions (s := s) (t := { s with line := { s.line with inputs := x } }) rfl
    (by simp only [State.runConditions, State.estopActive, State.doorClosed, State.level, Inputs.get, he, hd]) h
  permission h := runWf_updatePermission (guarded_of_runWf h)
  lineMode m c h := runWf_setLineMode m c (guarded_of_runWf h)
  chamber x h := runWf_putAtm x (guarded_of_runWf h)
  move x h hp ho := runWf_moveInterlock x h hp ho
  effects := runWf_formEffects
  estop := runWf_estop
  door := runWf_door
  watts {s} v h := kept_ite (P := fun s => s.runWf = true) h
    (runWf_of_plant (s := { s with budget := v }) (regrant_plant _) (regrant_core _) h)
  hold _ _ := runWf_of_reset rfl rfl
  scan _ := runWf_of_reset rfl rfl

/-- Settles O6: run permission and the run output keep their form through each part of a step (`kept_runWf`). -/
theorem permissionKept : Obligations.PermissionKept := by
  unfold Obligations.PermissionKept
  exact fun _ _ h e => kept_runWf.kept_everyStep h e

/-! ### The valve command (R124, R128) -/

theorem valveWf_iff (s : State) : s.valveWf = true ↔ s.atm.valve = valveFor s.atm.state s.doorClosed s.effect.inertBoost := by
  simp [State.valveWf]

theorem valveWf_of_sources {s t : State} (ht : SameSources s t) (h : s.valveWf = true) : t.valveWf = true := by
  obtain ⟨ha, he, hi⟩ := ht
  rw [valveWf_iff] at h ⊢
  simp only [State.doorClosed, State.level, ha, he, hi] at h ⊢
  exact h

/-- A chamber put in place has its valve set afresh. -/
theorem valveWf_putChamber (s : State) (x : Atmosphere) : (putChamber s x).valveWf = true := by
  have ha : (putChamber s x).atm = withValve s x := congrArg Plant.atm (putChamber_plant s x)
  have he : (putChamber s x).effect = s.effect := congrArg Plant.effect (putChamber_plant s x)
  have hi : (putChamber s x).line.inputs = s.line.inputs := congrArg Core.inputs (putChamber_core s x)
  rw [valveWf_iff, State.doorClosed, State.level, ha, he, hi]
  rfl

theorem valveWf_putAtm (s : State) (x : Atmosphere) : (putAtm s x).valveWf = true :=
  valveWf_of_sources ((sameSources_updatePermission _).trans (sameSources_updateFeeder _)) (valveWf_putChamber s x)

theorem valveWf_formEffects {s : State} (h : s.valveWf = true) : (formEffects s).valveWf = true := by
  obtain ⟨ha, -, he, hi⟩ := effectTaken_only s
  obtain ⟨-, e⟩ | ⟨-, hb, e⟩ | ⟨-, -, e⟩ := formEffects_cases s <;> rw [e]
  · exact h
  · refine valveWf_of_sources (sameSources_lateParts _ _) ?_
    rw [valveWf_iff] at h ⊢
    simp only [State.doorClosed, State.level, ha, he, hi, ← hb] at h ⊢
    exact h
  · exact valveWf_of_sources (sameSources_lateParts _ _) (valveWf_putChamber _ _)

/-- An input other than the door, or the door at the level that was taken before, leaves the valve's form alone. -/
theorem valveWf_conditionedAt {s : State} {i : InputId} (hd : (s.conditionedAt i).doorClosed = s.doorClosed) (h : s.valveWf = true) :
    (s.conditionedAt i).valveWf = true := by
  rw [valveWf_iff] at h ⊢
  rw [hd]
  obtain ⟨l, e⟩ := conditionedAt_eq s i
  rw [e]
  exact h

theorem valveWf_estop {s : State} (h : s.valveWf = true) : (conditioned s .estop).valveWf = true := by
  obtain e | e := conditioned_cases s .estop <;> rw [e]
  · exact h
  · have hw := valveWf_conditionedAt (i := .estop) (level_conditionedAt_other s (by decide)) h
    have hs {u : State} (hu : u.valveWf = true) (c : Bool) : (if c then updatePermission u else u).valveWf = true :=
      kept_ite (P := fun s => s.valveWf = true) (valveWf_of_sources (sameSources_updatePermission u) hu) hu
    unfold inputTaken estopTaken
    dsimp only
    exact hs (kept_ite (P := fun s => s.valveWf = true) (valveWf_of_sources (sameSources_enterSafeHold _ _) hw) hw) _

theorem valveWf_door {s : State} (h : s.valveWf = true) : (conditioned s .doorClosed).valveWf = true := by
  obtain e | e := conditioned_cases s .doorClosed <;> rw [e]
  · exact h
  · unfold inputTaken doorTaken
    dsimp only
    by_cases hl : s.level .doorClosed = (s.line.inputs.get .doorClosed).raw
    · have hw := valveWf_conditionedAt (i := .doorClosed) ((level_conditionedAt s .doorClosed).trans hl.symm) h
      simp only [hl, ne_eq, not_true_eq_false, decide_false, Bool.false_eq_true, if_false]
      exact kept_ite (P := fun s => s.valveWf = true) (valveWf_of_sources (sameSources_enterSafeHold _ _) hw) hw
    · simp only [hl, ne_eq, not_false_eq_true, decide_true, if_true]
      exact valveWf_of_sources (sameSources_updatePermission _) (valveWf_putAtm _ _)

/-- A part that has just lost its RAM has its chamber in AIR, the valve closed. -/
theorem valveWf_of_reset {s : State} (hs : s.atm.state = .air) (hv : s.atm.valve = .closed) : s.valveWf = true := by
  rw [valveWf_iff, hs, hv, valveFor]
  split <;> rfl

theorem bayKept_valveWf : BayKept (fun s => s.valveWf = true) :=
  bayKept_of_baysFree ⟨fun h _ => h, fun _ h => h⟩
    (tables := fun h e => by rw [e]; exact h)
    (store := fun h _ => h)
    (line := fun {s} l h _ hi => valveWf_of_sources (s := s) (t := { s with line := l }) ⟨rfl, rfl, hi⟩ h)
    (feeder := fun h _ => h)

theorem kept_valveWf : Kept (fun s => s.valveWf = true) where
  toBayKept := bayKept_valveWf
  atm {s x} h hs hv := by
    rw [valveWf_iff] at h ⊢
    exact hv.trans (h.trans (by rw [hs]; rfl))
  interlock h _ _ := h
  inputs {s x} h _ hd := by
    rw [valveWf_iff] at h ⊢
    simp only [State.doorClosed, State.level, Inputs.get, hd] at h ⊢
    exact h
  permission h := valveWf_of_sources (sameSources_updatePermission _) h
  lineMode _ _ h := valveWf_of_sources (sameSources_setLineMode _ _ _) h
  chamber x _ := valveWf_putAtm _ x
  move {s} x h _ _ := valveWf_of_sources (sameSources_of (m := s.line.mode) (c := s.line.cause) (moveInterlock_core s x)
    (moveInterlock_plant s x)) h
  effects := valveWf_formEffects
  estop := valveWf_estop
  door := valveWf_door
  watts {s} v h := kept_ite (P := fun s => s.valveWf = true) h
    (valveWf_of_sources (s := { s with budget := v })
      ⟨congrArg Plant.atm (regrant_plant _), congrArg Plant.effect (regrant_plant _), congrArg Core.inputs (regrant_core _)⟩ h)
  hold _ _ := valveWf_of_reset rfl rfl
  scan _ := valveWf_of_reset rfl rfl

/-- Settles O7: the valve follows its state, the door and INERT_BOOST through each part of a step (`kept_valveWf`). -/
theorem valveKept : Obligations.ValveKept := by
  unfold Obligations.ValveKept
  exact fun _ _ h e => kept_valveWf.kept_everyStep h e

end Sys2Proof.Machine
end

section
/-! The water-fill, a recomputation of the grants bay by bay (R61 to R64), and the sum of the grants through every step (O8). -/

namespace Sys2Proof.Machine

/-! ### The water-fill (R62) -/

theorem serve_sum_le (w : Nat) (l : List (BayId × Nat)) : ((serve w l).map Prod.snd).sum ≤ w := by
  induction l generalizing w with
  | nil => exact Nat.zero_le w
  | cons x t ih =>
    have hg : min x.2 (w / (t.length + 1)) ≤ w := le_trans (min_le_right _ _) (Nat.div_le_self _ _)
    have ht := ih (w - min x.2 (w / (t.length + 1)))
    simp only [serve, List.map_cons, List.sum_cons]
    omega

@[simp] theorem serve_fst (w : Nat) (l : List (BayId × Nat)) : (serve w l).map Prod.fst = l.map Prod.fst := by
  induction l generalizing w with
  | nil => rfl
  | cons x t ih => simp [serve, ih]

theorem insertRequest_perm (x : BayId × Nat) (l : List (BayId × Nat)) : (insertRequest x l).Perm (x :: l) := by
  induction l with
  | nil => exact List.Perm.refl _
  | cons y t ih =>
    unfold insertRequest
    split
    · exact List.Perm.refl _
    · exact (ih.cons y).trans (List.Perm.swap x y t)

theorem sortRequests_perm (l : List (BayId × Nat)) : (sortRequests l).Perm l := by
  induction l with
  | nil => exact List.Perm.refl _
  | cons x t ih => exact (insertRequest_perm x _).trans (ih.cons x)

theorem waterFill_sum_le (w : Nat) (ps : List (BayId × Nat)) : ((waterFill w ps).map Prod.snd).sum ≤ w := by
  unfold waterFill
  split
  · assumption
  · exact serve_sum_le _ _

/-- The water-fill serves each participant once. -/
theorem waterFill_fst_perm (w : Nat) (ps : List (BayId × Nat)) : ((waterFill w ps).map Prod.fst).Perm (ps.map Prod.fst) := by
  unfold waterFill
  split
  · exact List.Perm.refl _
  · rw [serve_fst]
    exact (sortRequests_perm ps).map _

/-! ### A recomputation, bay by bay (R61, R64) -/

theorem participants_fst (s : State) : s.participants.map Prod.fst = allBays.filter (fun b => (s.bay b).participant) := by
  simp [State.participants, Function.comp_def]

theorem mem_allBays (b : BayId) : b ∈ allBays := by
  revert b
  decide

theorem allBays_nodup : allBays.Nodup := by decide

theorem mem_waterFill_fst (s : State) (w : Nat) (b : BayId) :
    b ∈ (waterFill w s.participants).map Prod.fst ↔ (s.bay b).participant = true := by
  rw [(waterFill_fst_perm w s.participants).mem_iff, participants_fst, List.mem_filter]
  exact and_iff_right (mem_allBays b)

theorem waterFill_fst_nodup (s : State) (w : Nat) : ((waterFill w s.participants).map Prod.fst).Nodup := by
  rw [(waterFill_fst_perm w s.participants).nodup_iff, participants_fst]
  exact allBays_nodup.filter _

/-- A bay as a grant of `n` leaves it (R61, R64). -/
def Bay.granted (x : Bay) (n : Nat) : Bay := if x.grant = n then x else ({ x with grant := n }).formCommand

theorem formCommand_grant (x : Bay) : x.formCommand.grant = x.grant ∧ x.formCommand.participant = x.participant := by
  unfold Bay.formCommand Bay.send
  split <;> exact ⟨rfl, rfl⟩

@[simp] theorem granted_grant (x : Bay) (n : Nat) : (x.granted n).grant = n := by
  unfold Bay.granted
  split
  · assumption
  · exact (formCommand_grant _).1

@[simp] theorem granted_participant (x : Bay) (n : Nat) : (x.granted n).participant = x.participant := by
  unfold Bay.granted
  split
  · rfl
  · exact (formCommand_grant _).2

theorem bay_takeGrant (s : State) (g : BayId × Nat) (b : BayId) :
    (takeGrant s g).bay b = if b = g.1 then (s.bay b).granted g.2 else s.bay b := by
  unfold takeGrant Bay.granted
  dsimp only
  by_cases hb : b = g.1
  · subst hb
    split <;> simp_all
  · rw [if_neg hb]
    split
    · rfl
    · exact bay_putBay_other _ _ _ _ hb

/-- Grants taken one after the other, each bay once. -/
theorem bay_foldl_takeGrant {l : List (BayId × Nat)} (hl : (l.map Prod.fst).Nodup) (s : State) (b : BayId) :
    (b ∉ l.map Prod.fst → (l.foldl takeGrant s).bay b = s.bay b)
    ∧ (∀ n, (b, n) ∈ l → (l.foldl takeGrant s).bay b = (s.bay b).granted n) := by
  induction l generalizing s with
  | nil => exact ⟨fun _ => rfl, nofun⟩
  | cons g t ih =>
    obtain ⟨hg, ht⟩ := List.nodup_cons.1 hl
    obtain ⟨hout, hin⟩ := ih ht (takeGrant s g)
    rw [List.foldl_cons]
    refine ⟨fun hb => ?_, fun n hn => ?_⟩
    · have hb' : b ≠ g.1 ∧ b ∉ t.map Prod.fst := by simpa [not_or] using hb
      rw [hout hb'.2, bay_takeGrant, if_neg hb'.1]
    · by_cases he : b = g.1
      · obtain e | hm := List.mem_cons.1 hn
        · rw [hout (he ▸ hg), bay_takeGrant, if_pos he, ← e]
        · exact absurd (List.mem_map_of_mem hm) (he ▸ hg)
      · obtain e | hm := List.mem_cons.1 hn
        · exact absurd (congrArg Prod.fst e) he
        · rw [hin n hm, bay_takeGrant, if_neg he]

/-- A bay out of the arbiter keeps what it has through a recomputation. -/
theorem bay_regrant_out {s : State} {b : BayId} (h : (s.bay b).participant = false) : (regrant s).bay b = s.bay b :=
  (bay_foldl_takeGrant (waterFill_fst_nodup s _) s b).1 (by simp [mem_waterFill_fst, h])

/-- A participant takes its share. -/
theorem bay_regrant {s : State} {g : BayId × Nat} (h : g ∈ waterFill s.effective s.participants) :
    (regrant s).bay g.1 = (s.bay g.1).granted g.2 :=
  (bay_foldl_takeGrant (waterFill_fst_nodup s _) s g.1).2 g.2 h

/-- Each bay through a recomputation: granted a share, or out of the arbiter and left alone. -/
theorem bay_regrant_cases (s : State) (b : BayId) :
    ((s.bay b).participant = false ∧ (regrant s).bay b = s.bay b)
      ∨ ∃ n, (b, n) ∈ waterFill s.effective s.participants ∧ (regrant s).bay b = (s.bay b).granted n := by
  by_cases hp : (s.bay b).participant = true
  · obtain ⟨g, hg, rfl⟩ := List.mem_map.1 ((mem_waterFill_fst s s.effective b).2 hp)
    exact .inr ⟨g.2, hg, bay_regrant hg⟩
  · rw [Bool.not_eq_true] at hp
    exact .inl ⟨hp, bay_regrant_out hp⟩

theorem participant_regrant (s : State) (b : BayId) : ((regrant s).bay b).participant = (s.bay b).participant := by
  obtain ⟨-, e⟩ | ⟨n, -, e⟩ := bay_regrant_cases s b
  · rw [e]
  · rw [e, granted_participant]

theorem effective_of {s t : State} (hb : t.budget = s.budget) (he : t.effect = s.effect) : t.effective = s.effective := by
  simp only [State.effective, hb, he]

/-! ### The sum of the grants (R61) -/

/-- The sum of the grants of all bays. -/
def State.grantSum (s : State) : Nat := (allBays.map (fun b => (s.bay b).grant)).sum

/-- No bay out of the arbiter holds a grant. -/
def State.ApartUngranted (s : State) : Prop := ∀ b, (s.bay b).participant = false → (s.bay b).grant = 0

theorem grantWf_iff (s : State) : s.grantWf = true ↔ s.ApartUngranted ∧ s.grantSum ≤ s.effective := by
  simp only [State.grantWf, State.ApartUngranted, State.grantSum, Bool.and_eq_true, decide_eq_true_eq, List.all_eq_true, Bool.or_eq_true]
  refine and_congr_left fun _ => ⟨fun h b hb => ?_, fun h b _ => ?_⟩
  · simpa [hb] using h b (mem_allBays b)
  · cases hp : (s.bay b).participant
    · exact .inr (h b hp)
    · exact .inl rfl

theorem grantSum_congr {s t : State} (h : ∀ b, (t.bay b).grant = (s.bay b).grant) : t.grantSum = s.grantSum := by
  simp only [State.grantSum, h]

/-- A sum over a list is the sum over the part of it outside of which the summand is 0. -/
theorem sum_map_filter {α : Type} (p : α → Bool) (f : α → Nat) (l : List α) (h : ∀ a, p a = false → f a = 0) :
    ((l.filter p).map f).sum = (l.map f).sum := by
  induction l with
  | nil => rfl
  | cons a t ih =>
    cases hp : p a with
    | true => simp [hp, ih]
    | false => simp [hp, ih, h a hp]

/-- A recomputation leaves the grants within the effective budget. -/
theorem grantWf_regrant {s : State} (h : s.ApartUngranted) : (regrant s).grantWf = true := by
  have hapart : (regrant s).ApartUngranted := fun b hb => by
    rw [participant_regrant] at hb
    rw [bay_regrant_out hb]
    exact h b hb
  have heff : (regrant s).effective = s.effective :=
    effective_of (congrArg Core.budget (regrant_core s)) (congrArg Plant.effect (regrant_plant s))
  refine (grantWf_iff _).2 ⟨hapart, ?_⟩
  have hgrants : (waterFill s.effective s.participants).map Prod.snd
      = ((waterFill s.effective s.participants).map Prod.fst).map (fun b => ((regrant s).bay b).grant) := by
    rw [List.map_map]
    refine List.map_congr_left fun g hg => ?_
    simp [bay_regrant hg]
  calc (regrant s).grantSum
      = ((allBays.filter (fun b => (s.bay b).participant)).map (fun b => ((regrant s).bay b).grant)).sum := by
        refine (sum_map_filter _ _ _ fun b hb => ?_).symm
        exact hapart b (by rw [participant_regrant]; exact hb)
    _ = (((waterFill s.effective s.participants).map Prod.fst).map (fun b => ((regrant s).bay b).grant)).sum := by
        rw [← participants_fst]
        exact (((waterFill_fst_perm _ _).map _).sum_eq).symm
    _ = ((waterFill s.effective s.participants).map Prod.snd).sum := by rw [hgrants]
    _ ≤ s.effective := waterFill_sum_le _ _
    _ = (regrant s).effective := heff.symm

/-- What the Budget Arbiter holds of each bay, and the effective budget, decide the form. -/
theorem grantWf_of_bays {s t : State} (hb : ∀ b, (t.bay b).participant = (s.bay b).participant ∧ (t.bay b).grant = (s.bay b).grant)
    (he : t.effective = s.effective) (h : s.grantWf = true) : t.grantWf = true := by
  obtain ⟨ha, hs⟩ := (grantWf_iff s).1 h
  refine (grantWf_iff t).2 ⟨fun b hp => ?_, ?_⟩
  · rw [(hb b).2]
    exact ha b ((hb b).1 ▸ hp)
  · rw [grantSum_congr fun b => (hb b).2, he]
    exact hs

theorem effective_putBay (s : State) (b : BayId) (x : Bay) : (putBay s b x).effective = s.effective :=
  effective_of (congrArg Core.budget (putBay_core s b x)) (congrArg Plant.effect (putBay_plant s b x))

/-- A bay replaced, as the Budget Arbiter sees it. -/
theorem bay_putBay_cases (s : State) (b c : BayId) (x : Bay) : (putBay s b x).bay c = if c = b then x else s.bay c := by
  by_cases hc : c = b
  · subst hc
    simp
  · rw [if_neg hc, bay_putBay_other _ _ _ _ hc]

theorem apartUngranted_putBay {s : State} {b : BayId} {x : Bay} (hx : x.participant = false → x.grant = 0) (h : s.ApartUngranted) :
    (putBay s b x).ApartUngranted := by
  intro c hc
  rw [bay_putBay_cases] at hc ⊢
  split at hc
  · rename_i e
    rw [if_pos e]
    exact hx hc
  · rename_i e
    rw [if_neg e]
    exact h c hc

theorem grantWf_putBay {s : State} {b : BayId} {x : Bay} (hp : x.participant = (s.bay b).participant) (hg : x.grant = (s.bay b).grant)
    (h : s.grantWf = true) : (putBay s b x).grantWf = true := by
  refine grantWf_of_bays (fun c => ?_) (effective_putBay s b x) h
  rw [bay_putBay_cases]
  split
  · rename_i e
    exact e ▸ ⟨hp, hg⟩
  · exact ⟨rfl, rfl⟩

theorem grantWf_reform {s : State} (b : BayId) (h : s.grantWf = true) : (reform s b).grantWf = true :=
  grantWf_putBay (formCommand_grant _).2 (formCommand_grant _).1 h

theorem apartUngranted_of_grantWf {s : State} (h : s.grantWf = true) : s.ApartUngranted := ((grantWf_iff s).1 h).1

theorem grantWf_putApart {s : State} (b : BayId) (x : Bay) (h : s.grantWf = true) : (putApart s b x).grantWf = true := by
  have ha : (putBay s b x.apart).ApartUngranted := apartUngranted_putBay (fun _ => rfl) (apartUngranted_of_grantWf h)
  unfold putApart
  dsimp only
  split
  · exact grantWf_regrant ha
  · rename_i hp
    rw [Bool.not_eq_true] at hp
    exact grantWf_putBay hp.symm (apartUngranted_of_grantWf h b hp).symm h

theorem formRequest_arbiter (s : State) (p : Pack) (x : Bay) :
    (formRequest s p x).participant = x.participant ∧ (formRequest s p x).grant = x.grant := ⟨rfl, rfl⟩

theorem grantWf_enterDischarging {s : State} (b : BayId) (h : s.grantWf = true) : (enterDischarging s b).grantWf = true := by
  refine grantWf_reform b (grantWf_regrant (apartUngranted_putBay ?_ (apartUngranted_of_grantWf h)))
  split <;> exact fun _ => rfl

theorem grantWf_renewRequest {s : State} (b : BayId) (h : s.grantWf = true) : (renewRequest s b).grantWf = true := by
  unfold renewRequest
  split
  · exact h
  · rename_i p _
    have hput : (putBay s b (formRequest s p (s.bay b))).grantWf = true := grantWf_putBay rfl rfl h
    dsimp only
    apply grantWf_reform
    split
    · exact hput
    · exact grantWf_regrant (apartUngranted_of_grantWf hput)

/-- A part that has just lost its RAM has no bay in the arbiter. -/
theorem grantWf_of_bays_initial {s : State} (h : ∀ b, (s.bay b).grant = 0) : s.grantWf = true := by
  refine (grantWf_iff s).2 ⟨fun b _ => h b, ?_⟩
  simp [State.grantSum, h]

theorem bayKept_grantWf : BayKept (fun s => s.grantWf = true) where
  tables h e := by
    rw [e]
    exact h
  link h _ := h
  store h _ := h
  line h _ _ := h
  feeder h _ := h
  bays {s v} h hv := grantWf_of_bays (s := s) (t := { s with bays := v }) hv rfl h
  apart b x h := grantWf_putApart b x h
  discharge b h := grantWf_enterDischarging b h
  renew b h := grantWf_renewRequest b h

theorem plantFree_grantWf : PlantFree (fun s => s.grantWf = true) where
  toBayKept := bayKept_grantWf
  freeAtm _ h := h
  freeInterlock _ h := h
  freeLine _ h := h

/-- The percentage taken, a recomputation where it has changed, leaves the grants within the budget that it gives (R111). -/
theorem grantWf_takePct {s : State} (e : EffectSet) (h : s.grantWf = true) : (takePct e s).grantWf = true := by
  unfold takePct
  dsimp only
  split
  · rename_i he
    exact grantWf_of_bays (s := s) (t := { s with effect := e }) (fun _ => ⟨rfl, rfl⟩) (by simp only [State.effective, he]) h
  · exact grantWf_regrant (s := { s with effect := e }) (apartUngranted_of_grantWf (s := s) h)

theorem kept_grantWf : Kept (fun s => s.grantWf = true) := by
  have B := bayKept_grantWf
  refine kept_of_plantFree plantFree_grantWf (fun {s} e h => ?_) (fun e h => B.kept_syncHolds (grantWf_takePct e h)) (fun {s} v h => ?_)
    (fun {s} p _ => grantWf_of_bays_initial fun b => ?_) (fun {s} _ => grantWf_of_bays_initial fun b => ?_)
  · have hs : State.grantWf { s with effect := { e with pct := s.effect.pct } } = true :=
      grantWf_of_bays (s := s) (fun _ => ⟨rfl, rfl⟩) rfl h
    exact grantWf_takePct e (B.kept_syncHolds hs)
  · split
    · rename_i he
      exact grantWf_of_bays (s := s) (t := { s with budget := v }) (fun _ => ⟨rfl, rfl⟩) he.symm h
    · exact grantWf_regrant (s := { s with budget := v }) (apartUngranted_of_grantWf (s := s) h)
  · simp [holdReset, State.bay, State.reset, Bay.initial]
  · simp [scanned, State.bay, Bay.initial]

/-- Settles O8: only a recomputation raises grants, and it keeps them within the effective budget (`grantWf_regrant`, `kept_grantWf`). -/
theorem grantsKept : Obligations.GrantsKept := by
  unfold Obligations.GrantsKept
  exact fun _ _ h e => kept_grantWf.kept_everyStep h e

end Sys2Proof.Machine
end

section
/-! A request from its row to its end, whatever its owner (R174); and the reads, SUBSCRIBE, CLEAR_PEAKS and RESTART (O1, O13, O16, O19, O34). -/

namespace Sys2Proof.Machine

/-! ### A request taken at once -/

/-- Request `k` with message tag `m` is taken in the step that brings it. -/
structure Taken (s : State) (m : Byte) (k : Request) : Prop where
  now : s.takesNow = true
  takeable : (s.withEntry m k .untaken).takeable (.known k) = true

theorem taken_plain {s : State} {m : Byte} {k : Request} (h : s.takesNow = true) (hp : k.custodial = false) (hr : k ≠ .restart) :
    Taken s m k := ⟨h, takeable_plain h m k hp hr⟩

theorem taken_custody {s : State} {m : Byte} {k : Request} (h : s.custodyTakes = true) (hr : k ≠ .restart) : Taken s m k :=
  ⟨takesNow_of_custodyTakes h, takeable_custody h m k hr⟩

section Taken

variable {s u : State} {m : Byte} {k : Request} {c : Instr} {st : Stage} (T : Taken s m k)
include T

theorem Taken.row (hc : k.row m = some c) (hk : runRequest (s.withEntry m k .untaken) k = (u, st)) :
    exec c s = .next (if k.linkOnly then linkPump (u.withStage st) else finish s (u.withStage st)) := by
  rw [row_out (inReset_of_takesNow T.now) hc, hostRequest_taken T.now m k T.takeable, hk]

/-- The row of a request that may touch the line or the journal. -/
theorem Taken.finish (hc : k.row m = some c) (hl : k.linkOnly = false) (hk : runRequest (s.withEntry m k .untaken) k = (u, st)) :
    exec c s = .next (Machine.finish s (u.withStage st)) := by
  rw [T.row hc hk, hl, if_neg Bool.false_ne_true]

/-- Such a request refused or answered with nothing changed: the reply alone joins the queue. -/
theorem Taken.same (hc : k.row m = some c) (hl : k.linkOnly = false)
    (hk : runRequest (s.withEntry m k .untaken) k = (s.withEntry m k .untaken, st)) :
    exec c s = .next (Machine.finish s (s.withEntry m k st)) := by
  rw [T.finish hc hl hk, withStage_withEntry T.now]

/-- The row of a request that asks nothing of the Journal Writer. -/
theorem Taken.pump (hc : k.row m = some c) (hl : k.linkOnly = true) (hk : runRequest (s.withEntry m k .untaken) k = (u, st)) :
    exec c s = .next (linkPump (u.withStage st)) := by
  rw [T.row hc hk, if_pos hl]

/-- Such a request answered with nothing changed. -/
theorem Taken.answered {r : Reply} (hc : k.row m = some c) (hl : k.linkOnly = true)
    (hk : runRequest (s.withEntry m k .untaken) k = (s.withEntry m k .untaken, .formed r)) :
    exec c s = .next (Machine.answered s m k r) := by
  rw [T.pump hc hl hk, withStage_withEntry T.now, Machine.answered]

/-- An owner that leaves the queue alone leaves the request behind those queued before. -/
theorem Taken.queued (hq : u.core = (s.withEntry m k .untaken).core) (st : Stage) : Queued s (u.withStage st) m k st :=
  queued_withStage T.now (congrArg Core.requests hq) st

end Taken

/-- An owner that keeps the Link Port's own state keeps it through the whole row. -/
theorem linkKept_row {s u : State} {m : Byte} {k : Request} (hu : u.core = (s.withEntry m k .untaken).core) (st : Stage) :
    LinkKept s (u.withStage st) :=
  (linkKept_withEntry s m k .untaken).trans ((linkKept_of_core hu).trans (linkKept_withStage u st))

/-- Settles O1. -/
theorem stepTakesFront : Obligations.StepTakesFront := fun _ _ => rfl

/-! ### The reads (R48, R66, R85, R105, R131, R143, R166, R178) -/

/-- A read of the line, of the plant or of a section answered with nothing changed. -/
theorem read_answered {s : State} {m : Byte} {k : Request} {c : Instr} {r : Reply} (h : s.takesNow = true) (hc : k.row m = some c)
    (hl : k.linkOnly = true) (hp : k.custodial = false) (hr : k ≠ .restart)
    (hk : runRequest (s.withEntry m k .untaken) k = (s.withEntry m k .untaken, .formed r)) : exec c s = .next (answered s m k r) :=
  (taken_plain h hp hr).answered hc hl hk


section Reads

variable {s : State} {m : Byte} (h : s.takesNow = true)
include h

/-- READ_CONFIG (R166). -/
theorem exec_readConfig (v : Byte) : exec (.readConfig m v) s = .next (answered s m (.readConfig v) (match sectionOf v with
    | some c => ⟨.ok, .config s.writer.valid[sectionIdx c] (sectionData s c)⟩
    | none => ⟨.outOfRange, .none⟩)) := by
  refine read_answered (k := .readConfig v) h rfl rfl rfl nofun ?_
  simp only [runRequest, reqReadConfig]
  cases sectionOf v <;> rfl

/-- READ_BAY (R48). -/
theorem exec_readBay (v : Byte) : exec (.readBay m v) s = .next (answered s m (.readBay v) (match bayOf v with
    | some b => ⟨.ok, .bayView (bayView s b)⟩
    | none => ⟨.outOfRange, .none⟩)) := by
  refine read_answered (k := .readBay v) h rfl rfl rfl nofun ?_
  simp only [runRequest, reqReadBay]
  cases bayOf v <;> rfl

/-- READ_ZONE (R105). -/
theorem exec_readZone (v : Byte) : exec (.readZone m v) s = .next (answered s m (.readZone v) (match zoneOf v with
    | some z => ⟨.ok, .zoneView (zoneView s z)⟩
    | none => ⟨.outOfRange, .none⟩)) := by
  refine read_answered (k := .readZone v) h rfl rfl rfl nofun ?_
  simp only [runRequest, reqReadZone]
  cases zoneOf v <;> rfl

/-- READ_HEAD (R85). -/
theorem exec_readHead (v a : Byte) : exec (.readHead m v a) s = .next (answered s m (.readHead v a) (match loopOf v, addrOf a with
    | some l, some b => ⟨.ok, .headView (headView s l b)⟩
    | _, _ => ⟨.outOfRange, .none⟩)) := by
  refine read_answered (k := .readHead v a) h rfl rfl rfl nofun ?_
  simp only [runRequest, reqReadHead]
  cases loopOf v with
  | none => rfl
  | some l => cases addrOf a <;> rfl

end Reads

theorem participants_length (s : State) : s.participants.length = allBays.countP (fun c => (s.bay c).participant) := by
  rw [State.participants, List.length_map, List.countP_eq_length_filter]

/-- The entries of a loop that a READ_HEAD counts, address by address. -/
theorem entries_count (x : Loop) (p : Head → Bool) :
    ((allAddrs.filterMap (fun a => x.heads[a])).filter p).length = allAddrs.countP (fun a => (x.heads[a]).any p) := by
  rw [← List.countP_eq_length_filter, List.countP_filterMap]
  exact List.countP_congr fun a _ => by cases x.heads[a] <;> rfl

/-- Settles O13: each read by what its identifier names, and each view item by item. -/
theorem readsAnswered : Obligations.ReadsAnswered := by
  refine ⟨fun s m v a h => ⟨read_answered (k := .readStatus) h rfl rfl rfl nofun rfl, read_answered (k := .readAtmosphere) h rfl rfl rfl nofun rfl,
    read_answered (k := .readFeed) h rfl rfl rfl nofun rfl, ?_, ?_, ?_, ?_, ?_, ?_, ?_, ?_⟩,
    fun s => rfl, fun s b => ?_, fun s z => rfl, fun s l a => ?_, fun s => rfl, fun s => ⟨rfl, rfl⟩⟩
  · intro c hc
    rw [exec_readConfig h, hc]
  · intro b hb
    rw [exec_readBay h, hb]
  · intro z hz
    rw [exec_readZone h, hz]
  · intro l b hl hb
    rw [exec_readHead h, hl, hb]
  · intro hc
    rw [exec_readConfig h, hc]
  · intro hb
    rw [exec_readBay h, hb]
  · intro hz
    rw [exec_readZone h, hz]
  · intro hlb
    rw [exec_readHead h]
    obtain hl | hb := hlb
    · rw [hl]
    · rw [hb]
      cases loopOf v <;> rfl
  · rw [bayView, participants_length]
    simp only [decide_eq_true_eq]
    rfl
  · have hall := entries_count (s.loop l)
    have hlen := hall (fun _ => true)
    rw [List.filter_true] at hlen
    simp only [headView, State.head, hlen, hall]
    rfl

/-! ### SUBSCRIBE (R176) -/

/-- An owner that leaves the queue alone: the request's entry alone takes its stage. -/
theorem withStage_eq {s u : State} {m : Byte} {k : Request} (h : s.takesNow = true)
    (hq : u.link.queue = s.link.queue ++ [⟨m, .known k, .untaken⟩]) (st : Stage) :
    u.withStage st = { u with link := { u.link with queue := s.link.queue ++ [⟨m, .known k, st⟩] } } := by
  have e := congrArg (fun t : State => t.link.queue) (withStage_withEntry h m k st)
  simp only [State.withStage, State.withEntry] at e
  rw [State.withStage, hq, e]

/-- A class is in a set where its bit stands (R176). -/
theorem noticeBit_bay (v : BitVec 7) : (v &&& noticeBit .bay ≠ 0#7) ↔ v.getLsbD 1 = true := by
  revert v
  decide

theorem noticeBit_pack (v : BitVec 7) : (v &&& noticeBit .pack ≠ 0#7) ↔ v.getLsbD 2 = true := by
  revert v
  decide

/-- Settles O19: the Link Port's items under `Link.subscribe`, a class at a time. -/
theorem subscribeTaken : Obligations.SubscribeTaken := by
  intro s m v h
  have T : Taken s m (.subscribe v) := taken_plain h rfl nofun
  refine ⟨fun hv => T.answered (c := .subscribe m v) rfl rfl ?_, fun hv => ⟨?_, rfl, rfl, ?_, ?_, ?_, ?_, rfl⟩⟩
  · simp only [runRequest, reqSubscribe, classSetOf, hv]
    rfl
  · let j := s.withEntry m (.subscribe v) .untaken
    have hrun : runRequest j (.subscribe v) = ({ j with link := j.link.subscribe (v.setWidth 7) }, okay (.classSet (v.setWidth 7))) := by
      simp only [runRequest, reqSubscribe, classSetOf, hv]
      rfl
    have hrow := T.pump (c := .subscribe m v) rfl rfl hrun
    rw [hrow, withStage_eq (k := .subscribe v) (m := m) h rfl]
    rfl
  all_goals
    generalize v.setWidth 7 = c
    intro hs hc
    simp only [Link.subscribe, noticeBit_bay, noticeBit_pack, BitVec.getLsbD_and, BitVec.getLsbD_not, hs, hc]
    simp

/-! ### CLEAR_PEAKS (R30, R130) -/

/-- Bays replaced one after the other, each once, each from what it was. -/
theorem bay_foldl_setBay (f : Bay → Bay) {l : List BayId} (hl : l.Nodup) (s : State) (c : BayId) :
    (l.foldl (fun s b => s.setBay b (f (s.bay b))) s).bay c = if c ∈ l then f (s.bay c) else s.bay c := by
  induction l generalizing s with
  | nil => simp
  | cons b t ih =>
    obtain ⟨hb, ht⟩ := List.nodup_cons.1 hl
    rw [List.foldl_cons, ih ht]
    by_cases hc : c = b
    · subst hc
      simp [hb]
    · simp [hc]

theorem foldl_setBay_eq (f : Bay → Bay) (l : List BayId) (s : State) :
    l.foldl (fun s b => s.setBay b (f (s.bay b))) s = { s with bays := (l.foldl (fun s b => s.setBay b (f (s.bay b))) s).bays } := by
  induction l generalizing s with
  | nil => rfl
  | cons b t ih =>
    rw [List.foldl_cons]
    exact ih _

theorem indexOf_eq_none {n : Nat} {v : Byte} (h : n < v.toNat) : indexOf n v = none := by
  unfold indexOf
  rw [dif_neg]
  omega

theorem indexOf_range {n : Nat} {v : Byte} {i : Fin n} (h : indexOf n v = some i) : 1 ≤ v.toNat ∧ v.toNat ≤ n := by
  unfold indexOf at h
  split at h
  · assumption
  · cases h

/-- The peaks that a target of CLEAR_PEAKS names, cleared. -/
def clearTarget (s : State) : PeakTarget → State
  | .bay b => clearBayPeaks s b
  | .allBays => allBays.foldl clearBayPeaks s
  | .oxygen => clearOxygenPeak s

/-- The peaks cleared and a request queued, in either order. -/
theorem clearTarget_withEntry (s : State) (m : Byte) (k : Request) (t : PeakTarget) :
    clearTarget (s.withEntry m k .untaken) t = (clearTarget s t).withEntry m k .untaken := by
  cases t with
  | bay b => rfl
  | oxygen => rfl
  | allBays =>
    have fold (l : List BayId) (s : State) :
        l.foldl clearBayPeaks (s.withEntry m k .untaken) = (l.foldl clearBayPeaks s).withEntry m k .untaken := by
      induction l generalizing s with
      | nil => rfl
      | cons b t ih => exact ih (clearBayPeaks s b)
    exact fold allBays s

theorem link_clearTarget (s : State) (t : PeakTarget) : (clearTarget s t).link = s.link := by
  cases t with
  | bay b => rfl
  | oxygen => rfl
  | allBays =>
    have e : clearTarget s .allBays = { s with bays := (clearTarget s .allBays).bays } := foldl_setBay_eq Bay.clearPeaks allBays s
    rw [e]

/-- CLEAR_PEAKS of a target in range. -/
theorem exec_clearPeaks {s : State} {m v : Byte} {t : PeakTarget} (h : s.takesNow = true) (hv : targetOf v = some t) :
    exec (.clearPeaks m v) s = .next (answered (clearTarget s t) m (.clearPeaks v) ⟨.ok, .none⟩) := by
  have T : Taken s m (.clearPeaks v) := taken_plain h rfl nofun
  have hrun : runRequest (s.withEntry m (.clearPeaks v) .untaken) (.clearPeaks v)
      = ((clearTarget s t).withEntry m (.clearPeaks v) .untaken, okay .none) := by
    rw [← clearTarget_withEntry]
    simp only [runRequest, reqClearPeaks, hv]
    cases t <;> rfl
  have hq : ((clearTarget s t).withEntry m (.clearPeaks v) .untaken).link.queue = s.link.queue ++ [⟨m, .known (.clearPeaks v), .untaken⟩] := by
    simp only [State.withEntry, link_clearTarget]
  rw [T.pump (c := .clearPeaks m v) rfl rfl hrun, withStage_eq (k := .clearPeaks v) (m := m) h hq]
  simp only [answered, State.withEntry, link_clearTarget]
  rfl

theorem targetOf_bay {v : Byte} {b : BayId} (hb : bayOf v = some b) : targetOf v = some (.bay b) := by
  have hr : 1 ≤ v.toNat ∧ v.toNat ≤ 8 := indexOf_range hb
  have h0 : v ≠ 0#8 := fun e => by subst e; exact absurd hr.1 (by decide)
  have h9 : v ≠ 9#8 := fun e => by subst e; exact absurd hr.2 (by decide)
  simp [targetOf, h0, h9, hb]

theorem targetOf_out {v : Byte} (hv : 9 < v.toNat) : targetOf v = none := by
  have h0 : v ≠ 0#8 := fun e => by subst e; exact absurd hv (by decide)
  have h9 : v ≠ 9#8 := fun e => by subst e; exact absurd hv (by decide)
  simp [targetOf, h0, h9, bayOf, indexOf_eq_none (n := 8) (v := v) (by omega)]

/-- Settles O34: a target at a time. -/
theorem peaksCleared : Obligations.PeaksCleared := by
  refine fun s m v h => ⟨fun b hb => ?_, fun hv => ?_, fun hv hs c hc => ?_, fun hv hs => ?_, fun hv => ?_⟩
  · exact ⟨_, exec_clearPeaks h (targetOf_bay hb), bay_setBay s b _, fun c hc => bay_setBay_other s b c _ hc, rfl⟩
  · subst hv
    exact ⟨_, exec_clearPeaks h rfl, fun b => (bay_foldl_setBay Bay.clearPeaks allBays_nodup s b).trans (if_pos (mem_allBays b)),
      foldl_setBay_eq Bay.clearPeaks allBays s⟩
  · subst hv
    have hr : s.atm.runCondition = true := by simpa [Atmosphere.runCondition] using hs
    rw [exec_clearPeaks h (t := .oxygen) rfl, clearTarget, clearOxygenPeak, hr, hc]
    rfl
  · subst hv
    have hp : (if s.atm.runCondition then s.atm.control.map (fun v => OxyPeak.mk v s.clock) else none) = none := by
      obtain ⟨h₁, h₂⟩ | hc := hs
      · simp [Atmosphere.runCondition, h₁, h₂]
      · simp [hc]
    rw [exec_clearPeaks h (t := .oxygen) rfl, clearTarget, clearOxygenPeak, hp]
  · have T : Taken s m (.clearPeaks v) := taken_plain h rfl nofun
    refine T.answered (c := .clearPeaks m v) rfl rfl ?_
    simp only [runRequest, reqClearPeaks, targetOf_out hv]
    rfl

/-! ### RESTART (R168, R179) -/

section Restart

variable {s : State} {m : Byte}

/-- RESTART with every earlier reply sent is taken at once. -/
theorem taken_restart (h : s.takesNow = true) (hr : s.link.replying = false) (hq : s.link.queue = []) : Taken s m .restart := by
  refine ⟨h, ?_⟩
  simp only [State.takesNow, Bool.and_eq_true, decide_eq_true_eq] at h
  obtain ⟨⟨⟨-, hn⟩, -⟩, -⟩ := h
  have hrep : (s.withEntry m .restart .untaken).link.replying = false := hr
  simp only [State.takeable, Link.repliesSent, hrep]
  simp [State.withEntry, hq, hn, Asked.kind, Request.kind, custodialKind]

theorem restart_waits (hn : s.takesNow = true) (hw : s.link.replying = true ∨ s.link.queue ≠ []) :
    (s.withEntry m .restart .untaken).takeable (.known .restart) = false := by
  simp only [State.takesNow, Bool.and_eq_true, decide_eq_true_eq, Option.isNone_iff_eq_none] at hn
  obtain ⟨⟨-, hu⟩, -⟩ := hn
  have hsent : (s.withEntry m .restart .untaken).link.repliesSent = false := by
    obtain hr | hq := hw
    · have hrep : (s.withEntry m .restart .untaken).link.replying = true := hr
      simp [Link.repliesSent, hrep]
    · obtain ⟨e, l, hl⟩ := List.exists_cons_of_ne_nil hq
      have he : e.stage ≠ .untaken := by
        intro hs
        simp [Link.untaken, hl, hs] at hu
      simp [Link.repliesSent, State.withEntry, hl, he]
  simp [State.takeable, hsent, Asked.kind, Request.kind]

/-- With a RESTART accepted none is taken (R179). -/
theorem takeAll_restarting {u : State} (hr : u.link.restart ≠ .none) (n : Nat) : takeAll n u = u := by
  cases hu : u.link.untaken with
  | none => exact takeAll_none hu n
  | some k => exact takeAll_waits hu (by simp [State.takeable, hr]) n

/-- The row of TRANSMIT_COMPLETE. -/
theorem exec_transmitComplete (h : s.inReset = false) :
    exec .transmitComplete s = .next (finish s (takeWaiting (transmitted s))) :=
  live_out h (fun s => finish s (takeWaiting (transmitted s)))

/-- A change of the Link Port alone leaves free space and reserve as they were. -/
theorem signNotice_link (u : State) (x : Link) : signNotice u { u with link := x } = { u with link := x } := signNotice_same rfl

/-- A RESTART alone in the queue, with no reply being sent, is taken. -/
theorem takeAll_restart {u : State} (hq : u.link.queue = [⟨m, .known .restart, .untaken⟩]) (htx : u.link.tx = none)
    (hr : u.link.restart = .none) {r : Restart} {st : Status}
    (hrun : reqRestart u = ({ u with link := { u.link with restart := r } }, .formed ⟨st, .none⟩)) (n : Nat) :
    takeAll (n + 1) u = { u with link := { u.link with
      restart := r, queue := [⟨m, .known .restart, .formed ⟨st, .none⟩⟩] } } := by
  have hu : u.link.untaken = some (.known .restart) := by simp [Link.untaken, hq]
  have hk : u.takeable (.known .restart) = true := by
    simp [State.takeable, hr, Asked.kind, Request.kind, custodialKind, Link.repliesSent, Link.replying, htx, hq]
  have htake : takeAsked u (.known .restart) = { u with link := { u.link with
      restart := r, queue := [⟨m, .known .restart, .formed ⟨st, .none⟩⟩] } } := by
    simp only [takeAsked, runAsked, runRequest, hrun, hq]
    rfl
  rw [takeAll_takes hu hk, htake, signNotice_link]
  exact takeAll_none rfl n

end Restart

/-- Settles O16. -/
theorem restartTaken : Obligations.RestartTaken := by
  intro s m h
  refine ⟨fun hn hr hq hm => ?_, fun hn hr hq h₁ h₂ => ?_, fun hn hw => ?_, fun k r htx hr => ?_, fun htx hr => ?_,
    fun k n r htx hr hq => ⟨fun hm => ?_, fun h₁ h₂ => ?_⟩, fun hr hi hb hw => ?_⟩
  · have T : Taken s m .restart := taken_restart hn hr hq
    let j := s.withEntry m .restart .untaken
    have hrun : runRequest j .restart = ({ j with link := { j.link with restart := .accepted } }, okay .none) := by
      have hm' : j.line.mode = .standby ∨ j.line.mode = .safeHold := hm
      simp [runRequest, reqRestart, hm']
    rw [T.pump (c := .restart m) rfl rfl hrun, withStage_eq (k := .restart) (m := m) hn rfl]
    rfl
  · have T : Taken s m .restart := taken_restart hn hr hq
    refine T.answered (c := .restart m) rfl rfl ?_
    have hm' : ¬((s.withEntry m .restart .untaken).line.mode = .standby ∨ (s.withEntry m .restart .untaken).line.mode = .safeHold) :=
      not_or.2 ⟨h₁, h₂⟩
    simp [runRequest, reqRestart, refuse, not_or.1 hm']
  · have hq : s.link.queue.length < 4 := by
      simp only [State.takesNow, Bool.and_eq_true, decide_eq_true_eq] at hn
      exact hn.2
    rw [row_out (r := .restart) h rfl, if_pos (show Request.restart.linkOnly = true from rfl), hostRequest_waits hq m .restart (.inr (restart_waits hn hw))]
  · have e : transmitted s = { s with link := { s.link with tx := none, restart := .flushing } } := by
      simp [transmitted, hr, Link.replying, htx]
    rw [exec_transmitComplete h, e, takeWaiting, takeAll_restarting (by simp)]
  · have e : transmitted s = { s with link := { s.link with tx := none } } := by simp [transmitted, hr]
    rw [exec_transmitComplete h, e, takeWaiting]
  · have e : transmitted s = { s with link := { s.link with tx := none } } := by simp [transmitted, hr]
    have hm' : s.line.mode = .standby ∨ s.line.mode = .safeHold := hm
    rw [exec_transmitComplete h, e, takeWaiting, takeAll_restart (u := { s with link := { s.link with tx := none } }) (m := m) (r := .accepted) (st := .ok) hq rfl hr]
    simp only [reqRestart, hm', Bool.or_eq_true, decide_eq_true_eq, if_true]
    rfl
  · have e : transmitted s = { s with link := { s.link with tx := none } } := by simp [transmitted, hr]
    rw [exec_transmitComplete h, e, takeWaiting, takeAll_restart (u := { s with link := { s.link with tx := none } }) (m := m) (r := .none) (st := .wrongMode) hq rfl hr]
    simp only [reqRestart, h₁, h₂, decide_false, Bool.or_self, Bool.false_eq_true, if_false, ← hr]
    rfl
  · have hb' : s.writer.buffer.all (fun b => b.slot.isNone) = true := by simpa [List.all_eq_true] using hb
    have hf : s.flushed = true := by simp [State.flushed, State.commandFlush, hr, hi, hb', hw]
    have hrow : exec .commandResetTaken s = .next (if s.flushed then startUp s else s) :=
      live_out h (fun s => if s.flushed then startUp s else s)
    rw [hrow, if_pos hf]

end Sys2Proof.Machine
end

section
/-! The settings of the CONFIG requests brought to their limits (O12). -/

namespace Sys2Proof.Machine

theorem clampNat_eq {lo hi : Nat} (h : lo ≤ hi) (v : Nat) : clampNat lo hi v = min hi (max lo v) := by
  unfold clampNat
  split_ifs <;> omega

theorem clampInt_eq {lo hi : Int} (h : lo ≤ hi) (v : Int) : clampInt lo hi v = min hi (max lo v) := by
  unfold clampInt
  split_ifs <;> omega

/-- The ranges of R24, item by item. -/
theorem bayClamped_eq (v : BaySettings) :
    bayClamped v = { v with
      currentMax := min 30000 (max 100 v.currentMax), powerMax := min 15000 (max 100 v.powerMax), tripCurrent := min 32000 v.tripCurrent
      derate := min 1400 (max (-300) v.derate), tripTemp := min 1500 (max (-290) v.tripTemp)
      restartTemp := min 1400 (max (-400) v.restartTemp), retryDelay := min 600 (max 1 v.retryDelay), retryLimit := min 7 v.retryLimit
      clearPeriod := min 3600 (max 10 v.clearPeriod), maxTime := min 86400 (max 600 v.maxTime) } := by
  simp [bayClamped, clampNat_eq, clampInt_eq]

/-- The dependent limits of R25, each on the values before any of them. -/
theorem bayDependent_eq (v : BaySettings) :
    bayDependent v = { v with
      tripCurrent := if v.tripCurrent ≤ v.currentMax then v.currentMax + 1 else v.tripCurrent
      tripTemp := if v.tripTemp ≤ v.derate then v.derate + 10 else v.tripTemp
      restartTemp := if v.derate ≤ v.restartTemp then v.derate - 50 else v.restartTemp } := by
  unfold bayDependent
  by_cases h₁ : v.tripCurrent ≤ v.currentMax <;> by_cases h₂ : v.tripTemp ≤ v.derate <;> by_cases h₃ : v.derate ≤ v.restartTemp <;>
    simp [h₁, h₂, h₃]

theorem classApplied_eq (a : ClassArgs) :
    classApplied a = ⟨min 4500 a.endMv.toNat, max (min 4500 a.endMv.toNat) (min 4500 a.relMv.toNat), min 500 (max 1 a.rate.toNat),
      min 1200 (max 0 a.limit.toInt), min 7200 a.rest.toNat⟩ := by
  simp [classApplied, signed16, clampNat_eq, clampInt_eq]

theorem budgetApplied_eq (w : BitVec 16) (e : Byte) : budgetApplied w e = ⟨min 60000 (max 1000 w.toNat), min 4 e.toNat⟩ := by
  simp [budgetApplied, clampNat_eq]

theorem zoneApplied_eq (u : ZoneSettings) (hp : u.preThreshold ≤ 65535) (ha : u.alarmThreshold ≤ 65535) :
    zoneApplied u = { u with
      releaseDelay := min 120 u.releaseDelay, holdTime := min 120 (max 10 u.holdTime), window := min 10000 (max 200 u.window)
      preThreshold := max 1 u.preThreshold, alarmThreshold := max (max 1 u.preThreshold) u.alarmThreshold
      windowsForAlarm := min 10 (max 2 u.windowsForAlarm), quenchPulse := min 5000 (max 100 u.quenchPulse) } := by
  have h₁ : min 65535 (max 1 u.preThreshold) = max 1 u.preThreshold := by omega
  have h₂ : min 65535 u.alarmThreshold = u.alarmThreshold := by omega
  simp [zoneApplied, clampNat_eq, h₁, h₂]

theorem atmApplied_eq (u : AtmSettings) :
    let permit := min 1500 (max 100 u.permit)
    let breach := min 2500 (max 200 u.breach)
    let back := min 500 (max 10 u.hysteresis)
    atmApplied u = { permit := permit, hysteresis := if permit - 50 < back then permit - 50 else back
                     breach := if breach ≤ permit then permit + 100 else breach, settle := min 300 (max 5 u.settle)
                     resettle := min 120 u.resettle, maxPurge := min 3600 (max 60 u.maxPurge), exponent := min 3 u.exponent
                     disagree := min 1000 (max 10 u.disagree), purgeFlow := min 2000 u.purgeFlow, trimFlow := min 500 u.trimFlow } := by
  intro permit breach back
  have hp : clampNat 100 1500 u.permit = permit := clampNat_eq (by omega) _
  have hb : clampNat 200 2500 u.breach = breach := clampNat_eq (by omega) _
  have hh : clampNat 10 500 u.hysteresis = back := clampNat_eq (by omega) _
  by_cases h₁ : breach ≤ permit <;> by_cases h₂ : permit - 50 < back <;> simp [atmApplied, hp, hb, hh, h₁, h₂, clampNat_eq]

theorem feedApplied_eq (f w : Byte) : feedApplied f w = ⟨min 120 (max 5 f.toNat), min 8 (max 1 w.toNat)⟩ := by
  simp [feedApplied, clampNat_eq]

/-- Settles O12: each CONFIG request's settings item by item, and the ranges read off the items. -/
theorem settingsInRange : Obligations.SettingsInRange := by
  refine ⟨fun a z => ?_, fun a => ?_, fun w e => ?_, fun a c q r => ?_, fun a => ?_, fun f w => ?_⟩
  · have he := bayDependent_eq (bayClamped (baySent a z))
    rw [bayClamped_eq] at he
    intro u v current trip derate hot cool
    have hv : v = _ := (congrArg bayDependent (bayClamped_eq (baySent a z))).trans he
    have ranges : (100 ≤ v.currentMax ∧ v.currentMax ≤ 30000) ∧ (100 ≤ v.powerMax ∧ v.powerMax ≤ 15000)
        ∧ (v.currentMax + 1 ≤ v.tripCurrent ∧ v.tripCurrent ≤ 32000) ∧ (-300 ≤ v.derate ∧ v.derate ≤ 1400)
        ∧ (v.derate + 1 ≤ v.tripTemp ∧ v.tripTemp ≤ 1500) ∧ (-400 ≤ v.restartTemp ∧ v.restartTemp < v.derate)
        ∧ (1 ≤ v.retryDelay ∧ v.retryDelay ≤ 600) ∧ v.retryLimit ≤ 7 ∧ (10 ≤ v.clearPeriod ∧ v.clearPeriod ≤ 3600)
        ∧ (600 ≤ v.maxTime ∧ v.maxTime ≤ 86400) := by
      rw [hv]
      dsimp only
      split_ifs <;> omega
    obtain ⟨hcur, hpow, htrip, hder, hhot, hcool, hdelay, hlimit, hclear, htime⟩ := ranges
    refine ⟨rfl, hv, hcur, hpow, htrip, hder, hhot, hcool, hdelay, hlimit, hclear, htime, congrArg BaySettings.zone hv, ?_⟩
    intro hc h₁ h₂ h₃
    have hu : v = bayDependent u := congrArg bayDependent hc
    rw [hu, bayDependent_eq, if_neg (by omega), if_neg (by omega), if_neg (by omega)]
  · rw [classApplied_eq]
    refine ⟨rfl, rfl, ?_⟩
    dsimp only
    omega
  · rw [budgetApplied_eq]
    refine ⟨rfl, rfl, ?_⟩
    dsimp only
    omega
  · have hp : (zoneSent a c q r).preThreshold ≤ 65535 := by have := a.preThreshold.isLt; simp only [zoneSent]; omega
    have ha : (zoneSent a c q r).alarmThreshold ≤ 65535 := by have := a.alarmThreshold.isLt; simp only [zoneSent]; omega
    intro u v pre
    have hv : v = _ := zoneApplied_eq _ hp ha
    have ha' : u.alarmThreshold ≤ 65535 := ha
    have hp' : u.preThreshold ≤ 65535 := hp
    refine ⟨rfl, hv, ?_⟩
    rw [hv]
    dsimp only
    omega
  · intro u v permit breach back
    have hv : v = _ := atmApplied_eq u
    refine ⟨rfl, hv, ?_⟩
    rw [hv]
    dsimp only
    split_ifs <;> omega
  · rw [feedApplied_eq]
    refine ⟨rfl, rfl, ?_⟩
    dsimp only
    omega

end Sys2Proof.Machine
end

section
/-! The journal requests: READ_JOURNAL, READ_INCIDENT and EXPORT_MARK (O41, O42). -/

namespace Sys2Proof.Machine

/-! ### A rewrite asked for (R166) -/

theorem askRewrite_eq (s : State) (c : Section) :
    askRewrite s c = { s with writer := { s.writer with settingsOps := (askRewrite s c).writer.settingsOps } } := by
  unfold askRewrite
  split <;> rfl

theorem erase_mem_askRewrite (s : State) (c : Section) : SettingsOp.erase c ∈ (askRewrite s c).writer.settingsOps := by
  unfold askRewrite
  split
  · next h =>
    obtain ⟨o, ho, e⟩ := List.any_eq_true.1 h
    exact of_decide_eq_true e ▸ ho
  · exact List.mem_append_right _ (List.mem_singleton_self _)

/-! ### The exported mark (R160) -/

/-- The first operand of a minimum folded over a list is the lowest of all: it bounds each, and is one of them. -/
theorem foldl_min_le {l : List Nat} {a b : Nat} (hb : b ∈ a :: l) : l.foldl min a ≤ b :=
  (List.min?_eq_some_iff.1 (List.min?_cons' (x := a) (xs := l))).2 b hb

theorem foldl_min_mem (l : List Nat) (a : Nat) : l.foldl min a ∈ a :: l :=
  (List.min?_eq_some_iff.1 (List.min?_cons' (x := a) (xs := l))).1

/-- The slots assigned leave the records that wait, in their order. -/
theorem assignList_records (l : List Buffered) (s : State) : (assignList l s).1.map Buffered.record = l.map Buffered.record := by
  induction l generalizing s with
  | nil => rfl
  | cons b t ih =>
    cases hb : b.slot with
    | some k => simpa only [assignList, hb, List.map_cons, List.cons.injEq, true_and] using ih s
    | none =>
      rcases e : assignSlot s with ⟨u, o⟩
      cases o with
      | none => simp only [assignList, hb, e]
      | some n => simpa only [assignList, hb, e, List.map_cons, List.cons.injEq, true_and] using ih u

/-- Of the Journal Writer the assignment moves the ring position, the erases queued and the slots of the buffered records. -/
theorem assignWaiting_writer (s : State) : ∃ c u a, (assignWaiting s).writer = { s.writer with
    current := c, used := u, aheads := a, buffer := (assignList s.writer.buffer s).1 } := by
  obtain ⟨c, u, a, e⟩ := assignList_eq s.writer.buffer s
  exact ⟨c, u, a, by simp only [assignWaiting, e]⟩

theorem raiseMark_eq (s : State) (n : Nat) :
    raiseMark s n = { s with writer := (raiseMark s n).writer, link := s.link.mark .journal } := by
  unfold raiseMark
  rw [askRewrite_eq, eraseAhead_eq, assignWaiting_eq]
  rfl

theorem raiseMark_writer (s : State) (n : Nat) :
    (raiseMark s n).writer.mark = n ∧ (raiseMark s n).writer.nextSeq = s.writer.nextSeq
    ∧ (raiseMark s n).writer.buffer.map Buffered.record = s.writer.buffer.map Buffered.record := by
  unfold raiseMark
  dsimp only
  generalize hu : State.mark { s with writer := { s.writer with mark := n } } .journal = u
  have hw : u.writer = { s.writer with mark := n } := by rw [← hu]; rfl
  obtain ⟨c, v, a, e⟩ := assignWaiting_writer u
  rw [askRewrite_eq, eraseAhead_eq]
  dsimp only
  rw [e, hw]
  exact ⟨rfl, rfl, assignList_records _ _⟩

/-- The clamp is below each of its bounds, and is one of them (R160). -/
theorem clamp_bounds (s : State) : let r : Tables := s.rebuilt.getD ⟨[], [], []⟩
    (∀ p ∈ s.packs ++ r.packs, s.clamp ≤ p.firstRecord - 1) ∧ (∀ l ∈ s.lots ++ r.lots, s.clamp ≤ l.opening - 1)
    ∧ s.clamp ≤ s.newest
    ∧ (s.clamp = s.newest ∨ (∃ p ∈ s.packs ++ r.packs, s.clamp = p.firstRecord - 1)
        ∨ (∃ l ∈ s.lots ++ r.lots, s.clamp = l.opening - 1)) := by
  intro r
  refine ⟨fun p hp => foldl_min_le ?_, fun l hl => foldl_min_le ?_, foldl_min_le (List.mem_cons_self ..), ?_⟩
  · exact List.mem_cons_of_mem _ (List.mem_append_left _ (List.mem_map_of_mem hp))
  · exact List.mem_cons_of_mem _ (List.mem_append_right _ (List.mem_map_of_mem hl))
  · have h := foldl_min_mem ((s.packs ++ r.packs).map (fun (p : Pack) => p.firstRecord - 1)
      ++ (s.lots ++ r.lots).map (fun (l : Lot) => l.opening - 1)) s.newest
    rcases List.mem_cons.1 h with h | h
    · exact .inl h
    rcases List.mem_append.1 h with h | h
    · obtain ⟨p, hp, e⟩ := List.mem_map.1 h
      exact .inr (.inl ⟨p, hp, e.symm⟩)
    · obtain ⟨l, hl, e⟩ := List.mem_map.1 h
      exact .inr (.inr ⟨l, hl, e.symm⟩)

/-- Settles O42. -/
theorem markRaised : Obligations.MarkRaised := by
  intro s m n h r
  have T : Taken s m (.exportMark n) := taken_plain h rfl nofun
  let j := s.withEntry m (.exportMark n) .untaken
  have hclamp : j.clamp = s.clamp := rfl
  have hw : j.writer = s.writer := rfl
  obtain ⟨hpacks, hlots, hnew, hone⟩ := clamp_bounds s
  refine ⟨hpacks, hlots, hnew, hone, fun hn => ?_, fun hn hc => ?_, fun hn hc => ?_⟩
  · refine T.same (c := .exportMark m n) rfl rfl ?_
    simp only [runRequest, reqExportMark]
    exact if_pos hn
  · have hc' : min n.toNat s.clamp ≤ s.writer.mark := (min_le_right _ _).trans hc
    have hlt : s.clamp < n.toNat := hc.trans_lt hn
    refine T.same (c := .exportMark m n) rfl rfl ?_
    change runRequest j (.exportMark n) = _
    simp only [runRequest, reqExportMark, hclamp]
    rw [hw, if_neg (by omega), if_pos hc', max_eq_left hc', decide_eq_true hlt]
    rfl
  · intro k
    have hk : s.writer.mark < min n.toNat s.clamp := lt_min hn hc
    have hrun : runRequest j (.exportMark n) = (raiseMark j k,
        .waiting (.rewrite .exported false ⟨if n.toNat ≤ s.clamp then .ok else .clamped, .mark k⟩)) := by
      simp only [runRequest, reqExportMark, hclamp]
      rw [hw, if_neg (by omega), if_neg (not_le.2 hk), max_eq_right hk.le]
      by_cases hle : n.toNat ≤ s.clamp
      · simp only [clampStatus, not_lt.2 hle, decide_false, if_pos hle]
        rfl
      · simp only [clampStatus, not_le.1 hle, decide_true, if_neg hle]
        rfl
    have hcore : (raiseMark j k).link.queue = j.link.queue := by rw [raiseMark_eq]; rfl
    obtain ⟨hmark, hnext, hbuf⟩ := raiseMark_writer j k
    have hrow := T.finish (c := .exportMark m n) rfl rfl hrun
    rw [withStage_eq (k := .exportMark n) (m := m) h hcore] at hrow
    refine ⟨_, hrow, rfl, hmark, hnext, hbuf, erase_mem_askRewrite _ _, ?_, ?_⟩
    · rw [raiseMark_eq]
      rfl
    · rw [raiseMark_eq]
      rfl

end Sys2Proof.Machine
end

section
namespace Sys2Proof.Machine

/-! ### READ_JOURNAL (R163) -/

/-- A request that queues a read and waits for it. -/
theorem queueRead_withStage {s : State} {m : Byte} {k : Request} (h : s.takesNow = true) (o : ReadOp) (st : Stage) :
    (queueRead (s.withEntry m k .untaken) o).withStage st = (queueRead s o).withEntry m k st := by
  rw [withStage_eq (k := k) (m := m) h rfl]
  rfl

theorem mem_journalRecords (j : List (Nat × Slot)) (r : Record) : r ∈ journalRecords j ↔ ∃ k, (k, Slot.good r) ∈ j := by
  simp only [journalRecords, List.mem_filterMap]
  constructor
  · rintro ⟨⟨k, c⟩, hk, e⟩
    cases c with
    | failed => cases e
    | good q => cases e; exact ⟨k, hk⟩
  · rintro ⟨k, hk⟩
    exact ⟨(k, .good r), hk, rfl⟩

/-- A sequence held in the journal area or in the buffer. -/
theorem mem_presentSeqs (s : State) (q : Nat) :
    q ∈ (journalRecords s.nv.journal).map Record.seq ++ s.writer.buffer.map (fun b => b.record.seq)
      ↔ (∃ k r, (k, Slot.good r) ∈ s.nv.journal ∧ r.seq = q) ∨ ∃ b ∈ s.writer.buffer, b.record.seq = q := by
  rw [List.mem_append, List.mem_map, List.mem_map]
  refine or_congr ⟨fun ⟨r, hr, e⟩ => ?_, fun ⟨k, r, hk, e⟩ => ⟨r, (mem_journalRecords _ r).2 ⟨k, hk⟩, e⟩⟩ Iff.rfl
  obtain ⟨k, hk⟩ := (mem_journalRecords _ r).1 hr
  exact ⟨k, r, hk, e⟩

/-- The lowest of a list, or what stands for that of an empty one. -/
theorem min?_getD_spec (l : List Nat) (d : Nat) :
    (∀ q ∈ l, l.min?.getD d ≤ q) ∧ ((∃ q, q ∈ l) → l.min?.getD d ∈ l) ∧ ((∀ q, q ∉ l) → l.min?.getD d = d) := by
  cases e : l.min? with
  | none =>
    have hl : l = [] := List.min?_eq_none_iff.1 e
    subst hl
    simp
  | some a =>
    obtain ⟨ha, hle⟩ := List.min?_eq_some_iff.1 e
    exact ⟨hle, fun _ => ha, fun h => absurd ha (h a)⟩

/-- The sequences below a bound, from `n` on. -/
theorem askedSeqs_eq (s : State) (n c : Nat) :
    s.askedSeqs n c = (List.range (min c (s.writer.nextSeq - n))).map (fun i => n + i) := by
  unfold State.askedSeqs
  generalize s.writer.nextSeq = m
  induction c with
  | zero => simp
  | succ c ih =>
    rw [List.range_succ, List.map_append, List.filter_append, ih]
    by_cases h : n + c < m
    · have e₁ : min (c + 1) (m - n) = c + 1 := by omega
      have e₂ : min c (m - n) = c := by omega
      simp [e₁, e₂, h, List.range_succ]
    · have e : min (c + 1) (m - n) = min c (m - n) := by omega
      simp [e, h]

theorem buffered_some {s : State} {n : Nat} {r : Record} (h : s.buffered n = some r) : r.seq = n ∧ ∃ b ∈ s.writer.buffer, b.record = r := by
  obtain ⟨b, hb, e⟩ := Option.map_eq_some_iff.1 h
  have hn : b.record.seq = n := by simpa using List.find?_some hb
  exact ⟨e ▸ hn, b, List.mem_of_find?_eq_some hb, e⟩

theorem buffered_none (s : State) (n : Nat) : s.buffered n = none ↔ ∀ b ∈ s.writer.buffer, b.record.seq ≠ n := by
  simp [State.buffered]

theorem stored_some {s : State} {n : Nat} {r : Record} (h : s.stored n = some r) : r.seq = n ∧ ∃ k, (k, Slot.good r) ∈ s.nv.journal :=
  ⟨by simpa using List.find?_some h, (mem_journalRecords _ r).1 (List.mem_of_find?_eq_some h)⟩

theorem stored_none (s : State) (n : Nat) : s.stored n = none ↔ ∀ k r, (k, Slot.good r) ∈ s.nv.journal → r.seq ≠ n := by
  simp only [State.stored, List.find?_eq_none, decide_eq_true_eq, mem_journalRecords]
  exact ⟨fun h k r hk => h r ⟨k, hk⟩, fun h r ⟨k, hk⟩ => h k r hk⟩

section ReadJournal

variable {s : State} {m c : Byte} {n : BitVec 32} (h : s.takesNow = true)
include h

/-- READ_JOURNAL with a count in range, from a sequence that is present or newer (R163). -/
theorem exec_readJournal (hc : 1 ≤ c.toNat) (hc' : c.toNat ≤ 6) (hn : s.oldest ≤ n.toNat) :
    exec (.readJournal m n c) s = if (s.askedSeqs n.toNat c.toNat).all (fun i => (s.buffered i).isSome)
      then .next (finish s (s.withEntry m (.readJournal n c) (.formed (s.journalReply n.toNat c.toNat))))
      else .next (finish s ((queueRead s (.journal n.toNat c.toNat)).withEntry m (.readJournal n c)
        (.waiting (.read (.journal n.toNat c.toNat))))) := by
  have T : Taken s m (.readJournal n c) := taken_plain h rfl nofun
  let j := s.withEntry m (.readJournal n c) .untaken
  have hcount : (decide (c.toNat = 0) || decide (6 < c.toNat)) = false := by
    simp only [Bool.or_eq_false_iff, decide_eq_false_iff_not]
    omega
  have hrun : runRequest j (.readJournal n c) = if (s.askedSeqs n.toNat c.toNat).all (fun i => (s.buffered i).isSome)
      then (j, .formed (s.journalReply n.toNat c.toNat))
      else (queueRead j (.journal n.toNat c.toNat), .waiting (.read (.journal n.toNat c.toNat))) := by
    simp only [runRequest, reqReadJournal, hcount, Bool.false_eq_true, if_false]
    exact if_neg (not_lt.2 hn)
  cases hall : (s.askedSeqs n.toNat c.toNat).all (fun i => (s.buffered i).isSome) with
  | true => exact T.same (c := .readJournal m n c) rfl rfl (hrun.trans (if_pos hall))
  | false =>
    rw [T.finish (c := .readJournal m n c) rfl rfl (hrun.trans (if_neg (by simp [hall]))), queueRead_withStage h]
    rfl

theorem exec_readJournal_count (hc : c.toNat = 0 ∨ 6 < c.toNat) :
    exec (.readJournal m n c) s = .next (finish s (s.withEntry m (.readJournal n c) (.formed ⟨.outOfRange, .none⟩))) := by
  have T : Taken s m (.readJournal n c) := taken_plain h rfl nofun
  have hcount : (decide (c.toNat = 0) || decide (6 < c.toNat)) = true := by simpa using hc
  refine T.same (c := .readJournal m n c) rfl rfl ?_
  simp only [runRequest, reqReadJournal, hcount, if_true]
  rfl

theorem exec_readJournal_old (hc : 1 ≤ c.toNat) (hc' : c.toNat ≤ 6) (hn : n.toNat < s.oldest) :
    exec (.readJournal m n c) s = .next (finish s (s.withEntry m (.readJournal n c) (.formed ⟨.notFound, .none⟩))) := by
  have T : Taken s m (.readJournal n c) := taken_plain h rfl nofun
  have hcount : (decide (c.toNat = 0) || decide (6 < c.toNat)) = false := by
    simp only [Bool.or_eq_false_iff, decide_eq_false_iff_not]
    omega
  refine T.same (c := .readJournal m n c) rfl rfl ?_
  simp only [runRequest, reqReadJournal, hcount, Bool.false_eq_true, if_false]
  exact if_pos hn

end ReadJournal

/-! ### READ_INCIDENT (R165) -/

theorem openWaiting_some {l : List IncidentPart} {i : BitVec 16} {o : OpenPart} (h : openWaiting l i = some o) :
    IncidentPart.opened o ∈ l ∧ o.number = i := by
  obtain ⟨p, hp, e⟩ := List.exists_of_findSome?_eq_some h
  cases p with
  | closed c => cases e
  | opened q =>
    obtain ⟨hi, e⟩ := Option.ite_none_right_eq_some.1 e
    cases e
    exact ⟨hp, hi⟩

theorem openWaiting_none (l : List IncidentPart) (i : BitVec 16) :
    openWaiting l i = none ↔ ∀ o, IncidentPart.opened o ∈ l → o.number ≠ i := by
  rw [openWaiting, List.findSome?_eq_none_iff]
  constructor
  · intro h o ho e
    simpa [e] using h _ ho
  · intro h p hp
    cases p with
    | closed c => rfl
    | opened o => exact if_neg (h o hp)

theorem closeWaiting_some {l : List IncidentPart} {i : BitVec 16} {c : ClosePart} (h : closeWaiting l i = some c) :
    IncidentPart.closed c ∈ l ∧ c.number = i := by
  obtain ⟨p, hp, e⟩ := List.exists_of_findSome?_eq_some h
  cases p with
  | opened o => cases e
  | closed q =>
    obtain ⟨hi, e⟩ := Option.ite_none_right_eq_some.1 e
    cases e
    exact ⟨hp, hi⟩

theorem closeWaiting_none (l : List IncidentPart) (i : BitVec 16) :
    closeWaiting l i = none ↔ ∀ c, IncidentPart.closed c ∈ l → c.number ≠ i := by
  rw [closeWaiting, List.findSome?_eq_none_iff]
  constructor
  · intro h c hc e
    simpa [e] using h _ hc
  · intro h p hp
    cases p with
    | opened o => rfl
    | closed c => exact if_neg (h c hp)

theorem openOf_eq_some (x : IncidentSlot) (i : BitVec 16) (o : OpenPart) : x.openOf i = some o ↔ x.opened = .good o ∧ o.number = i := by
  unfold IncidentSlot.openOf
  cases x.opened with
  | blank => simp
  | failed => simp
  | good q =>
    simp only [Option.ite_none_right_eq_some, Option.some.injEq, Stored.good.injEq]
    exact ⟨fun ⟨hi, e⟩ => ⟨e, e ▸ hi⟩, fun ⟨e, hi⟩ => ⟨e ▸ hi, e⟩⟩

theorem closeOf_eq_some (x : IncidentSlot) (i : BitVec 16) (c : ClosePart) : x.closeOf i = some c ↔ x.closed = .good c ∧ c.number = i := by
  unfold IncidentSlot.closeOf
  cases x.closed with
  | blank => simp
  | failed => simp
  | good q =>
    simp only [Option.ite_none_right_eq_some, Option.some.injEq, Stored.good.injEq]
    exact ⟨fun ⟨hi, e⟩ => ⟨e, e ▸ hi⟩, fun ⟨e, hi⟩ => ⟨e ▸ hi, e⟩⟩

/-- The part of an incident that is present: the buffered one, or else the one in its slot. -/
theorem or_eq_some_iff {α : Type} (a b : Option α) (x : α) : a.or b = some x ↔ a = some x ∨ (a = none ∧ b = some x) := by
  cases a <;> simp

/-- A reply with an open part, with and without its close part, and without one (R165). -/
theorem incidentReply_spec (s : State) (i : BitVec 16) :
    let w := s.writer.incidents
    let x := s.nv.incidents[incidentSlotOf i.toNat]
    let opens (o : OpenPart) : Prop := openWaiting w i = some o ∨ (openWaiting w i = none ∧ x.opened = .good o ∧ o.number = i)
    let closes (c : ClosePart) : Prop := closeWaiting w i = some c ∨ (closeWaiting w i = none ∧ x.closed = .good c ∧ c.number = i)
    (∀ o c, opens o → closes c → s.incidentReply i = ⟨.ok, .incident o (some c)⟩)
    ∧ (∀ o, opens o → (∀ c, ¬closes c) → s.incidentReply i = ⟨.ok, .incident o none⟩)
    ∧ ((∀ o, ¬opens o) → s.incidentReply i = ⟨.notFound, .none⟩) := by
  intro w x opens closes
  have hopen (o : OpenPart) : opens o ↔ (openWaiting w i).or (x.openOf i) = some o := by
    rw [or_eq_some_iff, openOf_eq_some]
  have hclose (c : ClosePart) : closes c ↔ (closeWaiting w i).or (x.closeOf i) = some c := by
    rw [or_eq_some_iff, closeOf_eq_some]
  have hreply : s.incidentReply i = match (openWaiting w i).or (x.openOf i) with
      | some o => ⟨.ok, .incident o ((closeWaiting w i).or (x.closeOf i))⟩
      | none => ⟨.notFound, .none⟩ := rfl
  refine ⟨fun o c ho hc => ?_, fun o ho hc => ?_, fun ho => ?_⟩
  · rw [hreply, (hopen o).1 ho, (hclose c).1 hc]
  · have hn : (closeWaiting w i).or (x.closeOf i) = none := Option.eq_none_iff_forall_ne_some.2 fun c e => hc c ((hclose c).2 e)
    rw [hreply, (hopen o).1 ho, hn]
  · have hn : (openWaiting w i).or (x.openOf i) = none := Option.eq_none_iff_forall_ne_some.2 fun o e => ho o ((hopen o).2 e)
    rw [hreply, hn]

theorem exec_readIncident {s : State} {m : Byte} {i : BitVec 16} (h : s.takesNow = true) :
    exec (.readIncident m i) s = match openWaiting s.writer.incidents i with
      | some o => .next (finish s (s.withEntry m (.readIncident i) (.formed ⟨.ok, .incident o (closeWaiting s.writer.incidents i)⟩)))
      | none => .next (finish s ((queueRead s (.incident i)).withEntry m (.readIncident i) (.waiting (.read (.incident i))))) := by
  have T : Taken s m (.readIncident i) := taken_plain h rfl nofun
  let j := s.withEntry m (.readIncident i) .untaken
  have hrun : runRequest j (.readIncident i) = match openWaiting s.writer.incidents i with
      | some o => (j, okay (.incident o (closeWaiting s.writer.incidents i)))
      | none => (queueRead j (.incident i), .waiting (.read (.incident i))) := rfl
  cases e : openWaiting s.writer.incidents i with
  | some o =>
    rw [e] at hrun
    exact T.same (c := .readIncident m i) rfl rfl hrun
  | none =>
    rw [e] at hrun
    rw [T.finish (c := .readIncident m i) rfl rfl hrun, queueRead_withStage h]

/-- Settles O41. -/
theorem journalRead : Obligations.JournalRead := by
  refine ⟨fun s m c n i h => ⟨fun hc => exec_readJournal_count h hc, fun hc hc' hn => exec_readJournal_old h hc hc' hn,
      fun hc hc' hn hall => ?_, fun hc hc' hn hex => ?_, fun o ho => ?_, fun ho => ?_⟩,
    fun s n c => ?_, fun s i => ?_⟩
  · rw [exec_readJournal h hc hc' hn, if_pos (List.all_eq_true.2 hall)]
  · obtain ⟨k, hk, hb⟩ := hex
    rw [exec_readJournal h hc hc' hn, if_neg fun hall => by simpa [hb] using List.all_eq_true.1 hall k hk]
  · rw [exec_readIncident h, ho]
  · rw [exec_readIncident h, ho]
  · intro held
    have hheld (q : Nat) := mem_presentSeqs s q
    obtain ⟨hle, hmem, hnone⟩ := min?_getD_spec
      ((journalRecords s.nv.journal).map Record.seq ++ s.writer.buffer.map (fun b => b.record.seq)) s.writer.nextSeq
    refine ⟨fun q hq => hle q ((hheld q).2 hq), fun ⟨q, hq⟩ => (hheld _).1 (hmem ⟨q, (hheld q).2 hq⟩),
      fun hn => hnone fun q hq => hn q ((hheld q).1 hq), rfl, askedSeqs_eq s n c, fun r hr => ?_, fun r hb hr => ?_, fun hb hr => ?_,
      fun r => buffered_some, buffered_none s n, fun r => stored_some, stored_none s n⟩
    · rw [State.journalItem, hr]
    · rw [State.journalItem, hb, hr]
    · rw [State.journalItem, hb, hr]
  · intro w x opens closes
    obtain ⟨hboth, hopen, hnone⟩ := incidentReply_spec s i
    exact ⟨hboth, hopen, hnone, fun o => openWaiting_some, openWaiting_none w i, fun c => closeWaiting_some, closeWaiting_none w i⟩

end Sys2Proof.Machine
end

section
/-! The ends of the NV array's operations, and the incident parts handed to the Journal Writer (O59). -/

namespace Sys2Proof.Machine

/-! ### The journal area (R153, R156, R158) -/

theorem journalAt_programRecord (j : List (Nat × Slot)) (r : Record) (n k : Nat) :
    journalAt (programRecords [⟨r, some n⟩] j) k = if k = n then some (.good r) else journalAt j k := journalAt_put n k _ j

theorem segErased_filter (j : List (Nat × Slot)) (g : Nat) : segErased (j.filter (fun e => segOf e.1 ≠ g)) g = true := by
  simp [segErased, List.all_filter]

/-- A slot outside the segment erased holds what it held. -/
theorem journalAt_filter (j : List (Nat × Slot)) (g k : Nat) (hk : segOf k ≠ g) :
    journalAt (j.filter (fun e => segOf e.1 ≠ g)) k = journalAt j k := by
  unfold journalAt
  rw [List.find?_filter]
  congr 2
  funext e
  by_cases he : e.1 = k
  · simp [he, hk]
  · simp [he]

/-! ### A journal program's end (R156) -/

theorem bufferEmptied_eq (s : State) : bufferEmptied s = { s with line := (bufferEmptied s).line, link := (bufferEmptied s).link } := by
  unfold bufferEmptied reportFlushed
  split_ifs <;> rfl

theorem linkKept_bufferEmptied (s : State) : LinkKept s (bufferEmptied s) := by
  unfold bufferEmptied reportFlushed
  split_ifs <;> rfl

/-- In WARNING an empty record buffer is shown as flushed (R152, R167). -/
theorem flushDone_bufferEmptied {s : State} (hm : s.line.monitor = .warning) (hb : s.writer.buffer = []) :
    (bufferEmptied s).line.flushDone = true := by
  have hmark : (s.mark .journal).writer.buffer = [] := hb
  have hmon : (s.mark .journal).line.monitor = .warning := hm
  unfold bufferEmptied reportFlushed
  rw [hb, hmark, hmon]
  cases hf : s.line.flushDone with
  | true =>
    have hf' : (s.mark .journal).line.flushDone = true := hf
    simp [hf']
  | false =>
    have hf' : (s.mark .journal).line.flushDone = false := hf
    simp only [hf']
    rfl

/-! ### An incident program's end (R164) -/

/-- The erase of the next slot, where none is queued or suspended, the slot holds something and the array is free. -/
theorem queueIncidentErase_queues {s : State} {n : Nat} (hr : s.writer.running = none)
    (ha : EraseTarget.incident (n % 16) ∉ s.writer.aheads) (hs : s.writer.suspended ≠ some (.incident (n % 16)))
    (he : slotErased s.nv.incidents[incidentSlotOf n] = false) :
    queueIncidentErase s n = { s with writer := { s.writer with aheads := s.writer.aheads ++ [.incident (n % 16)] } } := by
  unfold queueIncidentErase
  have hany : s.writer.aheads.any (· = EraseTarget.incident (n % 16)) = false := by
    rw [List.any_eq_false]
    intro t ht e
    exact ha (of_decide_eq_true e ▸ ht)
  simp only [hr, he, hs, hany, decide_false, Bool.or_false, Bool.false_eq_true, if_false]

theorem queueIncidentErase_eq (s : State) (n : Nat) :
    queueIncidentErase s n = { s with writer := { s.writer with aheads := (queueIncidentErase s n).writer.aheads } } := by
  unfold queueIncidentErase
  dsimp only
  split_ifs <;> rfl

section IncidentProgrammed

variable (s : State) (p : IncidentPart) (l : List IncidentPart)

/-- The part programmed, before the erase of the next slot. -/
def partHeld : State :=
  State.mark { s with
    writer := { s.writer with running := none, incidents := l, lastIncident := some p.number }
    nv := { s.nv with
      incidents := vput s.nv.incidents (incidentSlotOf p.number.toNat) (s.nv.incidents[incidentSlotOf p.number.toNat].hold p) } } .journal

theorem incidentProgrammed_eq : incidentProgrammed s p l =
    { partHeld s p l with writer := { (partHeld s p l).writer with aheads := (incidentProgrammed s p l).writer.aheads } } := by
  change (if p.isClosed then queueIncidentErase (partHeld s p l) (p.number.toNat + 1) else partHeld s p l)
    = { partHeld s p l with writer := { (partHeld s p l).writer with
        aheads := (if p.isClosed then queueIncidentErase (partHeld s p l) (p.number.toNat + 1) else partHeld s p l).writer.aheads } }
  split
  · exact queueIncidentErase_eq _ _
  · rfl

variable {s p l}

theorem incidentProgrammed_open (hp : p.isClosed = false) : (incidentProgrammed s p l).writer.aheads = s.writer.aheads := by
  have e : incidentProgrammed s p l = partHeld s p l := if_neg (by simp [hp])
  rw [e]
  rfl

/-- After a close part the erase of the next slot waits, that slot being another one. -/
theorem incidentProgrammed_closed (hp : p.isClosed = true) : let e := EraseTarget.incident ((p.number.toNat + 1) % 16)
    e ∉ s.writer.aheads → s.writer.suspended ≠ some e → slotErased s.nv.incidents[incidentSlotOf (p.number.toNat + 1)] = false →
    (incidentProgrammed s p l).writer.aheads = s.writer.aheads ++ [e] := by
  intro e ha hs he
  have hv : incidentProgrammed s p l = queueIncidentErase (partHeld s p l) (p.number.toNat + 1) := if_pos hp
  have hne : incidentSlotOf p.number.toNat ≠ incidentSlotOf (p.number.toNat + 1) := by
    intro h
    have := congrArg Fin.val h
    simp only [incidentSlotOf] at this
    omega
  have hslot : (partHeld s p l).nv.incidents[incidentSlotOf (p.number.toNat + 1)] = s.nv.incidents[incidentSlotOf (p.number.toNat + 1)] :=
    vput_other _ _ _ _ hne.symm
  rw [hv, queueIncidentErase_queues (s := partHeld s p l) rfl ha hs (hslot ▸ he)]
  rfl

end IncidentProgrammed

/-! ### A settings program's end (R166) -/

/-- The reply that waited for a rewrite under way is formed. -/
theorem formed_mem_rewritten {l : List Entry} {m : Byte} {k : Asked} {c : Section} {r : Reply}
    (h : (⟨m, k, .waiting (.rewrite c true r)⟩ : Entry) ∈ l) : (⟨m, k, .formed r⟩ : Entry) ∈ l.map (rewrittenEntry c) :=
  List.mem_map.2 ⟨_, h, if_pos rfl⟩

/-! ### A read's end (R163, R165) -/

/-- A read answers no request that does not wait for it. -/
theorem answerRead_skip {o : ReadOp} {r : Reply} {a : List Entry} (h : ∀ c ∈ a, c.stage ≠ .waiting (.read o)) : answerRead o r a = a := by
  induction a with
  | nil => rfl
  | cons x t ih =>
    rw [answerRead, if_neg (h x (List.mem_cons_self ..)), ih fun c hc => h c (List.mem_cons_of_mem _ hc)]

/-- The first request that waits for it. -/
theorem answerRead_first {o : ReadOp} {r : Reply} {a b : List Entry} {e : Entry} (h : ∀ c ∈ a, c.stage ≠ .waiting (.read o))
    (he : e.stage = .waiting (.read o)) : answerRead o r (a ++ e :: b) = a ++ { e with stage := .formed r } :: b := by
  induction a with
  | nil => exact if_pos he
  | cons x t ih =>
    rw [List.cons_append, answerRead, if_neg (h x (List.mem_cons_self ..)), ih fun c hc => h c (List.mem_cons_of_mem _ hc)]
    rfl

/-! ### An erase's end (R158) -/

theorem journalEraseDue_iff (w : Writer) : w.journalEraseDue = true ↔
    (∃ g, EraseTarget.journal g ∈ w.aheads) ∨ (∃ g n u, w.running = some (.erase (.journal g) n u)) ∨ ∃ g, w.suspended = some (.journal g) := by
  have hqueued : w.aheads.any (fun t => match t with | .journal _ => true | .incident _ => false) = true
      ↔ ∃ g, EraseTarget.journal g ∈ w.aheads := by
    rw [List.any_eq_true]
    constructor
    · rintro ⟨t, ht, e⟩
      cases t with
      | incident i => cases e
      | journal g => exact ⟨g, ht⟩
    · rintro ⟨g, hg⟩
      exact ⟨_, hg, rfl⟩
  have hrunning : (match w.running with | some (.erase (.journal _) _ _) => true | _ => false) = true
      ↔ ∃ g n u, w.running = some (.erase (.journal g) n u) := by
    constructor
    · intro h
      split at h
      · next g n u e => exact ⟨g, n, u, e⟩
      · cases h
    · rintro ⟨g, n, u, e⟩
      rw [e]
  have hsuspended : (match w.suspended with | some (.journal _) => true | _ => false) = true ↔ ∃ g, w.suspended = some (.journal g) := by
    constructor
    · intro h
      split at h
      · next g e => exact ⟨g, e⟩
      · cases h
    · rintro ⟨g, e⟩
      rw [e]
  unfold Writer.journalEraseDue
  rw [Bool.or_eq_true, Bool.or_eq_true, or_assoc]
  exact or_congr hqueued (or_congr hrunning hsuspended)

theorem eraseOwed_none (s : State) :
    s.eraseOwed = none ↔ ∀ b ∈ s.writer.buffer, ∀ n, b.slot = some n → journalAt s.nv.journal n = none := by
  rw [State.eraseOwed, List.findSome?_eq_none_iff]
  refine forall₂_congr fun b _ => ?_
  cases b.slot with
  | none => simp
  | some n => cases h : journalAt s.nv.journal n <;> simp [h]

theorem eraseOwed_some {s : State} {g : Nat} (h : s.eraseOwed = some g) :
    ∃ b ∈ s.writer.buffer, ∃ n, b.slot = some n ∧ segOf n = g ∧ (journalAt s.nv.journal n).isSome = true := by
  obtain ⟨b, hb, e⟩ := List.exists_of_findSome?_eq_some h
  refine ⟨b, hb, ?_⟩
  cases hs : b.slot with
  | none => rw [hs] at e; cases e
  | some n =>
    rw [hs] at e
    obtain ⟨hj, e⟩ := Option.ite_none_right_eq_some.1 e
    exact ⟨n, rfl, Option.some.inj e, hj⟩

theorem queueJournalErase_due {s : State} (h : s.writer.journalEraseDue = true) (g : Nat) : queueJournalErase s g = s := if_pos h

theorem queueJournalErase_queues {s : State} (h : s.writer.journalEraseDue = false) (g : Nat) :
    queueJournalErase s g = { s with writer := { s.writer with aheads := s.writer.aheads ++ [.journal g] } } := by
  rw [queueJournalErase, h, if_neg Bool.false_ne_true]

theorem eraseAhead_due {s : State} (h : s.writer.journalEraseDue = true) : eraseAhead s = s := by
  unfold eraseAhead
  dsimp only
  split
  · exact queueJournalErase_due h _
  · rfl

/-! ### Incident parts (R164) -/

theorem dropClosed_append {a b : List IncidentPart} {c : IncidentPart} (ha : ∀ q ∈ a, q.isClosed = false) (hc : c.isClosed = true) :
    dropClosed (a ++ c :: b) = a ++ b := by
  induction a with
  | nil => exact if_pos hc
  | cons x t ih =>
    have hx := ha x (List.mem_cons_self ..)
    rw [List.cons_append, dropClosed, hx, if_neg Bool.false_ne_true, ih fun q hq => ha q (List.mem_cons_of_mem _ hq)]
    rfl

section HandPart

variable {s : State} {p : IncidentPart}

/-- The number of a dropped open part once a part has joined the buffer. -/
def keptDropped (w : Writer) (p : IncidentPart) : Option (BitVec 16) := if p.isClosed then w.droppedOpen else none

theorem handPart_own (h : p.isClosed = true ∧ s.writer.droppedOpen = some p.number) :
    handPart s p = { s with writer := { s.writer with droppedOpen := none } } := by
  rw [handPart, if_pos (by simp [h])]

/-- A part that is not the close part of a dropped one, by the room in the buffer. -/
theorem handPart_other (h : ¬(p.isClosed = true ∧ s.writer.droppedOpen = some p.number)) :
    handPart s p =
      let w := { s.writer with droppedOpen := keptDropped s.writer p }
      let busy := if s.writer.running = some .incidentProgram then 1 else 0
      let rest := s.writer.incidents.drop busy
      if s.writer.incidents.length < 4 then { s with writer := { w with incidents := s.writer.incidents ++ [p] } }
      else if rest.any IncidentPart.isClosed then
        { s with writer := { w with incidents := s.writer.incidents.take busy ++ dropClosed rest ++ [p] } }
      else if p.isClosed then s
      else { s with writer := { w with droppedOpen := some p.number } } := by
  rw [handPart, if_neg (by simpa using h)]
  cases hp : p.isClosed with
  | true => simp only [if_true, keptDropped, hp]
  | false => simp only [Bool.false_eq_true, if_false, keptDropped, hp]

end HandPart

/-- Settles O59: each operation's end in its turn. -/
theorem arrayOperationsEnd : Obligations.ArrayOperationsEnd := by
  refine ⟨fun s hs => ⟨fun n hn => ?_, fun j r n k => ?_, fun p l hr hi => ?_⟩,
    fun s hs => ⟨fun c hc => ?_, fun c d hc => ?_, fun g n u hg => ⟨?_, segErased_filter _ g, fun k => journalAt_filter _ g k⟩,
      fun i n u hi => ?_, fun g hg => ?_, fun o ho => ?_⟩,
    fun s n k i o r e a b => ⟨rfl, rfl, fun ha => ⟨answerRead_skip ha, answerRead_first ha⟩⟩, fun s => ?_, fun s p => ?_⟩
  · have hrow : exec .journalProgramDone s = .next (finish s (journalProgrammed s n)) := by
      rw [← live_out hs fun _ => finish s (journalProgrammed s n)]
      simp only [exec, execJournalProgramDone, live, hn]
    refine ⟨_, hrow, ?_, ?_, linkKept_bufferEmptied _, ?_, fun hm hb => flushDone_bufferEmptied hm hb⟩
    all_goals
      rw [journalProgrammed, bufferEmptied_eq]
  · exact ⟨(journalAt_programRecord j r n n).trans (if_pos rfl), fun hk => (journalAt_programRecord j r n k).trans (if_neg hk)⟩
  · have hrow : exec .incidentProgramDone s = .next (finish s (incidentProgrammed s p l)) := by
      simp only [exec, execIncidentProgramDone, live, hs, hr, hi, Bool.false_eq_true, if_false]
    refine ⟨_, hrow, ?_, ?_, ?_, ?_, ?_, incidentProgrammed_open, incidentProgrammed_closed, ?_, ?_⟩
    all_goals
      rw [incidentProgrammed_eq]
      rfl
  · simp only [exec, execSettingsEraseDone, live, hs, hc, Bool.false_eq_true, if_false]
    rfl
  · refine ⟨settingsProgrammed s c d, ?_, rfl, rfl, fun m k r => formed_mem_rewritten, rfl⟩
    simp only [exec, execSettingsProgramDone, live, hs, hc, Bool.false_eq_true, if_false]
  · simp only [exec, execNvEraseDone, live, hs, hg, Bool.false_eq_true, if_false]
    rfl
  · simp only [exec, execNvEraseDone, live, hs, hi, Bool.false_eq_true, if_false]
    rfl
  · refine ⟨suspendAcked s g, ?_, rfl, rfl, rfl, rfl⟩
    simp only [exec, execEraseSuspendAck, live, hs, hg, Bool.false_eq_true, if_false]
  · simp only [exec, execNvReadDone, live, hs, ho, Bool.false_eq_true, if_false]
    rfl
  · intro w due queued
    have hdue : due ↔ w.journalEraseDue = true := (journalEraseDue_iff w).symm
    refine ⟨fun h => ?_, fun g h hg => ?_, fun h hn hu hr he => ?_, fun hn h => ?_, eraseOwed_none s, fun g => eraseOwed_some⟩
    · unfold eraseEnded
      split
      · exact queueJournalErase_due (hdue.1 h) _
      · exact eraseAhead_due (hdue.1 h)
    · have hd : w.journalEraseDue = false := by simpa [hdue] using h
      rw [eraseEnded, hg]
      exact queueJournalErase_queues hd g
    · have hd : w.journalEraseDue = false := by simpa [hdue] using h
      have hu' : 0 < s.writer.used := hu
      rw [eraseEnded, hn]
      simp only [eraseAhead]
      rw [if_pos]
      · exact queueJournalErase_queues hd _
      · simp [hu', hr, he, w]
    · rw [eraseEnded, hn]
      simp only [eraseAhead]
      rw [if_neg]
      rcases h with h | h | h <;> simp [w] at h <;> simp [h]
  · intro w held kept n own
    refine ⟨handPart_own, fun ho hl => ?_, fun a c b ho hl hd ha hc => ?_, fun ho hl hd => ?_⟩
    · rw [handPart_other ho]
      exact if_pos hl
    · have hany : (w.incidents.drop n).any IncidentPart.isClosed = true := by simp [hd, hc]
      rw [handPart_other ho]
      dsimp only
      rw [if_neg (not_lt.2 hl), if_pos hany, ← dropClosed_append ha hc, ← hd]
      rfl
    · have hany : ¬(w.incidents.drop n).any IncidentPart.isClosed = true := by
        rw [List.any_eq_true]
        rintro ⟨q, hq, e⟩
        simp [hd q hq] at e
      rw [handPart_other ho]
      dsimp only
      rw [if_neg (not_lt.2 hl), if_neg hany]

end Sys2Proof.Machine
end

section
/-! The chamber: what `putAtm` hands on, oxygen samples, the chamber's timers and its two requests (O38, O53, O54). -/

namespace Sys2Proof.Machine

/-! ### Run permission and the chamber's own change (R123, R124, R133) -/

theorem permission_updatePermission (s : State) : (updatePermission s).interlock.permission = s.runConditions.met :=
  (updatePermission_follows s).1.trans (congrArg RunConditions.met (runConditions_updatePermission s))

/-- Run permission formed afresh changes the interlock, and the feeder that follows it. -/
theorem updatePermission_frame (s : State) : ∃ p h i f l,
    updatePermission s = { s with packs := p, held := h, interlock := i, feeder := f, link := l } := by
  unfold updatePermission
  dsimp only
  split
  · exact ⟨_, _, _, _, _, (moveInterlock_moved s _).frame⟩
  · exact ⟨_, _, _, _, _, putInterlock_eq s _⟩

theorem putChamber_eq (s : State) (x : Atmosphere) :
    putChamber s x = { s with atm := withValve s x, link := (putChamber s x).link } :=
  markIf_eq _ _ _

/-- The chamber has become `y`, and run permission and the block reasons have followed. -/
structure ChamberPut (s t : State) (y : Atmosphere) : Prop where
  atm : t.atm = y
  permission : t.interlock.permission = t.runConditions.met
  reasons : t.feeder.reasons = t.blockReasons
  core : t.core = s.core
  frame : t = { s with
    packs := t.packs, held := t.held, atm := t.atm, interlock := t.interlock, feeder := t.feeder, link := t.link }

theorem putAtm_put (s : State) (x : Atmosphere) : ChamberPut s (putAtm s x) (withValve s x) := by
  let u := updatePermission (putChamber s x)
  have hplant : (putAtm s x).plant = u.plant := updateFeeder_plant u
  have hcore : (putAtm s x).core = u.core := updateFeeder_core u
  obtain ⟨y, hy⟩ := updatePermission_plant (putChamber s x)
  refine ⟨?_, ?_, reasons_updateFeeder u, putAtm_core s x, ?_⟩
  · calc (putAtm s x).atm = u.atm := congrArg Plant.atm hplant
      _ = (putChamber s x).atm := congrArg Plant.atm hy
      _ = withValve s x := by rw [putChamber_eq]
  · rw [interlock_of_plant hplant, runConditions_of_plant hplant hcore, permission_updatePermission, runConditions_updatePermission]
  · obtain ⟨_, _, _, _, ef⟩ := (feederOnly_iff _ _).1 (feederOnly_updateFeeder u)
    obtain ⟨_, _, _, _, _, eu⟩ := updatePermission_frame (putChamber s x)
    have e : putAtm s x = updateFeeder u := rfl
    rw [e, ef, show u = _ from eu, putChamber_eq]

/-- A step that gives the chamber `x` and does nothing else, in the words of the statements about the chamber. -/
theorem putAtm_taken {s : State} {e : Instr} {x : Atmosphere} (h : exec e s = .next (finish s (putAtm s x))) :
    ∃ t, exec e s = .next (finish s t)
      ∧ t.atm = { x with valve := valveFor x.state s.doorClosed s.effect.inertBoost }
      ∧ t.interlock.permission = t.runConditions.met ∧ t.feeder.reasons = t.blockReasons ∧ LinkKept s t
      ∧ t = { s with
          packs := t.packs, held := t.held, atm := t.atm, interlock := t.interlock, feeder := t.feeder, link := t.link } :=
  have P := putAtm_put s x
  ⟨_, h, P.atm, P.permission, P.reasons, linkKept_of_core P.core, P.frame⟩

/-! ### The chamber's timers (R127, R129) -/

theorem exec_gasCounterSecond {s : State} (hs : s.inReset = false) : exec .gasCounterSecond s = .next { s with atm := s.atm.second } :=
  live_out hs (fun s => { s with atm := s.atm.second })

/-- A second with the valve open (R129). -/
theorem second_open {x : Atmosphere} (h : x.valve ≠ .closed) :
    x.second = { x with gas := satAdd 4294967295 x.gas x.flow, openMs := x.openMs - 1000 } := if_neg h

/-- Settles O54. -/
theorem chamberTimers : Obligations.ChamberTimers := by
  intro s hs x took
  refine ⟨fun h => putAtm_taken ?_, fun h => putAtm_taken ?_, fun h => ?_, fun h => ?_, fun h => ?_⟩
  · rw [show exec .settleTimerExpiry s = .next (finish s (settleOut s)) from live_out hs (fun s => finish s (settleOut s)), settleOut, if_pos h]
  · rw [show exec .maxPurgeTimerExpiry s = .next (finish s (maxPurgeOut s)) from live_out hs (fun s => finish s (maxPurgeOut s)),
      maxPurgeOut, if_pos h]
    rfl
  · rw [exec_gasCounterSecond hs, second_open (by rw [h]; nofun), Atmosphere.flow, h]
    rfl
  · rw [exec_gasCounterSecond hs, second_open (by rw [h]; nofun), Atmosphere.flow, h]
    rfl
  · rw [exec_gasCounterSecond hs, Atmosphere.second, if_pos h]

/-! ### A channel (R118 to R120) -/

/-- The block and the average that a used value leaves, and whether it ends the block. -/
theorem channel_use (c : Channel) (n v : Nat) : c.use n v =
    let k := c.block.getD ⟨2 ^ n, 0, 0⟩
    ({ c with
      block := if k.length ≤ k.count + 1 then none else some ⟨k.length, k.count + 1, k.sum + v⟩
      average := if k.length ≤ k.count + 1 then some ((k.sum + v) / k.length) else c.average }, decide (k.length ≤ k.count + 1)) := by
  simp only [Channel.use, oxyAdd]
  generalize c.block.getD ⟨2 ^ n, 0, 0⟩ = k
  by_cases h : k.length ≤ k.count + 1 <;> simp [h]

/-- The fourth of a run is the first whose count reads 4: the run before it read 3. -/
theorem satAdd_eq_four (n : Nat) : (satAdd 255 n 1 = 4) = (n = 3) := by
  unfold satAdd
  exact propext (by omega)

/-- A channel after a valid sample (R118 to R120). -/
theorem channel_good (c : Channel) (n v : Nat) : c.good n v =
    let k := c.block.getD ⟨2 ^ n, 0, 0⟩
    ({ c with
      valid := c.valid || decide (c.validRun = 3), last := some v, invalidRun := 0, validRun := satAdd 255 c.validRun 1
      block := if k.length ≤ k.count + 1 then none else some ⟨k.length, k.count + 1, k.sum + v⟩
      average := if k.length ≤ k.count + 1 then some ((k.sum + v) / k.length) else c.average }, decide (k.length ≤ k.count + 1)) := by
  simp only [Channel.good, channel_use, satAdd_eq_four]

section Bad

variable {c : Channel} {n : Nat}

/-- A channel that stays VALID through an invalid sample uses its last valid value (R119, R120). -/
theorem channel_bad_held {v : Nat} (hv : c.valid = true) (hr : c.invalidRun ≠ 3) (hl : c.last = some v) :
    c.bad n = ({ c with validRun := 0, invalidRun := satAdd 255 c.invalidRun 1 } : Channel).use n v := by
  simp [Channel.bad, hv, satAdd_eq_four, hr, hl]

theorem channel_bad_fourth (hv : c.valid = true) (hr : c.invalidRun = 3) :
    c.bad n = ({ c with validRun := 0, invalidRun := satAdd 255 c.invalidRun 1, valid := false, block := none, average := none }, false) := by
  simp [Channel.bad, hv, satAdd_eq_four, hr]

theorem channel_bad_invalid (hv : c.valid = false) :
    c.bad n = ({ c with validRun := 0, invalidRun := satAdd 255 c.invalidRun 1, block := none }, false) := by
  simp [Channel.bad, hv]

end Bad

/-! ### The control value (R121, R126, R130) -/

theorem atmosphere_after (x : Atmosphere) (k : OxyChan) (r : Channel × Bool) (t : Stamp) : x.after k r t =
    if r.2 = true ∨ (x.chan k).usable.isSome ≠ r.1.usable.isSome then (x.setChan k r.1).form t else x.setChan k r.1 := by
  simp [Atmosphere.after]

theorem raisePeak_of (x : Atmosphere) (t : Stamp) (a : Nat) :
    ((x.state = .inert ∨ x.state = .drift) → (∀ p, x.peak = some p → p.value < a) → x.raisePeak a t = { x with peak := some ⟨a, t⟩ })
    ∧ ((x.state ≠ .inert ∧ x.state ≠ .drift) ∨ (∃ p, x.peak = some p ∧ a ≤ p.value) → x.raisePeak a t = x) := by
  constructor
  · intro hs hp
    have hr : x.runCondition = true := by simpa [Atmosphere.runCondition] using hs
    rw [Atmosphere.raisePeak, hr, Bool.true_and]
    cases e : x.peak with
    | none => rfl
    | some p => exact if_pos (decide_eq_true (hp p e))
  · rintro (⟨h₁, h₂⟩ | ⟨p, e, hp⟩)
    · have hr : x.runCondition = false := by simp [Atmosphere.runCondition, h₁, h₂]
      rw [Atmosphere.raisePeak, hr, Bool.false_and, if_neg Bool.false_ne_true]
    · have hn : decide (p.value < a) = false := decide_eq_false (not_lt.2 hp)
      rw [Atmosphere.raisePeak, e]
      simp [hn]

/-- A control value taken, and SENSOR_FAIL taken, by the state in force (R126). -/
theorem takes_of (x : Atmosphere) (v : Nat) :
    (x.state = .air ∨ x.state = .fault → x.takes v = x ∧ x.takesFail = x)
    ∧ (x.state = .purging ∨ x.state = .breach → x.takes v = if v ≤ x.settings.permit then x.toInert else x)
    ∧ (x.state = .inert → v ≤ x.settings.permit → x.takes v = x)
    ∧ (x.state = .inert → x.settings.permit < v →
        x.takes v = ({ x with state := .drift, settled := false, settle := none } : Atmosphere).driftTakes v)
    ∧ (x.state = .drift → x.takes v = x.driftTakes v)
    ∧ (x.state ≠ .air → x.state ≠ .fault → x.takesFail = x.fail .sensorFail) := by
  refine ⟨fun h => ?_, fun h => ?_, fun h hv => ?_, fun h hv => ?_, fun h => ?_, fun ha hf => ?_⟩
  · obtain h | h := h <;> exact ⟨by rw [Atmosphere.takes, h], by rw [Atmosphere.takesFail, h]⟩
  · obtain h | h := h <;> rw [Atmosphere.takes, h]
  · rw [Atmosphere.takes, h]
    exact if_pos hv
  · rw [Atmosphere.takes, h]
    exact if_neg (not_le.2 hv)
  · rw [Atmosphere.takes, h]
  · unfold Atmosphere.takesFail
    cases h : x.state with
    | air => exact absurd h ha
    | fault => exact absurd h hf
    | purging => rfl
    | inert => rfl
    | drift => rfl
    | breach => rfl

/-- Settles O53. -/
theorem oxygenTaken : Obligations.OxygenTaken := by
  refine ⟨fun s k v m hs => ?_, fun c n v => ?_, fun x k r t => ?_, fun x t a b => ?_, fun x v => ?_⟩
  · intro n c took
    have arrival : exec (.oxygenSampleArrival k v m) s
        = .next (finish s (oxygenEvent s k (if oxygenGood v m then some v else none) 375)) :=
      live_out hs (fun s => finish s (oxygenEvent s k (if oxygenGood v m then some v else none) 375))
    refine ⟨fun hm hv => putAtm_taken ?_, fun hm => putAtm_taken ?_, putAtm_taken ?_, ?_, ?_, ?_, fun hi hv => ?_, fun hr => ?_⟩
    · rw [arrival, if_pos (by simp [oxygenGood, hm, hv])]
      rfl
    · have hg : oxygenGood v m = false := by
        obtain rfl | hv := hm
        · rfl
        · simp [oxygenGood, hv]
      rw [arrival, hg]
      rfl
    · exact live_out hs (fun s => finish s (oxygenEvent s k none 250))
    · rw [channel_good]
    · rw [channel_good]
    · rw [channel_good]
      rfl
    · rw [channel_bad_fourth (c := c 375) hv hi]
      exact ⟨rfl, rfl, rfl⟩
    · rw [channel_good]
      change ((s.atm.chan k).valid || decide ((s.atm.chan k).validRun = 3)) = true
      simp [hr]
  · intro k ends block average lost
    refine ⟨?_, fun hv hr hl => ?_, fun hv hr => channel_bad_fourth hv hr, fun hv => channel_bad_invalid hv⟩
    · rw [channel_good]
      simp [block, average, ends, satAdd, k]
    · rw [channel_bad_held hv hr hl, channel_use]
      simp [block, average, ends, satAdd, k, lost]
  · intro y due
    have hy : x.setChan k r.1 = y := by cases k <;> rfl
    refine ⟨fun h => ?_, fun h => ?_, rfl⟩
    · rw [atmosphere_after, if_pos h, hy]
    · rw [atmosphere_after, if_neg h, hy]
  · intro formed
    obtain ⟨hraise, hkeep⟩ := raisePeak_of x t a
    refine ⟨fun ha hb => ?_, fun ha hb => ?_, fun ha hb => ?_, fun ha hb => ?_, hraise, hkeep⟩
    all_goals
      simp only [Atmosphere.form, ha, hb, formed]
  · intro inert
    obtain ⟨hrest, hpurging, hin, hout, hdrift, hfail⟩ := takes_of x v
    refine ⟨hrest, hpurging, hin, fun hs hp hb => ?_, fun hs hp hb => ?_, fun hs hb => ?_, fun hs hb hp => ?_, fun hs hb hp => ?_, hfail⟩
    · have hy : ¬x.settings.breach < v := not_lt.2 hb
      have hd : ¬v ≤ x.settings.permit - x.settings.hysteresis := by omega
      rw [hout hs hp]
      simp [Atmosphere.driftTakes, hy, hd]
    · rw [hout hs hp]
      exact if_pos hb
    · rw [hdrift hs]
      exact if_pos hb
    · rw [hdrift hs, Atmosphere.driftTakes, if_neg (not_lt.2 hb), if_pos hp]
      rfl
    · rw [hdrift hs, Atmosphere.driftTakes, if_neg (not_lt.2 hb), if_neg (not_le.2 hp)]

end Sys2Proof.Machine
end

section
/-! INERT_START and INERT_STOP (O38), and the requests that give the chamber and the feed their settings (O20). -/

namespace Sys2Proof.Machine

/-! ### INERT_START (R125) -/

section InertStart

variable {s : State} {m : Byte} (h : s.takesNow = true)
include h

theorem inertStart_refused (hx : (s.atm.state ≠ .air ∧ s.atm.state ≠ .fault) ∨ s.doorClosed = false ∨ s.atm.sensorFail = true) :
    exec (.inertStart m) s = .next (finish s (s.withEntry m .inertStart (.formed ⟨.wrongState, .none⟩))) := by
  have T : Taken s m .inertStart := taken_plain h rfl nofun
  refine T.same (c := .inertStart m) rfl rfl ?_
  have hd : (s.withEntry m .inertStart .untaken).doorClosed = s.doorClosed := rfl
  have ha : (s.withEntry m .inertStart .untaken).atm = s.atm := rfl
  simp only [runRequest, reqInertStart, hd, ha]
  by_cases h₁ : (decide (s.atm.state ≠ .air) && decide (s.atm.state ≠ .fault)) = true
  · exact if_pos h₁
  · rw [if_neg h₁]
    by_cases h₂ : s.doorClosed = true
    · have hf : s.atm.sensorFail = true := by
        simp only [Bool.and_eq_true, decide_eq_true_eq] at h₁
        rw [h₂] at hx
        simpa [h₁] using hx
      simp only [h₂, hf, Bool.not_true, Bool.false_eq_true, if_false, if_true]
      rfl
    · simp only [h₂, Bool.not_false, if_true]
      rfl

theorem inertStart_taken (hx : s.atm.state = .air ∨ s.atm.state = .fault) (hd : s.doorClosed = true) (hf : s.atm.sensorFail = false) :
    let u := putAtm (s.withEntry m .inertStart .untaken) s.atm.purge
    exec (.inertStart m) s = .next (finish s (u.withStage (.formed ⟨.ok, .atmState u.atm.state⟩))) := by
  have T : Taken s m .inertStart := taken_plain h rfl nofun
  refine T.finish (c := .inertStart m) rfl rfl ?_
  have hd' : (s.withEntry m .inertStart .untaken).doorClosed = s.doorClosed := rfl
  have ha : (s.withEntry m .inertStart .untaken).atm = s.atm := rfl
  have hx' : (decide (s.atm.state ≠ .air) && decide (s.atm.state ≠ .fault)) = false := by
    obtain hx | hx := hx <;> simp [hx]
  simp only [runRequest, reqInertStart, hd', ha, hd, hf, hx', Bool.not_true, Bool.false_eq_true, if_false]
  rfl

end InertStart

/-- A control value above the permit limit, or none, leaves the chamber PURGING (R125, R126). -/
theorem purge_high {x : Atmosphere} (h : ∀ c, x.control = some c → x.settings.permit < c) :
    x.purge = { x with state := .purging, cause := none, maxPurge := some (1000 * x.settings.maxPurge) } := by
  unfold Atmosphere.purge
  cases e : x.control with
  | none => rfl
  | some c => simp only [Atmosphere.takes, if_neg (not_le.2 (h c e))]

/-- One at or below the permit limit makes it INERT at once. -/
theorem purge_low {x : Atmosphere} {c : Nat} (h : x.control = some c) (hc : c ≤ x.settings.permit) :
    x.purge = { x with
      state := .inert, settled := false, cause := none, maxPurge := none, settle := some (1000 * x.settings.settle) } := by
  unfold Atmosphere.purge
  simp only [h, Atmosphere.takes, if_pos hc, Atmosphere.toInert]

/-! ### A request taken at REQUEST_TAKEN with no other untaken (R174) -/

/-- The requests untaken behind the one that takes its stage. -/
theorem filter_setUntaken {st : Stage} (hst : st ≠ .untaken) (q : List Entry) :
    (setUntaken st q).filter (fun e => e.stage = .untaken) = (q.filter (fun e => e.stage = .untaken)).tail := by
  induction q with
  | nil => rfl
  | cons e t ih =>
    unfold setUntaken
    by_cases he : e.stage = .untaken
    · simp [he, hst]
    · simp [he, ih]

theorem untaken_eq (x : Link) : x.untaken = (x.queue.filter (fun e => e.stage = .untaken)).head?.map Entry.asked := by
  rw [Link.untaken, List.head?_filter]

theorem signNotice_core (s₀ s : State) : (signNotice s₀ s).core = s.core := markIf_core s _ _

section TakeOne

variable {s u : State} {m : Byte} {k : Asked} {st : Stage}
  (hone : s.link.queue.filter (fun e => e.stage = .untaken) = [⟨m, k, .untaken⟩]) (ht : s.takeable k = true)
  (hk : runAsked s k = (u, st)) (hst : st ≠ .untaken) (hq : u.link.queue = s.link.queue)
include hone ht hk hst hq

/-- The one untaken request is taken, and no other is left. -/
theorem takeAll_one (n : Nat) : takeAll (n + 1) s = signNotice s (u.withStage st) := by
  have hu : s.link.untaken = some k := by rw [untaken_eq, hone]; rfl
  have hnone : (signNotice s (u.withStage st)).link.untaken = none := by
    have hqueue : (signNotice s (u.withStage st)).link.queue = setUntaken st s.link.queue := by
      rw [← hq]
      exact congrArg Core.requests (signNotice_core s (u.withStage st))
    rw [untaken_eq, hqueue, filter_setUntaken hst, hone]
    rfl
  have htake : takeAsked s k = u.withStage st := by rw [takeAsked, hk]; rfl
  rw [takeAll_takes hu ht, htake, takeAll_none hnone]

end TakeOne

/-! ### INERT_STOP (R129a, log 33) -/

section InertStop

variable {s u : State} {m : Byte} {st : Status} {b : Body} (hs : s.inReset = false) (hr : s.link.restart = .none)
  (hone : s.link.queue.filter (fun e => e.stage = .untaken) = [⟨m, .known .inertStop, .untaken⟩])
include hs hr hone

/-- INERT_STOP taken with its outcome: the sign of R159 noticed before the reply is formed or after it is the same. -/
theorem inertStop_taken (hk : reqInertStop s = (u, .formed ⟨st, b⟩)) (hq : u.link.queue = s.link.queue) :
    exec .requestTaken s = .next (finish s ((signNotice s u).withStage (.formed ⟨st, b⟩))) := by
  have ht : s.takeable (.known .inertStop) = true := by
    simp [State.takeable, hr, Asked.kind, Request.kind, custodialKind]
  have hswap : signNotice s (u.withStage (.formed ⟨st, b⟩)) = (signNotice s u).withStage (.formed ⟨st, b⟩) := by
    unfold signNotice State.markIf
    have hl : (u.withStage (.formed ⟨st, b⟩)).reserveLeft = u.reserveLeft := rfl
    rw [hl]
    split <;> rfl
  have hrow : exec .requestTaken s = .next (finish s (takeAll 4 s)) := live_out hs (fun s => finish s (takeAll 4 s))
  rw [hrow, takeAll_one hone ht (show runAsked s (.known .inertStop) = _ from hk) nofun hq, hswap]

/-- INERT_STOP answered with nothing changed. -/
theorem inertStop_same (hk : reqInertStop s = (s, .formed ⟨st, b⟩)) :
    exec .requestTaken s = .next (finish s (s.withStage (.formed ⟨st, b⟩))) := by
  rw [inertStop_taken hs hr hone hk rfl, signNotice_same rfl]

end InertStop

/-- Settles O38. -/
theorem inertStarted : Obligations.InertStarted := by
  refine ⟨fun s m h => ⟨inertStart_refused h, fun hx hd hf => ?_⟩, fun s m hs hr hone => ⟨fun hx => ?_, fun hx hy => ?_, fun hx hi hf => ?_⟩⟩
  · let j := s.withEntry m .inertStart .untaken
    have P := putAtm_put j s.atm.purge
    have T : Taken s m .inertStart := taken_plain h rfl nofun
    have hvalve : withValve j s.atm.purge = { s.atm.purge with valve := valveFor s.atm.purge.state true s.effect.inertBoost } := by
      rw [← hd]
      rfl
    have hatm : (putAtm j s.atm.purge).atm = { s.atm.purge with valve := valveFor s.atm.purge.state true s.effect.inertBoost } :=
      P.atm.trans hvalve
    refine ⟨_, inertStart_taken h hx hd hf, T.queued P.core _, fun hc => ?_, fun c hc hcl => ?_, P.permission, P.reasons,
      linkKept_row P.core _, congrArg (fun t => t.withStage (.formed ⟨.ok, .atmState (putAtm j s.atm.purge).atm.state⟩)) P.frame⟩
    · refine hatm.trans ?_
      rw [purge_high hc]
      rfl
    · refine hatm.trans ?_
      rw [purge_low hc hcl]
      rfl
  · exact inertStop_same hs hr hone (by rw [reqInertStop, if_pos hx]; rfl)
  · refine inertStop_same hs hr hone ?_
    rw [reqInertStop, if_neg hx]
    by_cases hi : s.interlock.state = .stopped
    · rw [if_neg (not_not.2 hi), if_pos (hy.resolve_left (not_not.2 hi))]
      rfl
    · rw [if_pos hi]
      rfl
  · have hk : reqInertStop s = (putAtm s s.atm.toAir, .formed ⟨.ok, .atmState .air⟩) := by
      rw [reqInertStop, if_neg hx, if_neg (not_not.2 hi), if_neg hf]
      rfl
    have P := putAtm_put s s.atm.toAir
    have hq : (putAtm s s.atm.toAir).link.queue = s.link.queue := congrArg Core.requests P.core
    have e := signNotice_eq s (putAtm s s.atm.toAir)
    have hc : (signNotice s (putAtm s s.atm.toAir)).core = s.core := (signNotice_core _ _).trans P.core
    have hvalve : valveFor .air s.doorClosed s.effect.inertBoost = .closed := by
      unfold valveFor
      split <;> rfl
    refine ⟨_, inertStop_taken hs hr hone hk hq, ?_, ?_, ?_, linkKept_of_core hc, congrArg Core.requests hc, ?_⟩
    · rw [e]
      refine P.atm.trans ?_
      rw [← hvalve]
      rfl
    · rw [e]
      exact P.permission
    · rw [e]
      exact P.reasons
    · rw [e, P.frame]

end Sys2Proof.Machine
end

section
/-! The bays and the Budget Arbiter: what each operation does to its bay, to the others and to the rest of the part (R42, R43, R61 to R64). -/

namespace Sys2Proof.Machine

/-- The bay that enters DISCHARGING, before the arbiter answers (R33, R58). -/
def dischargingBay (s : State) (b : BayId) : Bay :=
  let x := { s.bay b with state := .discharging, sustained := 0, participant := true, grant := 0, command := 0 }
  match s.bayPack b with
  | some p => formRequest s p x
  | none => x

theorem enterDischarging_eq (s : State) (b : BayId) :
    enterDischarging s b = reform (regrant (putBay s b (dischargingBay s b))) b := rfl

/-! ### What the bays' operations may change -/

/-- At most the bays and the Link Port differ. -/
def BaysLinkOnly (s t : State) : Prop := ∃ v l, t = { s with bays := v, link := l }

theorem BaysLinkOnly.refl (s : State) : BaysLinkOnly s s := ⟨_, _, rfl⟩

theorem BaysLinkOnly.trans {s t u : State} (h₁ : BaysLinkOnly s t) (h₂ : BaysLinkOnly t u) : BaysLinkOnly s u := by
  obtain ⟨_, _, rfl⟩ := h₁
  obtain ⟨_, _, rfl⟩ := h₂
  exact ⟨_, _, rfl⟩

theorem BaysLinkOnly.eq {s t : State} (h : BaysLinkOnly s t) : t = { s with bays := t.bays, link := t.link } := by
  obtain ⟨_, _, rfl⟩ := h
  rfl

theorem BaysLinkOnly.held {s t : State} (h : BaysLinkOnly s t) : t.held = s.held := by
  obtain ⟨_, _, rfl⟩ := h
  rfl

theorem BaysLinkOnly.packs {s t : State} (h : BaysLinkOnly s t) : t.packs = s.packs := by
  obtain ⟨_, _, rfl⟩ := h
  rfl

theorem baysLinkOnly_foldl {α : Type} {f : State → α → State} (h : ∀ s a, BaysLinkOnly s (f s a)) (l : List α) (s : State) :
    BaysLinkOnly s (l.foldl f s) := by
  induction l generalizing s with
  | nil => exact .refl s
  | cons a t ih => exact (h s a).trans (ih _)

theorem baysLinkOnly_setBay (s : State) (b : BayId) (x : Bay) : BaysLinkOnly s (s.setBay b x) := ⟨_, _, rfl⟩

theorem baysLinkOnly_putBay (s : State) (b : BayId) (x : Bay) : BaysLinkOnly s (putBay s b x) := by
  unfold putBay
  dsimp only
  rw [markIf_eq]
  split
  · exact ⟨_, _, rfl⟩
  · exact ⟨_, _, rfl⟩

theorem baysLinkOnly_takeGrant (s : State) (g : BayId × Nat) : BaysLinkOnly s (takeGrant s g) := by
  unfold takeGrant
  dsimp only
  split
  · exact .refl s
  · exact baysLinkOnly_putBay s _ _

theorem baysLinkOnly_regrant (s : State) : BaysLinkOnly s (regrant s) := baysLinkOnly_foldl baysLinkOnly_takeGrant _ _

theorem baysLinkOnly_putApart (s : State) (b : BayId) (x : Bay) : BaysLinkOnly s (putApart s b x) := by
  unfold putApart
  dsimp only
  split
  · exact (baysLinkOnly_putBay s b _).trans (baysLinkOnly_regrant _)
  · exact baysLinkOnly_putBay s b _

theorem baysLinkOnly_reform (s : State) (b : BayId) : BaysLinkOnly s (reform s b) := baysLinkOnly_putBay s b _

theorem baysLinkOnly_enterDischarging (s : State) (b : BayId) : BaysLinkOnly s (enterDischarging s b) := by
  rw [enterDischarging_eq]
  exact ((baysLinkOnly_putBay s b _).trans (baysLinkOnly_regrant _)).trans (baysLinkOnly_reform _ b)

theorem baysLinkOnly_renewRequest (s : State) (b : BayId) : BaysLinkOnly s (renewRequest s b) := by
  unfold renewRequest
  split
  · exact .refl s
  · dsimp only
    refine BaysLinkOnly.trans ?_ (baysLinkOnly_reform _ b)
    split
    · exact baysLinkOnly_putBay s b _
    · exact (baysLinkOnly_putBay s b _).trans (baysLinkOnly_regrant _)

theorem baysLinkOnly_setHolds (s : State) (b : BayId) (h : Holds) : BaysLinkOnly s (setHolds s b h) := by
  unfold setHolds
  dsimp only
  split_ifs
  · exact .refl s
  · exact baysLinkOnly_putBay s b _
  · exact baysLinkOnly_putApart s b _
  · exact (baysLinkOnly_putBay s b _).trans (baysLinkOnly_enterDischarging _ b)
  · exact baysLinkOnly_putBay s b _

theorem baysLinkOnly_syncHolds (s : State) : BaysLinkOnly s (syncHolds s) :=
  baysLinkOnly_foldl (fun s b => baysLinkOnly_setHolds s b (holdsFrom s b)) _ _

theorem baysLinkOnly_lockBay (s : State) (b : BayId) : BaysLinkOnly s (lockBay s b) := baysLinkOnly_putApart s b _

/-! ### A recomputation of the grants, as one bay sees it (R61, R64) -/

/-- Bay `x` is `y` after recomputations of the grants: as it was, or with a grant, the command that this gives and the sustained count. -/
structure Bay.Regranted (x y : Bay) : Prop where
  frame : y = { x with grant := y.grant, command := y.command, sustained := y.sustained }
  formed : y = x ∨ (x.participant = true ∧ y.command = commandFor y.grant x.wanted x.vAvg ∧ (y.command < 100 → y.sustained = 0))
  sustained : y.sustained = 0 ∨ y.sustained = x.sustained

theorem Bay.Regranted.refl (x : Bay) : x.Regranted x := ⟨rfl, .inl rfl, .inr rfl⟩

/-- A bay out of the arbiter keeps what it has. -/
theorem Bay.Regranted.out {x y : Bay} (h : x.Regranted y) (hp : x.participant = false) : y = x := by
  obtain e | ⟨hp', -, -⟩ := h.formed
  · exact e
  · rw [hp] at hp'
    cases hp'

theorem Bay.Regranted.trans {x y z : Bay} (h₁ : x.Regranted y) (h₂ : y.Regranted z) : x.Regranted z := by
  have hwanted : y.wanted = x.wanted := by rw [h₁.frame]
  have hpart : y.participant = x.participant := by rw [h₁.frame]
  have havg : y.vAvg = x.vAvg := by rw [h₁.frame]; rfl
  refine ⟨?_, ?_, ?_⟩
  · rw [h₂.frame, h₁.frame]
  · obtain e | ⟨hp, hc, hs⟩ := h₂.formed
    · rw [e]
      exact h₁.formed
    · exact .inr ⟨hpart ▸ hp, by rw [hc, hwanted, havg], hs⟩
  · obtain e | e := h₂.sustained
    · exact .inl e
    · rw [e]
      exact h₁.sustained

/-- What a grant of `n` makes of a participant (R61, R64). -/
theorem granted_eq {x : Bay} (hp : x.participant = true) {n : Nat} (hn : x.grant ≠ n) : x.granted n = { x with
    grant := n, command := commandFor n x.wanted x.vAvg
    sustained := if commandFor n x.wanted x.vAvg < 100 then 0 else x.sustained } := by
  rw [Bay.granted, if_neg hn]
  unfold Bay.formCommand
  rw [if_pos hp]
  rfl

theorem regranted_granted {x : Bay} (hp : x.participant = true) (n : Nat) : x.Regranted (x.granted n) := by
  by_cases hn : x.grant = n
  · rw [Bay.granted, if_pos hn]
    exact .refl x
  · rw [granted_eq hp hn]
    exact ⟨rfl, .inr ⟨hp, rfl, fun h => if_pos h⟩, ite_eq_or_eq _ _ _⟩

theorem participant_of_mem_waterFill {s : State} {w : Nat} {b : BayId} {n : Nat} (h : (b, n) ∈ waterFill w s.participants) :
    (s.bay b).participant = true :=
  (mem_waterFill_fst s w b).1 (List.mem_map_of_mem (f := Prod.fst) h)

theorem regranted_regrant (s : State) (b : BayId) : (s.bay b).Regranted ((regrant s).bay b) := by
  obtain ⟨-, e⟩ | ⟨n, hn, e⟩ := bay_regrant_cases s b
  · rw [e]
    exact .refl _
  · rw [e]
    exact regranted_granted (participant_of_mem_waterFill hn) n

/-- A recomputation in full: a bay whose grant stays is as it was, and one whose grant has changed forms its command afresh. -/
theorem bay_regrant_grant (s : State) (b : BayId) :
    (((regrant s).bay b).grant = (s.bay b).grant → (regrant s).bay b = s.bay b)
    ∧ (((regrant s).bay b).grant ≠ (s.bay b).grant →
        ((regrant s).bay b).command = commandFor ((regrant s).bay b).grant (s.bay b).wanted (s.bay b).vAvg
        ∧ ((regrant s).bay b).sustained = if ((regrant s).bay b).command < 100 then 0 else (s.bay b).sustained) := by
  obtain ⟨-, e⟩ | ⟨n, hn, e⟩ := bay_regrant_cases s b
  · rw [e]
    exact ⟨fun _ => rfl, fun h => absurd rfl h⟩
  · have hp := participant_of_mem_waterFill hn
    rw [e, granted_grant]
    refine ⟨fun h => ?_, fun h => ?_⟩
    · rw [Bay.granted, if_pos h.symm]
    · rw [granted_eq hp (Ne.symm h)]
      exact ⟨rfl, rfl⟩

/-- Each bay of `t` is that of `s` but for what recomputations of the grants give it. -/
def Regrants (s t : State) : Prop := ∀ b, (s.bay b).Regranted (t.bay b)

/-- Each bay of `t` but `b`. -/
def OthersRegranted (b : BayId) (s t : State) : Prop := ∀ c, c ≠ b → (s.bay c).Regranted (t.bay c)

theorem OthersRegranted.trans {b : BayId} {s t u : State} (h₁ : OthersRegranted b s t) (h₂ : OthersRegranted b t u) :
    OthersRegranted b s u := fun c hc => (h₁ c hc).trans (h₂ c hc)

theorem OthersRegranted.words {b : BayId} {s t : State} (h : OthersRegranted b s t) : OtherBaysRegranted b s t :=
  fun c hc => (h c hc).frame

theorem othersRegranted_of_other {b : BayId} {s t : State} (h : OtherBays b s t) : OthersRegranted b s t := by
  intro c hc
  rw [h c hc]
  exact .refl _

theorem otherBays_putBay (s : State) (b : BayId) (x : Bay) : OtherBays b s (putBay s b x) := fun c hc => bay_putBay_other s b c x hc

theorem othersRegranted_putBay (s : State) (b : BayId) (x : Bay) : OthersRegranted b s (putBay s b x) :=
  othersRegranted_of_other (otherBays_putBay s b x)

theorem othersRegranted_regrant (s : State) (b : BayId) : OthersRegranted b s (regrant s) := fun c _ => regranted_regrant s c

/-- The participants and their requests, which a recomputation leaves as they were. -/
theorem participants_of {s t : State} (h : ∀ b, (t.bay b).participant = (s.bay b).participant ∧ (t.bay b).request = (s.bay b).request) :
    t.participants = s.participants := by
  have hp : (fun b => (t.bay b).participant) = fun b => (s.bay b).participant := funext fun b => (h b).1
  have hr : (fun b => (b, (t.bay b).request)) = fun b => (b, (s.bay b).request) := funext fun b => by rw [(h b).2]
  rw [State.participants, State.participants, hp, hr]

theorem Bay.Regranted.arbiter {x y : Bay} (h : x.Regranted y) : y.participant = x.participant ∧ y.request = x.request := by
  rw [h.frame]
  exact ⟨rfl, rfl⟩

theorem participants_regrant (s : State) : (regrant s).participants = s.participants :=
  participants_of fun b => (regranted_regrant s b).arbiter

/-- After a recomputation each share is its participant's grant. -/
theorem grants_regrant (s : State) : ∀ g ∈ waterFill s.effective (regrant s).participants, ((regrant s).bay g.1).grant = g.2 := by
  intro g hg
  rw [participants_regrant] at hg
  rw [bay_regrant hg, granted_grant]

/-! ### A bay leaves the arbiter (R33, R61) -/

theorem bay_putApart (s : State) (b : BayId) (x : Bay) : (putApart s b x).bay b = x.apart := by
  unfold putApart
  dsimp only
  split
  · rw [bay_regrant_out (by rw [bay_putBay]; rfl), bay_putBay]
  · rw [bay_putBay]

theorem apart_eq (x : Bay) : x.apart = { x with participant := false, request := 0, grant := 0, command := 0, sustained := 0 } := rfl

theorem othersRegranted_putApart (s : State) (b : BayId) (x : Bay) : OthersRegranted b s (putApart s b x) := by
  unfold putApart
  dsimp only
  split
  · exact (othersRegranted_putBay s b _).trans (othersRegranted_regrant _ b)
  · exact othersRegranted_putBay s b _

/-! ### A bay's own figures (R56 to R58, R64) -/

theorem formCommand_eq {x : Bay} (hp : x.participant = true) : x.formCommand = { x with
    command := commandFor x.grant x.wanted x.vAvg
    sustained := if commandFor x.grant x.wanted x.vAvg < 100 then 0 else x.sustained } := by
  rw [Bay.formCommand, if_pos hp]
  rfl

theorem bay_reform (s : State) (b : BayId) : (reform s b).bay b = (s.bay b).formCommand := bay_putBay s b _

theorem dischargingBay_arbiter (s : State) (b : BayId) : (dischargingBay s b).participant = true ∧ (dischargingBay s b).sustained = 0 := by
  unfold dischargingBay
  dsimp only
  split <;> exact ⟨rfl, rfl⟩

/-- The bay that has entered DISCHARGING: its grant, and the command from it. -/
theorem bay_enterDischarging (s : State) (b : BayId) : let x := dischargingBay s b
    (enterDischarging s b).bay b = { x with
      grant := ((enterDischarging s b).bay b).grant
      command := commandFor ((enterDischarging s b).bay b).grant x.wanted x.vAvg } := by
  intro x
  obtain ⟨hp, hs⟩ := dischargingBay_arbiter s b
  have R : x.Regranted ((regrant (putBay s b x)).bay b) := by
    have h := regranted_regrant (putBay s b x) b
    rwa [bay_putBay] at h
  have e : (enterDischarging s b).bay b = ((regrant (putBay s b x)).bay b).formCommand := by
    rw [enterDischarging_eq, bay_reform]
  generalize (regrant (putBay s b x)).bay b = y at R e
  have hy : y.participant = true := R.arbiter.1.trans hp
  have hsus : y.sustained = 0 := R.sustained.elim id fun h => h.trans hs
  rw [e, formCommand_eq hy, hsus, ite_self, R.frame, hsus, ← hs]
  rfl

end Sys2Proof.Machine
end

section
/-! Hold reasons at the bays, and what a change of line mode hands to bays, interlock and feeder (R42, R43, R110, R133, R144). -/

namespace Sys2Proof.Machine

/-! ### A bay takes a hold-reason set (R43) -/

/-- Bay `y` is `x` once its set has become `h`, and perhaps recomputations of the grants have come before or after; `waits`: the bay waits
for a held event. -/
structure Bay.Synced (waits : Bool) (h : Holds) (x y : Bay) : Prop where
  frame : y = { x with
    state := y.state, holds := y.holds, block := y.block, sustained := y.sustained, command := y.command
    participant := y.participant, request := y.request, grant := y.grant, rateLimit := y.rateLimit
    thermalLimit := y.thermalLimit, wanted := y.wanted }
  holds : y.holds = h
  kept : waits = true ∨ (x.state ≠ .discharging ∧ x.state ≠ .held) ∨ x.holds = h →
    y = { x with holds := y.holds, grant := y.grant, command := y.command, sustained := y.sustained }
  gains : waits = false → x.state = .discharging → x.holds.isEmpty = true → h.isEmpty = false →
    y.state = .held ∧ y.command = 0 ∧ y.participant = false
  goes : waits = false → x.state = .discharging → h.isEmpty = true → y.state = .discharging
  returns : waits = false → x.state = .held → x.holds.isEmpty = false → x.sense = .good → h.isEmpty = true →
    y.state = .discharging ∧ y.participant = true ∧ y.block = none
  stays : x.state = .held → (h.isEmpty = false ∨ x.sense = .lost) →
    y.state = .held ∧ (x.participant = false → y = { x with holds := y.holds })

theorem Bay.Regranted.eta {x y : Bay} (h : x.Regranted y) : ∃ g c n, y = { x with grant := g, command := c, sustained := n } :=
  ⟨_, _, _, h.frame⟩

/-- Recomputations before the bay takes its set. -/
theorem Bay.Synced.after_regrant {waits : Bool} {h : Holds} {x x' y : Bay} (R : x.Regranted x') (S : x'.Synced waits h y) :
    x.Synced waits h y := by
  obtain ⟨g, c, n, rfl⟩ := R.eta
  refine ⟨S.frame, S.holds, S.kept, S.gains, S.goes, S.returns, fun hs hh => ?_⟩
  obtain ⟨hstate, hsame⟩ := S.stays hs hh
  refine ⟨hstate, fun hp => ?_⟩
  have e := hsame hp
  rwa [R.out hp] at e

/-- Recomputations after it. -/
theorem Bay.Synced.then_regrant {waits : Bool} {h : Holds} {x y z : Bay} (S : x.Synced waits h y) (R : y.Regranted z) :
    x.Synced waits h z := by
  obtain ⟨g, c, n, rfl⟩ := R.eta
  refine ⟨?_, S.holds, fun hk => ?_, fun hw hs he hh => ?_, S.goes, S.returns, fun hs hh => ?_⟩
  · conv_lhs => rw [S.frame]
  · conv_lhs => rw [S.kept hk]
  · obtain ⟨hstate, hcommand, hp⟩ := S.gains hw hs he hh
    rw [R.out hp]
    exact ⟨hstate, hcommand, hp⟩
  · obtain ⟨hstate, hsame⟩ := S.stays hs hh
    refine ⟨hstate, fun hp => ?_⟩
    have e := hsame hp
    have hyp : y.participant = false := by rw [e]; exact hp
    rw [R.out hyp]
    exact e

/-- The set alone changes. -/
theorem synced_holds {waits : Bool} {h : Holds} {x : Bay} (hd : waits = false → x.state = .discharging → h.isEmpty = true ∨ x.holds = h)
    (hr : waits = false → x.state = .held → h.isEmpty = true → x.sense = .lost ∨ x.holds = h) : x.Synced waits h { x with holds := h } where
  frame := rfl
  holds := rfl
  kept _ := rfl
  gains hw hs he hh := by
    obtain e | e := hd hw hs
    · rw [e] at hh
      cases hh
    · rw [← e, he] at hh
      cases hh
  goes _ hs _ := hs
  returns hw hs he hg hh := by
    obtain e | e := hr hw hs hh
    · rw [e] at hg
      cases hg
    · rw [e, hh] at he
      cases he
  stays hs _ := ⟨hs, fun _ => rfl⟩

theorem dischargingBay_eq (s : State) (b : BayId) : ∃ r t w q, dischargingBay s b = { s.bay b with
    state := .discharging, sustained := 0, participant := true, grant := 0, command := 0
    rateLimit := r, thermalLimit := t, wanted := w, request := q } := by
  unfold dischargingBay
  dsimp only
  split
  · exact ⟨_, _, _, _, rfl⟩
  · exact ⟨_, _, _, _, rfl⟩

/-- The bay that has entered DISCHARGING, against what it was. -/
theorem bay_enterDischarging_eq (s : State) (b : BayId) : ∃ r t w q g c, (enterDischarging s b).bay b = { s.bay b with
    state := .discharging, sustained := 0, participant := true, grant := g, command := c
    rateLimit := r, thermalLimit := t, wanted := w, request := q } := by
  obtain ⟨r, t, w, q, e⟩ := dischargingBay_eq s b
  have h := bay_enterDischarging s b
  dsimp only at h
  rw [e] at h
  exact ⟨_, _, _, _, _, _, h⟩

theorem othersRegranted_enterDischarging (s : State) (b : BayId) : OthersRegranted b s (enterDischarging s b) := by
  rw [enterDischarging_eq]
  exact ((othersRegranted_putBay s b _).trans (othersRegranted_regrant _ b)).trans (othersRegranted_putBay _ b _)

/-- `setHolds`, its outcomes by name (R43, R155). -/
theorem setHolds_cases (s : State) (b : BayId) (h : Holds) :
    ((s.bay b).holds = h ∧ setHolds s b h = s)
    ∨ ((s.bay b).holds ≠ h ∧ s.awaiting b = false ∧ (s.bay b).state = .discharging ∧ h.isEmpty = false
        ∧ setHolds s b h = putApart s b { s.bay b with holds := h, state := .held })
    ∨ ((s.bay b).holds ≠ h ∧ s.awaiting b = false ∧ (s.bay b).state = .held ∧ h.isEmpty = true ∧ (s.bay b).sense = .good
        ∧ setHolds s b h = enterDischarging (putBay s b { s.bay b with holds := h, block := none }) b)
    ∨ ((s.awaiting b = false → (s.bay b).state = .discharging → h.isEmpty = true)
        ∧ (s.awaiting b = false → (s.bay b).state = .held → h.isEmpty = true → (s.bay b).sense = .lost)
        ∧ setHolds s b h = putBay s b { s.bay b with holds := h }) := by
  unfold setHolds
  dsimp only
  by_cases hh : (s.bay b).holds = h
  · exact .inl ⟨hh, if_pos hh⟩
  rw [if_neg hh]
  cases hw : s.awaiting b with
  | true => exact .inr (.inr (.inr ⟨nofun, nofun, rfl⟩))
  | false =>
    rw [if_neg Bool.false_ne_true]
    by_cases hd : (s.bay b).state = .discharging ∧ h.isEmpty = false
    · exact .inr (.inl ⟨hh, rfl, hd.1, hd.2, if_pos (by simp [hd])⟩)
    rw [if_neg (by simpa using hd)]
    by_cases hr : (s.bay b).state = .held ∧ h.isEmpty = true ∧ (s.bay b).sense = .good
    · exact .inr (.inr (.inl ⟨hh, rfl, hr.1, hr.2.1, hr.2.2, if_pos (by simp [hr])⟩))
    rw [if_neg (by simpa [and_assoc] using hr)]
    refine .inr (.inr (.inr ⟨fun _ hs => ?_, fun _ hs he => ?_, rfl⟩))
    · simpa [hs] using hd
    · cases hsense : (s.bay b).sense with
      | lost => rfl
      | good => exact absurd ⟨hs, he, hsense⟩ hr

theorem othersRegranted_setHolds (s : State) (b : BayId) (h : Holds) : OthersRegranted b s (setHolds s b h) := by
  obtain ⟨-, e⟩ | ⟨-, -, -, -, e⟩ | ⟨-, -, -, -, -, e⟩ | ⟨-, -, e⟩ := setHolds_cases s b h <;> rw [e]
  · exact fun c _ => .refl _
  · exact othersRegranted_putApart s b _
  · exact (othersRegranted_putBay s b _).trans (othersRegranted_enterDischarging _ b)
  · exact othersRegranted_putBay s b _

theorem synced_setHolds (s : State) (b : BayId) (h : Holds) : (s.bay b).Synced (s.awaiting b) h ((setHolds s b h).bay b) := by
  obtain ⟨hh, e⟩ | ⟨hne, hw, hs, he, e⟩ | ⟨hne, hw, hs, he, hg, e⟩ | ⟨hd, hr, e⟩ := setHolds_cases s b h
  · rw [e]
    have S := synced_holds (waits := s.awaiting b) (h := h) (x := s.bay b) (fun _ _ => .inr hh) (fun _ _ _ => .inr hh)
    rw [← hh] at S ⊢
    exact S
  · rw [e, bay_putApart, apart_eq]
    exact {
      frame := rfl
      holds := rfl
      kept := by simp [hw, hs, hne]
      gains := fun _ _ _ _ => ⟨rfl, rfl, rfl⟩
      goes := by simp [he]
      returns := by simp [hs]
      stays := by simp [hs] }
  · obtain ⟨r, t, w, q, g, c, ey⟩ := bay_enterDischarging_eq (putBay s b { s.bay b with holds := h, block := none }) b
    rw [bay_putBay] at ey
    rw [e, ey]
    exact {
      frame := rfl
      holds := rfl
      kept := by simp [hw, hs, hne]
      gains := by simp [hs]
      goes := by simp [hs]
      returns := fun _ _ _ _ _ => ⟨rfl, rfl, rfl⟩
      stays := by simp [he, hg] }
  · rw [e, bay_putBay]
    exact synced_holds (fun hw hs => .inl (hd hw hs)) (fun hw hs he => .inl (hr hw hs he))

/-! ### Every bay takes its hold reasons (R42, R110) -/

/-- A bay that waits for a held event goes on waiting where its pack and the events held stay. -/
theorem awaiting_of {s t : State} {b : BayId} (hh : t.held = s.held) (hp : (t.bay b).pack = (s.bay b).pack) :
    t.awaiting b = s.awaiting b := by
  rw [State.awaiting, State.awaiting, hh, hp]

theorem Bay.Regranted.pack {x y : Bay} (h : x.Regranted y) : y.pack = x.pack := by rw [h.frame]

theorem Bay.Synced.pack {waits : Bool} {h : Holds} {x y : Bay} (S : x.Synced waits h y) : y.pack = x.pack := by rw [S.frame]

/-- What a bay takes from its sources reads its own set and settings, the line, the effect set and the inputs. -/
theorem holdsFrom_of {s t : State} {b : BayId} (h : BaysLinkOnly s t) (R : (s.bay b).Regranted (t.bay b)) :
    holdsFrom t b = holdsFrom s b := by
  have hholds : (t.bay b).holds = (s.bay b).holds := by rw [R.frame]
  have hsettings : (t.bay b).settings = (s.bay b).settings := by rw [R.frame]
  obtain ⟨v, l, rfl⟩ := h
  rw [holdsFrom, hholds, hsettings]
  rfl

section SyncHolds

variable {l : List BayId}

theorem regranted_foldl_setHolds {b : BayId} (hb : b ∉ l) (s : State) :
    (s.bay b).Regranted ((l.foldl (fun s b => setHolds s b (holdsFrom s b)) s).bay b) := by
  induction l generalizing s with
  | nil => exact .refl _
  | cons a t ih =>
    obtain ⟨ha, ht⟩ : b ≠ a ∧ b ∉ t := by simpa using hb
    exact (othersRegranted_setHolds s a _ b ha).trans (ih ht _)

theorem synced_foldl_setHolds (hl : l.Nodup) {b : BayId} (hb : b ∈ l) (s : State) :
    (s.bay b).Synced (s.awaiting b) (holdsFrom s b) ((l.foldl (fun s b => setHolds s b (holdsFrom s b)) s).bay b) := by
  induction l generalizing s with
  | nil => cases hb
  | cons a t ih =>
    obtain ⟨ha, ht⟩ := List.nodup_cons.1 hl
    by_cases e : b = a
    · subst e
      exact (synced_setHolds s b _).then_regrant (regranted_foldl_setHolds ha _)
    · have hbt : b ∈ t := (List.mem_cons.1 hb).resolve_left e
      have hu := baysLinkOnly_setHolds s a (holdsFrom s a)
      have R := othersRegranted_setHolds s a (holdsFrom s a) b e
      have S := ih ht hbt (setHolds s a (holdsFrom s a))
      rw [awaiting_of hu.held R.pack, holdsFrom_of hu R] at S
      exact S.after_regrant R

end SyncHolds

theorem synced_syncHolds (s : State) (b : BayId) : (s.bay b).Synced (s.awaiting b) (holdsFrom s b) ((syncHolds s).bay b) :=
  synced_foldl_setHolds allBays_nodup (mem_allBays b) s

/-! ### A bay through one change of its set or two, in the words of the statements -/

/-- What `BaysFollow` says of one bay but for its set. -/
structure Bay.Follows (waits : Bool) (x y : Bay) : Prop where
  frame : y = { x with
    state := y.state, holds := y.holds, block := y.block, sustained := y.sustained, command := y.command
    participant := y.participant, request := y.request, grant := y.grant, rateLimit := y.rateLimit
    thermalLimit := y.thermalLimit, wanted := y.wanted }
  kept : waits = true ∨ (x.state ≠ .discharging ∧ x.state ≠ .held) →
    y = { x with holds := y.holds, grant := y.grant, command := y.command, sustained := y.sustained }
  gains : waits = false → x.state = .discharging → x.holds.isEmpty = true → y.holds.isEmpty = false →
    y.state = .held ∧ y.command = 0 ∧ y.participant = false
  goes : waits = false → x.state = .discharging → y.holds.isEmpty = true → y.state = .discharging
  returns : waits = false → x.state = .held → x.holds.isEmpty = false → x.sense = .good → y.holds.isEmpty = true →
    y.state = .discharging ∧ y.participant = true ∧ y.block = none
  stays : x.state = .held → (y.holds.isEmpty = false ∨ x.sense = .lost) → y.state = .held

section Follows

variable {waits : Bool} {h k : Holds} {x y z : Bay}

theorem Bay.Synced.follows (S : x.Synced waits h y) : x.Follows waits y where
  frame := S.frame
  kept hk := S.kept (hk.imp_right .inl)
  gains hw hs he hh := S.gains hw hs he (S.holds ▸ hh)
  goes hw hs hh := S.goes hw hs (S.holds ▸ hh)
  returns hw hs he hg hh := S.returns hw hs he hg (S.holds ▸ hh)
  stays hs hh := (S.stays hs (S.holds ▸ hh)).1

theorem holds_eq_of_isEmpty {h k : Holds} (hh : h.isEmpty = true) (hk : k.isEmpty = true) : h = k := by
  obtain ⟨a, b, c, d, e⟩ := h
  obtain ⟨a', b', c', d', e'⟩ := k
  simp only [Holds.isEmpty, Bool.not_eq_true', Bool.or_eq_false_iff] at hh hk
  simp [hh, hk]

/-- A HELD bay after a change of its set is HELD, or discharges with its set empty and no event waited for. -/
theorem Bay.Synced.held_or (S : x.Synced waits h y) (hs : x.state = .held) :
    y.state = .held ∨ (waits = false ∧ y.state = .discharging ∧ y.holds.isEmpty = true) := by
  by_cases hstay : h.isEmpty = false ∨ x.sense = .lost
  · exact .inl (S.stays hs hstay).1
  rw [not_or, Bool.not_eq_false] at hstay
  obtain ⟨hempty, hsense⟩ := hstay
  have hgood : x.sense = .good := by
    cases e : x.sense with
    | good => rfl
    | lost => exact absurd e hsense
  have hyh : y.holds.isEmpty = true := S.holds ▸ hempty
  cases hw : waits with
  | true =>
    rw [S.kept (.inl hw)]
    exact .inl hs
  | false =>
    cases he : x.holds.isEmpty with
    | true =>
      rw [S.kept (.inr (.inr (holds_eq_of_isEmpty he hempty)))]
      exact .inl hs
    | false => exact .inr ⟨rfl, (S.returns hw hs he hgood hempty).1, hyh⟩

/-- Two changes one after the other, the second to a set that is not empty. -/
theorem Bay.Synced.follows_trans (S₁ : x.Synced waits h y) (S₂ : y.Synced waits k z) (hk : k.isEmpty = false) : x.Follows waits z := by
  have hzh : z.holds.isEmpty = false := S₂.holds ▸ hk
  have hsense : y.sense = x.sense := by rw [S₁.frame]
  have notEmpty {P : Prop} (he : z.holds.isEmpty = true) : P := by
    rw [hzh] at he
    cases he
  refine ⟨?_, fun hkept => ?_, fun hw hs he _ => ?_, fun _ _ he => notEmpty he, fun _ _ _ _ he => notEmpty he, fun hs _ => ?_⟩
  · conv_lhs => rw [S₂.frame, S₁.frame]
  · have e₁ := S₁.kept (hkept.imp_right .inl)
    have hstate : y.state = x.state := by rw [e₁]
    have e₂ := S₂.kept (hkept.imp_right fun hs => .inl (hstate ▸ hs))
    conv_lhs => rw [e₂, e₁]
  · cases hh : h.isEmpty with
    | true => exact S₂.gains hw (S₁.goes hw hs hh) (S₁.holds ▸ hh) hk
    | false =>
      obtain ⟨hstate, hcommand, hp⟩ := S₁.gains hw hs he hh
      obtain ⟨hzs, hsame⟩ := S₂.stays hstate (.inl hk)
      have e := hsame hp
      exact ⟨hzs, by rw [e]; exact hcommand, by rw [e]; exact hp⟩
  · obtain hy | ⟨hw, hy, hyh⟩ := S₁.held_or hs
    · exact (S₂.stays hy (.inl hk)).1
    · exact (S₂.gains hw hy hyh hk).1

end Follows

/-- `BaysFollow`, bay by bay. -/
theorem baysFollow_of {s t : State} (h : ∀ b, (s.bay b).Follows (s.awaiting b) (t.bay b) ∧ (t.bay b).holds = { (s.bay b).holds with
    line := modeHolds t.line.mode
    zone := ((s.bay b).settings.map (fun v => t.effect.marks[v.zone])).getD false
    cooling := !t.coolingOk }) : BaysFollow s t := by
  intro b
  obtain ⟨F, hh⟩ := h b
  exact ⟨F.frame, hh, F.kept, F.gains, F.goes, F.returns, F.stays⟩

end Sys2Proof.Machine
end

section
/-! A change of line mode, and SET_MODE and RESUME (O17, O18). -/

namespace Sys2Proof.Machine

/-! ### What a feeder that follows leaves of the events held and the packs -/

/-- A FEEDING event submitted changes a pack's entry and the Link Port's lists, or joins the events held. -/
theorem submit_feeding_cases (s : State) (t : Tag) :
    (submit s (.feeding t)).1 = s ∨ (∃ p, (submit s (.feeding t)).1 = putPack s p)
    ∨ (submit s (.feeding t)).1 = { s with held := s.held ++ [.feeding t] } := by
  unfold submit
  dsimp only [applyEvent]
  split
  · unfold takeFeeding
    split
    · exact .inl rfl
    · exact .inr (.inl ⟨_, rfl⟩)
  · exact .inr (.inr rfl)

/-- A feeder event held is none that a bay waits for. -/
theorem awaiting_append_feeding (s : State) (t : Tag) (b : BayId) :
    State.awaiting { s with held := s.held ++ [.feeding t] } b = s.awaiting b := by
  unfold State.awaiting
  dsimp only
  rw [List.any_append]
  exact Bool.or_false _

/-- The tables as a look for a feed leaves them: as many packs, and each bay waiting where it waited. -/
structure FeedLooked (s t : State) : Prop where
  packs : t.packs.length = s.packs.length
  awaiting : ∀ b, t.awaiting b = s.awaiting b

theorem FeedLooked.refl (s : State) : FeedLooked s s := ⟨rfl, fun _ => rfl⟩

theorem FeedLooked.trans {s t u : State} (h₁ : FeedLooked s t) (h₂ : FeedLooked t u) : FeedLooked s u :=
  ⟨h₂.packs.trans h₁.packs, fun b => (h₂.awaiting b).trans (h₁.awaiting b)⟩

theorem feedLooked_putFeeder (s : State) (x : Feeder) : FeedLooked s (putFeeder s x) := by
  rw [putFeeder_eq]
  exact ⟨rfl, fun _ => rfl⟩

theorem feedLooked_submit (s : State) (t : Tag) : FeedLooked s (submit s (.feeding t)).1 := by
  obtain e | ⟨p, e⟩ | e := submit_feeding_cases s t <;> rw [e]
  · exact .refl s
  · exact ⟨by simp [putPack, State.setPack, State.listPack], fun _ => rfl⟩
  · exact ⟨rfl, awaiting_append_feeding s t⟩

theorem feedLooked_tryFeed (s : State) : FeedLooked s (tryFeed s) := by
  obtain h | ⟨t, h | h⟩ := tryFeed_cases s <;> rw [h]
  · exact .refl s
  · exact feedLooked_submit s t
  · exact (feedLooked_submit s t).trans (feedLooked_putFeeder _ _)

theorem feedLooked_updateFeeder (s : State) : FeedLooked s (updateFeeder s) := by
  obtain ⟨st, h | h⟩ := updateFeeder_cases s <;> rw [h]
  · exact feedLooked_putFeeder _ _
  · exact (feedLooked_putFeeder _ _).trans (feedLooked_tryFeed _)

theorem feedLooked_putInterlock (s : State) (x : Interlock) : FeedLooked s (putInterlock s x) := by
  rw [putInterlock_eq]
  exact ⟨rfl, fun _ => rfl⟩

theorem feedLooked_updatePermission (s : State) : FeedLooked s (updatePermission s) := by
  unfold updatePermission
  dsimp only
  split
  · exact (feedLooked_putInterlock s _).trans (feedLooked_updateFeeder _)
  · exact feedLooked_putInterlock s _

theorem feedLooked_of_baysLinkOnly {s t : State} (h : BaysLinkOnly s t) (hp : ∀ b, (t.bay b).pack = (s.bay b).pack) : FeedLooked s t :=
  ⟨congrArg List.length h.packs, fun b => awaiting_of h.held (hp b)⟩

theorem feedLooked_syncHolds (s : State) : FeedLooked s (syncHolds s) :=
  feedLooked_of_baysLinkOnly (baysLinkOnly_syncHolds s) fun b => (synced_syncHolds s b).pack

/-! ### Run permission formed afresh (R133) -/

/-- The interlock `x` once run permission has been formed afresh to `met`. -/
def Interlock.permitted (x : Interlock) (met : Bool) : Interlock :=
  if x.permission = true ∧ met = false ∧ (x.state = .starting ∨ x.state = .running) then
    { x with state := .stopping, permission := false, startTimer := none, rundownTimer := some 60000 }
  else { x with permission := met }

theorem permitted_permission (x : Interlock) (met : Bool) : (x.permitted met).permission = met := by
  unfold Interlock.permitted
  split
  · next h => exact h.2.1.symm
  · rfl

theorem interlock_updatePermission_permitted (s : State) : (updatePermission s).interlock = s.interlock.permitted s.runConditions.met :=
  interlock_updatePermission s

theorem runFollows_of_permitted {s t : State} (h : t.interlock = s.interlock.permitted t.runConditions.met) : RunFollows s t := by
  refine ⟨h ▸ permitted_permission _ _, fun hp hm hs => ?_⟩
  rw [h, Interlock.permitted, if_pos ⟨hp, hm, hs⟩]

/-- With permission given, or a shredder that does not run, permission alone changes. -/
theorem permitted_eq {x : Interlock} {met : Bool} (h : met = true ∨ (x.state ≠ .starting ∧ x.state ≠ .running)) :
    x.permitted met = { x with permission := met } := by
  refine if_neg ?_
  rintro ⟨-, hm, hs⟩
  obtain h | ⟨h₁, h₂⟩ := h
  · rw [hm] at h
    cases h
  · exact hs.elim h₁ h₂

/-- Formed afresh twice, the second time to not met. -/
theorem permitted_twice {x : Interlock} (hx : x.permission = true) (met : Bool) : (x.permitted met).permitted false = x.permitted false := by
  cases met with
  | true =>
    have e : x.permitted true = x := (permitted_eq (.inl rfl)).trans (by rw [← hx])
    rw [e]
  | false =>
    have hp := permitted_permission x false
    generalize x.permitted false = y at hp
    have e : y.permitted false = { y with permission := false } := if_neg fun h => by rw [hp] at h; cases h.1
    rw [e, ← hp]

theorem runFollows_of_twice {s t : State} {met : Bool} (h : t.interlock = (s.interlock.permitted met).permitted t.runConditions.met)
    (hm : t.runConditions.met = false) : RunFollows s t := by
  refine ⟨h ▸ permitted_permission _ _, fun hp _ hs => ?_⟩
  rw [h, hm, permitted_twice hp, Interlock.permitted, if_pos ⟨hp, rfl, hs⟩]

/-! ### A change of line mode (R144) -/

/-- What mode `m` and the other sources give bay `b` for its set. -/
def State.holdsIn (s : State) (m : LineMode) (b : BayId) : Holds := { (s.bay b).holds with
  line := modeHolds m
  zone := ((s.bay b).settings.map (fun v => s.effect.marks[v.zone])).getD false
  cooling := !s.coolingOk }

theorem holdsFrom_eq (s : State) (b : BayId) : holdsFrom s b = s.holdsIn s.line.mode b := by
  unfold holdsFrom State.holdsIn
  cases (s.bay b).settings <;> rfl

theorem interlock_updateFeeder (s : State) : (updateFeeder s).interlock = s.interlock := interlock_of_plant (updateFeeder_plant s)

theorem runConditions_updateFeeder (s : State) : (updateFeeder s).runConditions = s.runConditions :=
  runConditions_of_plant (updateFeeder_plant s) (updateFeeder_core s)

theorem bay_of_bays {s t : State} (h : t.bays = s.bays) (b : BayId) : t.bay b = s.bay b := by simp only [State.bay, h]

/-- Mode and cause are `m` and `c`, and the items of R144 have gone to the bays, the interlock and the feeder. -/
structure ModeSet (s t : State) (m : LineMode) (c : Option HoldCause) : Prop where
  bays : ∀ b, (s.bay b).Synced (s.awaiting b) (s.holdsIn m b) (t.bay b)
  interlock : t.interlock = s.interlock.permitted t.runConditions.met
  reasons : t.feeder.reasons = t.blockReasons
  looked : FeedLooked s t
  core : t.core = s.core
  line : t.line = { s.line with mode := m, cause := c }
  frame : t = { s with
    packs := t.packs, held := t.held, bays := t.bays, line := t.line, interlock := t.interlock, feeder := t.feeder, link := t.link }

/-- Run permission and the block reasons formed afresh leave the rest alone. -/
theorem followed_frame (w : State) : ∃ p h i f l,
    updateFeeder (updatePermission w) = { w with packs := p, held := h, interlock := i, feeder := f, link := l } := by
  obtain ⟨_, _, _, _, _, e₁⟩ := updatePermission_frame w
  obtain ⟨_, _, _, _, e₂⟩ := (feederOnly_iff _ _).1 (feederOnly_updateFeeder (updatePermission w))
  exact ⟨_, _, _, _, _, by rw [e₂, e₁]⟩

theorem feedLooked_followed (w : State) : FeedLooked w (updateFeeder (updatePermission w)) :=
  (feedLooked_updatePermission w).trans (feedLooked_updateFeeder _)

/-- The interlock that follows. -/
theorem interlock_followed (w : State) : (updateFeeder (updatePermission w)).interlock
    = w.interlock.permitted (updateFeeder (updatePermission w)).runConditions.met := by
  rw [interlock_updateFeeder, runConditions_updateFeeder, interlock_updatePermission_permitted, runConditions_updatePermission]

/-- The line in mode `m` with cause `c`, LINE pending where either is new, before the items of R144. -/
def State.inMode (s : State) (m : LineMode) (c : Option HoldCause) : State :=
  State.markIf { s with line := { s.line with mode := m, cause := c } } (!(s.line.mode = m && s.line.cause = c)) .line

theorem inMode_eq (s : State) (m : LineMode) (c : Option HoldCause) :
    s.inMode m c = { s with line := { s.line with mode := m, cause := c }, link := (s.inMode m c).link } := markIf_eq _ _ _

theorem setLineMode_eq (s : State) (m : LineMode) (c : Option HoldCause) :
    setLineMode s m c = updateFeeder (updatePermission (syncHolds (s.inMode m c))) := rfl

theorem setLineMode_frame (s : State) (m : LineMode) (c : Option HoldCause) : ∃ p h i f l, setLineMode s m c = { s with
    packs := p, held := h, bays := (syncHolds (s.inMode m c)).bays, line := { s.line with mode := m, cause := c }
    interlock := i, feeder := f, link := l } := by
  have hsync := (baysLinkOnly_syncHolds (s.inMode m c)).eq
  have hmode := inMode_eq s m c
  rw [setLineMode_eq]
  generalize syncHolds (s.inMode m c) = w at hsync
  generalize s.inMode m c = u at hsync hmode
  obtain ⟨p, h, i, f, l, e⟩ := followed_frame w
  rw [hmode] at hsync
  refine ⟨p, h, i, f, l, e.trans ?_⟩
  rw [hsync]

theorem setLineMode_set (s : State) (m : LineMode) (c : Option HoldCause) : ModeSet s (setLineMode s m c) m c := by
  obtain ⟨p, h, i, f, l, e⟩ := setLineMode_frame s m c
  have hu := inMode_eq s m c
  have hlooked : FeedLooked s (s.inMode m c) := by
    rw [hu]
    exact ⟨rfl, fun _ => rfl⟩
  have hfrom (b : BayId) : holdsFrom (s.inMode m c) b = s.holdsIn m b := by
    rw [holdsFrom_eq, hu]
    rfl
  refine ⟨fun b => ?_, ?_, ?_, ?_, setLineMode_core s m c, by rw [e], by rw [e]⟩
  · have S := synced_syncHolds (s.inMode m c) b
    have hb : (setLineMode s m c).bay b = (syncHolds (s.inMode m c)).bay b := bay_of_bays (by rw [e]) b
    have hub : (s.inMode m c).bay b = s.bay b := bay_of_bays (by rw [hu]) b
    rw [hub, hfrom, hlooked.awaiting, ← hb] at S
    exact S
  · have hi : (syncHolds (s.inMode m c)).interlock = s.interlock := (interlock_of_plant (syncHolds_plant _)).trans (by rw [hu])
    rw [setLineMode_eq, interlock_followed, hi]
  · rw [setLineMode_eq]
    exact reasons_updateFeeder _
  · rw [setLineMode_eq]
    exact hlooked.trans ((feedLooked_syncHolds _).trans (feedLooked_followed _))

section ModeSet

variable {s t u : State} {m n : LineMode} {c d : Option HoldCause}

theorem ModeSet.effect (T : ModeSet s t m c) : t.effect = s.effect := by rw [T.frame]

theorem ModeSet.level (T : ModeSet s t m c) (i : InputId) : t.level i = s.level i := by rw [State.level, T.line]; rfl

theorem ModeSet.holdsIn (T : ModeSet s t m c) (n : LineMode) (b : BayId) : t.holdsIn n b = { s.holdsIn m b with line := modeHolds n } := by
  have hholds := (T.bays b).holds
  have hsettings : (t.bay b).settings = (s.bay b).settings := by rw [(T.bays b).frame]
  have hcooling : t.coolingOk = s.coolingOk := T.level .coolingOk
  rw [State.holdsIn, hholds, hsettings, hcooling, T.effect]
  rfl

/-- Each bay's set as the sources of the state reached give it. -/
theorem ModeSet.holds (T : ModeSet s t m c) (b : BayId) : (t.bay b).holds = { (s.bay b).holds with
    line := modeHolds t.line.mode
    zone := ((s.bay b).settings.map (fun v => t.effect.marks[v.zone])).getD false
    cooling := !t.coolingOk } := by
  have hcooling : t.coolingOk = s.coolingOk := T.level .coolingOk
  rw [(T.bays b).holds, hcooling, T.effect, T.line]
  rfl

theorem ModeSet.baysFollow (T : ModeSet s t m c) : BaysFollow s t := baysFollow_of fun b => ⟨(T.bays b).follows, T.holds b⟩

/-- The mode condition of run permission in the state reached. -/
theorem ModeSet.unmet (T : ModeSet s t m c) (hm : m ≠ .production) (hd : m ≠ .drain) : t.runConditions.met = false := by
  have hmode : t.runConditions.mode = false := by
    rw [Bool.eq_false_iff, Ne, runConditions_mode_iff, T.line]
    exact not_or.2 ⟨hm, hd⟩
  rw [RunConditions.met, hmode]
  simp

/-- A further change to a mode that holds the bays and stops the shredder. -/
theorem ModeSet.trans_baysFollow (T : ModeSet s t m c) (U : ModeSet t u n d) (hn : modeHolds n = true) : BaysFollow s u := by
  refine baysFollow_of fun b => ⟨?_, ?_⟩
  · have S := U.bays b
    rw [T.looked.awaiting] at S
    exact (T.bays b).follows_trans S (by rw [T.holdsIn, hn]; rfl)
  · have hcooling : u.coolingOk = s.coolingOk := (U.level .coolingOk).trans (T.level .coolingOk)
    rw [(U.bays b).holds, T.holdsIn, hcooling, U.effect, T.effect, U.line]
    rfl

end ModeSet

end Sys2Proof.Machine
end

section
namespace Sys2Proof.Machine

/-! ### SET_MODE and RESUME (R145 to R148) -/

/-- What the statements about line mode say of the state reached, once the mode and cause in it are known. -/
structure ModeReached (s t : State) : Prop where
  bays : BaysFollow s t
  run : RunFollows s t
  unstopped : t.runConditions.met = true ∨ (s.interlock.state ≠ .starting ∧ s.interlock.state ≠ .running) →
    t.interlock = { s.interlock with permission := t.runConditions.met }
  reasons : t.feeder.reasons = t.blockReasons
  core : t.core = s.core
  line : t.line = { s.line with mode := t.line.mode, cause := t.line.cause }
  frame : t = { s with
    packs := t.packs, held := t.held, bays := t.bays, line := t.line, interlock := t.interlock, feeder := t.feeder, link := t.link }

section Reached

variable {s t u : State} {m n : LineMode} {c d : Option HoldCause}

theorem ModeSet.mode (T : ModeSet s t m c) : t.line.mode = m := by rw [T.line]

theorem ModeSet.cause (T : ModeSet s t m c) : t.line.cause = c := by rw [T.line]

theorem ModeSet.reached (T : ModeSet s t m c) : ModeReached s t where
  bays := T.baysFollow
  run := runFollows_of_permitted T.interlock
  unstopped h := by rw [T.interlock, permitted_eq h]
  reasons := T.reasons
  core := T.core
  line := by rw [T.line]
  frame := T.frame

/-- Two changes one after the other, the second to a mode that holds the bays and stops the shredder. -/
theorem ModeSet.trans_reached (T : ModeSet s t m c) (U : ModeSet t u n d) (hn : modeHolds n = true) (hr : modeRuns n = false) :
    ModeReached s u where
  bays := T.trans_baysFollow U hn
  run := by
    have hmet : u.runConditions.met = false := by
      have hmode : u.runConditions.mode = false := by rw [State.runConditions, U.line]; exact hr
      rw [RunConditions.met, hmode]
      simp
    exact runFollows_of_twice (met := t.runConditions.met) (by rw [U.interlock, T.interlock]) hmet
  unstopped h := by
    have hmet : u.runConditions.met = false := by
      have hmode : u.runConditions.mode = false := by rw [State.runConditions, U.line]; exact hr
      rw [RunConditions.met, hmode]
      simp
    have hs : s.interlock.state ≠ .starting ∧ s.interlock.state ≠ .running := h.resolve_left (by simp [hmet])
    have ht : t.interlock = { s.interlock with permission := t.runConditions.met } := T.interlock.trans (permitted_eq (.inr hs))
    have hts : t.interlock.state ≠ .starting ∧ t.interlock.state ≠ .running := by rw [ht]; exact hs
    rw [U.interlock, permitted_eq (.inr hts), ht]
  reasons := U.reasons
  core := U.core.trans T.core
  line := by rw [U.line, T.line]
  frame := by
    have h₁ := T.frame
    have h₂ := U.frame
    generalize u.packs = p, u.held = h, u.bays = v, u.line = x, u.interlock = i, u.feeder = f, u.link = l at h₂ ⊢
    rw [h₂, h₁]

end Reached

/-- The change of mode in full: the mode asked for, or the further change of R146 or R147. -/
theorem changeMode_reached {s : State} {g : LineMode} (hrow : modeRow s.line.mode g = true) :
    ∃ u, changeMode s g = (u, .formed ⟨.ok, .mode u.line.mode⟩) ∧ ModeReached s u
      ∧ u.line.mode = (if g = .drain ∧ s.packs = [] then .standby
          else if s.line.mode = .maintenance ∧ s.doorClosed = false then .safeHold else g)
      ∧ u.line.cause = if u.line.mode = .safeHold then some .door else none := by
  have T := setLineMode_set s g none
  have hpacks : (setLineMode s g none).packs.isEmpty = s.packs.isEmpty := by
    have h := T.looked.packs
    rw [Bool.eq_iff_iff, List.isEmpty_iff, List.isEmpty_iff, ← List.length_eq_zero_iff, ← List.length_eq_zero_iff, h]
  have hdoor : (setLineMode s g none).doorClosed = s.doorClosed := T.level .doorClosed
  have hchange : changeMode s g =
      let t := setLineMode s g none
      let t := if decide (g = .drain) && s.packs.isEmpty then setLineMode t .standby none else t
      let t := if decide (s.line.mode = .maintenance) && !t.doorClosed then enterSafeHold t .door else t
      (t, .formed ⟨.ok, .mode t.line.mode⟩) := by
    rw [← hpacks]
    rfl
  generalize setLineMode s g none = t at T hdoor hchange
  rw [hchange]
  clear hchange hpacks
  by_cases hd : g = .drain ∧ s.packs = []
  · obtain ⟨rfl, hp⟩ := hd
    have hmain : s.line.mode ≠ .maintenance := fun e => by rw [e] at hrow; cases hrow
    have U := setLineMode_set t .standby none
    refine ⟨setLineMode t .standby none, ?_, T.trans_reached U rfl rfl, ?_, ?_⟩
    · simp only [hp, List.isEmpty_nil, decide_true, Bool.and_self, if_true, hmain, decide_false, Bool.false_and, Bool.false_eq_true,
        if_false]
    · rw [U.mode, if_pos ⟨rfl, hp⟩]
    · rw [U.mode, U.cause, if_neg (by nofun)]
  · have hdrain : (decide (g = .drain) && s.packs.isEmpty) = false := by simpa using hd
    rw [if_neg hd]
    simp only [hdrain, hdoor, Bool.false_eq_true, if_false]
    by_cases hm : s.line.mode = .maintenance ∧ s.doorClosed = false
    · have hg : g = .standby := by
        have h := hm.1
        rw [h] at hrow
        cases g <;> simp_all [modeRow]
      subst hg
      have U := setLineMode_set t .safeHold (some .door)
      have hsafe : enterSafeHold t .door = setLineMode t .safeHold (some .door) := if_neg (by rw [T.mode]; nofun)
      refine ⟨setLineMode t .safeHold (some .door), ?_, T.trans_reached U rfl rfl, ?_, ?_⟩
      · simp only [hm.1, hm.2, decide_true, Bool.not_false, Bool.and_self, if_true, hsafe]
      · rw [U.mode, if_pos hm]
      · rw [U.mode, U.cause, if_pos rfl]
    · have hmain : (decide (s.line.mode = .maintenance) && !s.doorClosed) = false := by simpa using hm
      have hg : g ≠ .safeHold := by
        rintro rfl
        cases hs : s.line.mode <;> simp [hs, modeRow] at hrow
      refine ⟨t, ?_, T.reached, ?_, ?_⟩
      · simp only [hmain, Bool.false_eq_true, if_false]
      · rw [T.mode, if_neg hm]
      · rw [T.mode, T.cause, if_neg hg]

/-- A refusal of SET_MODE for the condition of its row (R145). -/
def modeRefusal (s : State) : LineMode → Stage
  | .maintenance => .formed ⟨.wrongState, .notStopped s.interlock.state s.feeder.state⟩
  | _ => .formed ⟨.notConfigured, .notValid s.notValid⟩

/-- SET_MODE by the rows of its table. -/
theorem reqSetMode_eq {s : State} {v : Byte} {g : LineMode} (hv : modeOf v = some g) :
    reqSetMode s v = if modeRow s.line.mode g then (if s.modeCondition g then changeMode s g else (s, modeRefusal s g))
      else (s, refuse .wrongState) := by
  unfold reqSetMode
  rw [hv]
  cases hm : s.line.mode <;> cases g <;> simp [modeRow, State.modeCondition, modeRefusal, hm]

/-- The row of a request of the line whose owner reaches another mode. -/
theorem mode_row {s u : State} {m : Byte} {k : Request} {st : Stage} (R : ModeReached (s.withEntry m k .untaken) u) :
    BaysFollow s (u.withStage st) ∧ RunFollows s (u.withStage st)
    ∧ ((u.withStage st).runConditions.met = true ∨ (s.interlock.state ≠ .starting ∧ s.interlock.state ≠ .running) →
        (u.withStage st).interlock = { s.interlock with permission := (u.withStage st).runConditions.met })
    ∧ (u.withStage st).feeder.reasons = (u.withStage st).blockReasons ∧ LinkKept s (u.withStage st)
    ∧ u.withStage st = { s with
        packs := (u.withStage st).packs, held := (u.withStage st).held, bays := (u.withStage st).bays, line := (u.withStage st).line
        interlock := (u.withStage st).interlock, feeder := (u.withStage st).feeder, link := (u.withStage st).link } :=
  ⟨R.bays, R.run, R.unstopped, R.reasons, linkKept_row R.core st, congrArg (fun t => t.withStage st) R.frame⟩

/-- Settles O17. -/
theorem setModeTaken : Obligations.SetModeTaken := by
  intro s m v h
  have T : Taken s m (.setMode v) := taken_plain h rfl nofun
  let j := s.withEntry m (.setMode v) .untaken
  refine ⟨fun hv => T.same (c := .setMode m v) rfl rfl ?_, fun g hv => ⟨fun hrow => ?_, fun hrow hg hc => ?_, fun hrow hg hc => ?_,
    fun hrow hc => ?_⟩⟩
  · simp only [runRequest, reqSetMode, hv]
    rfl
  · refine T.same (c := .setMode m v) rfl rfl ((reqSetMode_eq hv).trans (if_neg ?_))
    exact fun e => by simp [State.withEntry, hrow] at e
  · subst hg
    refine T.same (c := .setMode m v) rfl rfl ((reqSetMode_eq hv).trans ?_)
    have hrow' : modeRow j.line.mode .production = true := hrow
    have hc' : j.modeCondition .production = false := hc
    rw [if_pos hrow', hc', if_neg Bool.false_ne_true]
    rfl
  · subst hg
    refine T.same (c := .setMode m v) rfl rfl ((reqSetMode_eq hv).trans ?_)
    have hrow' : modeRow j.line.mode .maintenance = true := hrow
    have hc' : j.modeCondition .maintenance = false := hc
    rw [if_pos hrow', hc', if_neg Bool.false_ne_true]
    rfl
  · have hrow' : modeRow j.line.mode g = true := hrow
    have hc' : j.modeCondition g = true := hc
    obtain ⟨u, hu, R, hmode, hcause⟩ := changeMode_reached hrow'
    have hrun : runRequest j (.setMode v) = (u, .formed ⟨.ok, .mode u.line.mode⟩) := by
      have e := reqSetMode_eq (s := j) hv
      rw [if_pos hrow', if_pos hc', hu] at e
      exact e
    obtain ⟨hbays, hfollow, hunstopped, hreasons, hlink, hframe⟩ := mode_row (st := .formed ⟨.ok, .mode u.line.mode⟩) R
    refine ⟨_, T.finish (c := .setMode m v) rfl rfl hrun, T.queued R.core _, hmode, ?_, hbays, hfollow, hunstopped, hreasons, hlink, hframe⟩
    refine R.line.trans ?_
    rw [hcause]
    rfl

/-- Settles O18. -/
theorem resumeTaken : Obligations.ResumeTaken := by
  intro s m h
  have T : Taken s m .resume := taken_plain h rfl nofun
  let j := s.withEntry m .resume .untaken
  refine ⟨fun hm => T.same (c := .resume m) rfl rfl (if_pos hm), fun hm hc => T.same (c := .resume m) rfl rfl ?_,
    fun hm he hd hl hs => ?_⟩
  · have hc' : j.resumeConditions.met = false := hc
    have hm' : ¬j.line.mode ≠ .safeHold := not_not.2 hm
    change reqResume j = _
    rw [reqResume, if_neg hm', hc', if_neg Bool.false_ne_true]
    rfl
  · have hc : j.resumeConditions.met = true := by
      have hmet : s.resumeConditions.met = true := by simp [ResumeConditions.met, State.resumeConditions, he, hd, hl, hs]
      exact hmet
    have hm' : ¬j.line.mode ≠ .safeHold := not_not.2 hm
    have S := setLineMode_set j .standby none
    have hrun : runRequest j .resume = (setLineMode j .standby none, .formed ⟨.ok, .mode .standby⟩) := by
      change reqResume j = _
      rw [reqResume, if_neg hm', hc, if_pos rfl]
      generalize setLineMode j .standby none = u at S
      dsimp only
      rw [S.mode]
      rfl
    generalize setLineMode j .standby none = u at S hrun
    obtain ⟨hbays, -, -, hreasons, hlink, hframe⟩ := mode_row (st := .formed ⟨.ok, .mode .standby⟩) S.reached
    exact ⟨_, T.finish (c := .resume m) rfl rfl hrun, T.queued S.core _, S.line, hbays, hreasons, hlink, hframe⟩

end Sys2Proof.Machine
end

section
/-! The supply monitor, and the requests that give the chamber and the feed their settings (O20, O56). -/

namespace Sys2Proof.Machine

/-! ### The words of the statements, carried to states that agree on what they read -/

theorem awaiting_congr {s t : State} (hh : t.held = s.held) (hb : t.bays = s.bays) (b : BayId) : t.awaiting b = s.awaiting b :=
  awaiting_of hh (congrArg Bay.pack (bay_of_bays hb b))

theorem BaysFollow.congr {s t s' t' : State} (h : BaysFollow s t) (hs : s'.bays = s.bays) (hh : s'.held = s.held) (ht : t'.bays = t.bays)
    (hm : t'.line.mode = t.line.mode) (he : t'.effect = t.effect) (hi : t'.line.inputs = t.line.inputs) : BaysFollow s' t' := by
  intro b
  have hb := h b
  have hc : t'.coolingOk = t.coolingOk := by simp only [State.coolingOk, State.level, hi]
  rw [bay_of_bays hs b, bay_of_bays ht b, awaiting_congr hh hs b, hm, he, hc]
  exact hb

theorem RunFollows.congr {s t s' t' : State} (h : RunFollows s t) (hs : s'.interlock = s.interlock) (ht : t'.interlock = t.interlock)
    (hc : t'.runConditions = t.runConditions) : RunFollows s' t' := by
  unfold RunFollows
  rw [hs, ht, hc]
  exact h

/-- The block reasons read the mode, the chamber, the interlock, the effect set and the re-settle timer. -/
theorem blockReasons_congr {s t : State} (hm : t.line.mode = s.line.mode) (ha : t.atm = s.atm) (hi : t.interlock = s.interlock)
    (he : t.effect = s.effect) (hf : t.feeder = s.feeder) : t.blockReasons = s.blockReasons := by
  simp only [State.blockReasons, hm, ha, hi, he, hf]

theorem runConditions_congr {s t : State} (hm : t.line.mode = s.line.mode) (ha : t.atm = s.atm) (he : t.effect = s.effect)
    (hi : t.line.inputs = s.line.inputs) : t.runConditions = s.runConditions := by
  simp only [State.runConditions, hm, ha, he, State.estopActive, State.doorClosed, State.level, hi]

/-! ### The feeder's settings, and a feeder in a mode that does not run -/

@[simp] theorem settings_submit_feeding (s : State) (t : Tag) : (submit s (.feeding t)).1.feeder.settings = s.feeder.settings := by simp

theorem settings_tryFeed (s : State) : (tryFeed s).feeder.settings = s.feeder.settings := by
  obtain h | ⟨t, h | h⟩ := tryFeed_cases s <;> rw [h]
  · simp
  · simp [openFeed]

theorem settings_updateFeeder (s : State) : (updateFeeder s).feeder.settings = s.feeder.settings := by
  obtain ⟨st, h | h⟩ := updateFeeder_cases s <;> rw [h]
  · simp
  · rw [settings_tryFeed]
    simp

theorem settings_updatePermission (s : State) : (updatePermission s).feeder.settings = s.feeder.settings := by
  unfold updatePermission
  dsimp only
  split
  · rw [moveInterlock, settings_updateFeeder, putInterlock_eq]
  · rw [putInterlock_eq]

theorem settings_setLineMode (s : State) (m : LineMode) (c : Option HoldCause) :
    (setLineMode s m c).feeder.settings = s.feeder.settings := by
  have hsync := (baysLinkOnly_syncHolds (s.inMode m c)).eq
  rw [setLineMode_eq, settings_updateFeeder, settings_updatePermission, hsync]
  dsimp only
  rw [inMode_eq]

/-- In a mode that does not run the block-reason set is not empty, and no feed is looked for (R137). -/
theorem updateFeeder_stopped {s : State} (h : modeRuns s.line.mode = false) : ∃ x, updateFeeder s = putFeeder s x := by
  have hr : s.blockReasons.isEmpty = false := by simp [Reasons.isEmpty, State.blockReasons, h]
  unfold updateFeeder
  simp only [hr, Bool.false_eq_true, if_false]
  split <;> exact ⟨_, rfl⟩

theorem updatePermission_stopped {s : State} (h : modeRuns s.line.mode = false) : ∃ i f l,
    updatePermission s = { s with interlock := i, feeder := f, link := l } := by
  unfold updatePermission
  dsimp only
  split
  · obtain ⟨x, e⟩ := updateFeeder_stopped (s := putInterlock s { s.interlock with permission := s.runConditions.met }.stop)
      (by rw [putInterlock_eq]; exact h)
    rw [moveInterlock, e, putFeeder_eq, putInterlock_eq]
    exact ⟨_, _, _, rfl⟩
  · exact ⟨_, _, _, putInterlock_eq s _⟩

theorem followed_stopped {s : State} (h : modeRuns s.line.mode = false) : ∃ i f l,
    updateFeeder (updatePermission s) = { s with interlock := i, feeder := f, link := l } := by
  obtain ⟨i, f, l, e⟩ := updatePermission_stopped h
  obtain ⟨x, e'⟩ := updateFeeder_stopped (s := updatePermission s) (by rw [e]; exact h)
  exact ⟨_, _, _, by rw [e', putFeeder_eq, e]⟩

/-- A change to a mode that does not run leaves packs and held events alone. -/
theorem setLineMode_stopped (s : State) {m : LineMode} (h : modeRuns m = false) (c : Option HoldCause) :
    (setLineMode s m c).packs = s.packs ∧ (setLineMode s m c).held = s.held := by
  have hsync := (baysLinkOnly_syncHolds (s.inMode m c)).eq
  have hmode := inMode_eq s m c
  rw [setLineMode_eq]
  generalize syncHolds (s.inMode m c) = w at hsync
  generalize s.inMode m c = u at hsync hmode
  obtain ⟨i, f, l, e⟩ := followed_stopped (s := w) (by rw [hsync, hmode]; exact h)
  rw [e, hsync, hmode]
  exact ⟨rfl, rfl⟩

/-! ### The supply monitor (R151, R152) -/

theorem reportFlushed_eq (s : State) : reportFlushed s = { s with
    line := { s.line with flushDone := (reportFlushed s).line.flushDone }, link := (reportFlushed s).link } := by
  unfold reportFlushed
  split <;> rfl

theorem linkKept_reportFlushed (s : State) : LinkKept s (reportFlushed s) := by
  unfold reportFlushed
  split <;> rfl

/-- In WARNING the flush-done mark is set where the record buffer is empty, and stays otherwise (R152, R167). -/
theorem flushDone_reportFlushed {s : State} (hm : s.line.monitor = .warning) :
    (s.writer.buffer = [] → (reportFlushed s).line.flushDone = true)
    ∧ (s.writer.buffer ≠ [] → (reportFlushed s).line.flushDone = s.line.flushDone) := by
  unfold reportFlushed
  rw [hm]
  refine ⟨fun hb => ?_, fun hb => ?_⟩
  · rw [hb]
    cases hf : s.line.flushDone with
    | true => simp [hf]
    | false => rfl
  · have he : s.writer.buffer.isEmpty = false := by simpa using hb
    rw [he]
    simp

/-- The state in which the monitor has entered WARNING, before SAFE_HOLD. -/
def State.warned (s : State) : State := State.mark { s with line := { s.line with monitor := .warning } } .line

/-- What WARNING leaves (R151, R152): SAFE_HOLD with what it hands on where the line was not in it. -/
structure Warned (s t : State) : Prop where
  line : t.line = { s.line with monitor := .warning, mode := .safeHold, cause := t.line.cause, flushDone := t.line.flushDone }
  causeNew : s.line.mode ≠ .safeHold → t.line.cause = some .supply
  causeKept : s.line.mode = .safeHold → t.line.cause = s.line.cause
  flushed : s.writer.buffer = [] → t.line.flushDone = true
  unflushed : s.writer.buffer ≠ [] → t.line.flushDone = s.line.flushDone
  follows : s.line.mode ≠ .safeHold → BaysFollow s t ∧ RunFollows s t ∧ t.feeder.reasons = t.blockReasons
  same : s.line.mode = .safeHold → t.bays = s.bays ∧ t.interlock = s.interlock ∧ t.feeder = s.feeder
  link : LinkKept s t
  queue : t.link.queue = s.link.queue
  settings : t.feeder.settings = s.feeder.settings
  frame : t = { s with bays := t.bays, line := t.line, interlock := t.interlock, feeder := t.feeder, link := t.link }

theorem supplyFalls_warned (s : State) : Warned s (supplyFalls s) := by
  have hdef : supplyFalls s = reportFlushed (enterSafeHold s.warned .supply) := rfl
  have hmode : s.warned.line.mode = s.line.mode := rfl
  rw [hdef]
  by_cases hs : s.line.mode = .safeHold
  · rw [enterSafeHold, if_pos (hmode.trans hs)]
    have e := reportFlushed_eq s.warned
    obtain ⟨hflush, hun⟩ := flushDone_reportFlushed (s := s.warned) rfl
    have hl := linkKept_reportFlushed s.warned
    have hc : (reportFlushed s.warned).core = s.warned.core := reportFlushed_core _
    generalize reportFlushed s.warned = t at *
    refine ⟨?_, fun h => absurd hs h, fun _ => by rw [e]; rfl, hflush, hun, fun h => absurd hs h, fun _ => by rw [e]; exact ⟨rfl, rfl, rfl⟩,
      LinkKept.trans (t := s.warned) rfl hl, congrArg Core.requests hc, by rw [e]; rfl, ?_⟩
    · rw [e, ← hs]
      rfl
    · rw [e]
      rfl
  · rw [enterSafeHold, if_neg (hmode ▸ hs)]
    have T := setLineMode_set s.warned .safeHold (some .supply)
    obtain ⟨hpacks, hheld⟩ := setLineMode_stopped s.warned (m := .safeHold) rfl (some .supply)
    have hset := settings_setLineMode s.warned .safeHold (some .supply)
    generalize setLineMode s.warned .safeHold (some .supply) = v at *
    have e := reportFlushed_eq v
    have hmon : v.line.monitor = .warning := by rw [T.line]; rfl
    have hfd : v.line.flushDone = s.line.flushDone := by rw [T.line]; rfl
    have hbuf : v.writer.buffer = s.writer.buffer := by rw [T.frame]; rfl
    obtain ⟨hflush, hun⟩ := flushDone_reportFlushed hmon
    rw [hbuf] at hflush hun
    have hl := linkKept_reportFlushed v
    have hc : (reportFlushed v).core = v.core := reportFlushed_core _
    generalize reportFlushed v = t at *
    have hline : t.line = { v.line with flushDone := t.line.flushDone } := by rw [e]
    refine ⟨?_, fun _ => by rw [hline]; exact T.cause, fun h => absurd h hs, hflush, fun h => (hun h).trans hfd, fun _ => ⟨?_, ?_, ?_⟩,
      fun h => absurd h hs, ?_, ?_, ?_, ?_⟩
    · rw [hline, T.line]
      rfl
    · exact T.baysFollow.congr rfl rfl (by rw [e]) (by rw [e]) (by rw [e]) (by rw [e])
    · exact (runFollows_of_permitted T.interlock).congr rfl (by rw [e])
        (runConditions_congr (by rw [e]) (by rw [e]) (by rw [e]) (by rw [e]))
    · have hr := T.reasons
      rw [blockReasons_congr (s := v) (t := t) (by rw [e]) (by rw [e]) (by rw [e]) (by rw [e]) (by rw [e]), ← hr, e]
    · exact LinkKept.trans (t := s.warned) rfl ((linkKept_of_core T.core).trans hl)
    · exact (congrArg Core.requests hc).trans (congrArg Core.requests T.core)
    · rw [e]
      exact hset
    · have hframe := T.frame
      rw [hpacks, hheld] at hframe
      rw [e, hframe]
      rfl

end Sys2Proof.Machine
end

section
namespace Sys2Proof.Machine

/-! ### A comparison of the supply (R151) -/

section Compare

variable {s : State}

theorem compareSupply_same (h : monitorAfter s.feeder.settings.step s.line.supply s.line.monitor = s.line.monitor) : compareSupply s = s :=
  if_pos h

theorem compareSupply_falls (h : monitorAfter s.feeder.settings.step s.line.supply s.line.monitor = .warning) (hm : s.line.monitor = .normal) :
    compareSupply s = supplyFalls s := by
  rw [compareSupply, h, hm]
  rfl

theorem compareSupply_returns (h : monitorAfter s.feeder.settings.step s.line.supply s.line.monitor = .normal) (hm : s.line.monitor = .warning) :
    compareSupply s = supplyReturns s := by
  rw [compareSupply, h, hm]
  rfl

end Compare

/-- A comparison, by the monitor's state before and after it. -/
theorem compareSupply_cases (s : State) : let n := monitorAfter s.feeder.settings.step s.line.supply s.line.monitor
    (n = s.line.monitor ∧ compareSupply s = s) ∨ (n = .warning ∧ compareSupply s = supplyFalls s)
    ∨ (n = .normal ∧ compareSupply s = supplyReturns s) := by
  intro n
  by_cases hn : n = s.line.monitor
  · exact .inl ⟨hn, compareSupply_same hn⟩
  cases hm : s.line.monitor with
  | normal =>
    have hw : n = .warning := by
      cases e : n with
      | warning => rfl
      | normal => exact absurd (e.trans hm.symm) hn
    exact .inr (.inl ⟨hw, compareSupply_falls hw hm⟩)
  | warning =>
    have hw : n = .normal := by
      cases e : n with
      | normal => rfl
      | warning => exact absurd (e.trans hm.symm) hn
    exact .inr (.inr ⟨hw, compareSupply_returns hw hm⟩)

theorem exec_supplyRow {s : State} {v : Nat} {c : Instr} (hc : c = .supplyWarning v ∨ c = .supplyNormal v) :
    exec c s = .next (supplyEvent s v) := by
  obtain rfl | rfl := hc <;> rfl

/-- Out of reset, at 16.0 V or above, a supply row is a comparison. -/
theorem supplyEvent_compares {s : State} {v : Nat} (hs : s.inReset = false) (hv : 1600 ≤ v) :
    supplyEvent s v = finish s (compareSupply (supplyAt s v)) := by
  have hp : s.phase ≠ .inPowerReset := fun e => by simp [State.inReset, e] at hs
  simp [supplyEvent, not_lt.2 hv, hp, hs]

/-- Settles O56. -/
theorem supplyMonitored : Obligations.SupplyMonitored := by
  intro s v c hc w
  rw [exec_supplyRow hc]
  have hw : w = warningLevel s.feeder.settings.step := rfl
  have hafter : monitorAfter (supplyAt s v).feeder.settings.step (supplyAt s v).line.supply (supplyAt s v).line.monitor
      = if v < w then .warning else if w + 50 ≤ v then .normal else s.line.monitor := rfl
  have hlow : 1900 ≤ w := Nat.le_add_right ..
  refine ⟨fun hv => ?_, fun hs hv hvw hm => ?_, fun hs hv hm => ?_, fun hs hv => ?_⟩
  · rw [supplyEvent, if_pos hv]
    rfl
  · have hfalls : compareSupply (supplyAt s v) = supplyFalls (supplyAt s v) := compareSupply_falls (hafter.trans (if_pos hvw)) hm
    have W := supplyFalls_warned (supplyAt s v)
    rw [supplyEvent_compares hs hv, hfalls]
    generalize supplyFalls (supplyAt s v) = t at W
    refine ⟨t, rfl, by rw [W.line], by rw [W.line], by rw [W.line]; rfl, W.causeNew, W.causeKept, W.flushed, W.unflushed,
      fun h => ?_, W.same, W.link, ?_⟩
    · obtain ⟨hb, hr, hf⟩ := W.follows h
      exact ⟨hb.congr rfl rfl rfl rfl rfl rfl, hr.congr rfl rfl rfl, hf⟩
    · have e := W.frame
      rw [W.line] at e
      exact e
  · have hnot : ¬v < w := by omega
    have hreturns : compareSupply (supplyAt s v) = supplyReturns (supplyAt s v) :=
      compareSupply_returns (hafter.trans ((if_neg hnot).trans (if_pos hv))) hm
    rw [supplyEvent_compares hs (by omega), hreturns]
    exact ⟨_, rfl, rfl, rfl, rfl⟩
  · have hsame : compareSupply (supplyAt s v) = supplyAt s v := by
      refine compareSupply_same (hafter.trans ?_)
      change _ = s.line.monitor
      obtain ⟨-, h, hm⟩ | ⟨h, h'⟩ | ⟨h, hm⟩ := hv
      · rw [if_pos h, hm]
      · rw [if_neg (not_lt.2 h), if_neg (not_le.2 h')]
      · rw [if_neg (by omega), if_pos h, hm]
    rw [supplyEvent_compares hs (by omega), hsame]
    rfl

/-! ### CONFIG_ATMOSPHERE and CONFIG_FEED (R122, R142) -/

/-- A comparison leaves the Journal Writer, the feeder's settings and the request queue alone, and the monitor as it says. -/
structure Compared (s t : State) : Prop where
  writer : t.writer = s.writer
  settings : t.feeder.settings = s.feeder.settings
  queue : t.link.queue = s.link.queue
  monitor : t.line.monitor = monitorAfter s.feeder.settings.step s.line.supply s.line.monitor

theorem compareSupply_compared (s : State) : Compared s (compareSupply s) := by
  obtain ⟨hn, e⟩ | ⟨hn, e⟩ | ⟨hn, e⟩ := compareSupply_cases s
  · rw [e]
    exact ⟨rfl, rfl, rfl, hn.symm⟩
  · have W := supplyFalls_warned s
    rw [e]
    exact ⟨by rw [W.frame], W.settings, W.queue, by rw [W.line, hn]⟩
  · rw [e]
    exact ⟨rfl, rfl, rfl, hn.symm⟩

/-- The reply that a request of a clamped section waits with. -/
theorem rewriteReply_eq {α : Type} [DecidableEq α] (c : Section) (v u : α) (b : Body) :
    rewriteReply c (decide (v ≠ u)) b = .waiting (.rewrite c false ⟨if v = u then .ok else .clamped, b⟩) := by
  unfold rewriteReply clampStatus
  by_cases h : v = u <;> simp [h]

/-- Settles O20. -/
theorem plantConfigured : Obligations.PlantConfigured := by
  intro s m h
  refine ⟨fun a ha => ?_, fun a ha => ?_, fun f w => ?_⟩
  · have T : Taken s m (.configAtmosphere a) := taken_plain h rfl nofun
    exact T.same (c := .configAtmosphere m a) rfl rfl (if_pos ha)
  · have T : Taken s m (.configAtmosphere a) := taken_plain h rfl nofun
    let j := s.withEntry m (.configAtmosphere a) .untaken
    let v := atmApplied (atmSent a)
    let u : State := { j with atm := { j.atm with settings := v }, feeder := { j.feeder with resettle := v.resettle } }
    have hrun : runRequest j (.configAtmosphere a)
        = (askRewrite u .atmosphere, .waiting (.rewrite .atmosphere false ⟨if v = atmSent a then .ok else .clamped, .atmosphere v⟩)) := by
      rw [← rewriteReply_eq]
      exact if_neg (not_not.2 ha)
    have hmem := erase_mem_askRewrite u .atmosphere
    have he := askRewrite_eq u .atmosphere
    have hq : (askRewrite u .atmosphere).link.queue = s.link.queue ++ [⟨m, .known (.configAtmosphere a), .untaken⟩] := by rw [he]; rfl
    have hrow := T.finish (c := .configAtmosphere m a) rfl rfl hrun
    rw [withStage_eq (k := .configAtmosphere a) (m := m) h hq] at hrow
    refine ⟨_, hrow, rfl, hmem, ?_, ?_, ?_⟩
    · rw [he]
      rfl
    · rw [he]
      rfl
    · rw [he]
      rfl
  · have T : Taken s m (.configFeed f w) := taken_plain h rfl nofun
    let j := s.withEntry m (.configFeed f w) .untaken
    let v := feedApplied f w
    let x : State := { j with feeder := { j.feeder with settings := v } }
    let u := compareSupply x
    have C : Compared x u := compareSupply_compared x
    have hrun : runRequest j (.configFeed f w)
        = (askRewrite u .feed, .waiting (.rewrite .feed false ⟨if v = feedSent f w then .ok else .clamped, .feed v⟩)) := by
      rw [← rewriteReply_eq]
      rfl
    have hsame : u.line.monitor = s.line.monitor → u = x := fun hm => compareSupply_same (C.monitor.symm.trans hm)
    generalize u = u at C hrun hsame
    have hmem := erase_mem_askRewrite u .feed
    have he := askRewrite_eq u .feed
    have hq : (askRewrite u .feed).link.queue = s.link.queue ++ [⟨m, .known (.configFeed f w), .untaken⟩] := by
      rw [he]
      exact C.queue
    have hrow := T.finish (c := .configFeed m f w) rfl rfl hrun
    rw [withStage_eq (k := .configFeed f w) (m := m) h hq] at hrow
    refine ⟨_, hrow, rfl, hmem, ?_, ?_, ?_, fun hm => ?_⟩
    · have hw : u.writer = s.writer := C.writer
      rw [he]
      dsimp only
      rw [hw]
    · rw [he]
      exact C.settings
    · rw [he]
      exact C.monitor
    · have hx : u = x := hsame (by rw [he] at hm; exact hm)
      rw [he, hx]
      rfl

end Sys2Proof.Machine
end

section
/-! The bays' figures and the Budget Arbiter's water-fill (O10). -/

namespace Sys2Proof.Machine

/-! ### The water-fill (R62) -/

theorem waterFill_fits {w : Nat} {ps : List (BayId × Nat)} (h : (ps.map Prod.snd).sum ≤ w) : waterFill w ps = ps := if_pos h

theorem waterFill_serves {w : Nat} {ps : List (BayId × Nat)} (h : w < (ps.map Prod.snd).sum) : waterFill w ps = serve w (sortRequests ps) :=
  if_neg (not_le.2 h)

/-- None is served more than its request. -/
theorem serve_le {w : Nat} {l : List (BayId × Nat)} {g : BayId × Nat} (h : g ∈ serve w l) : ∃ r, (g.1, r) ∈ l ∧ g.2 ≤ r := by
  induction l generalizing w with
  | nil => cases h
  | cons x t ih =>
    rcases List.mem_cons.1 h with e | h
    · exact ⟨x.2, List.mem_cons.2 (.inl (by rw [e])), by rw [e]; exact min_le_left _ _⟩
    · obtain ⟨r, hr, hle⟩ := ih h
      exact ⟨r, List.mem_cons_of_mem _ hr, hle⟩

theorem waterFill_le {w : Nat} {ps : List (BayId × Nat)} {g : BayId × Nat} (h : g ∈ waterFill w ps) : ∃ r, (g.1, r) ∈ ps ∧ g.2 ≤ r := by
  unfold waterFill at h
  split at h
  · exact ⟨g.2, h, le_refl _⟩
  · obtain ⟨r, hr, hle⟩ := serve_le h
    exact ⟨r, (sortRequests_perm ps).mem_iff.1 hr, hle⟩

/-- The share of the `i`th participant served: of what the budget still holds, over those still to be served. -/
theorem serve_share {w i : Nat} {l : List (BayId × Nat)} {x g : BayId × Nat} (hx : l[i]? = some x) (hg : (serve w l)[i]? = some g) :
    g.2 = min x.2 ((w - (((serve w l).take i).map Prod.snd).sum) / (l.length - i)) := by
  induction l generalizing w i with
  | nil => cases hx
  | cons y t ih =>
    cases i with
    | zero =>
      cases hx
      cases hg
      rfl
    | succ i =>
      have e := ih (w := w - min y.2 (w / (t.length + 1))) hx hg
      rw [e, serve, List.take_succ_cons, List.map_cons, List.sum_cons, List.length_cons, Nat.add_sub_add_right, ← Nat.sub_sub]

/-- A participant served no later than another: by request, and by bay number where the requests are equal. -/
def servedFirst (x y : BayId × Nat) : Prop := x.2 < y.2 ∨ (x.2 = y.2 ∧ x.1 ≤ y.1)

theorem pairwise_insertRequest {x : BayId × Nat} {l : List (BayId × Nat)} (h : l.Pairwise servedFirst) :
    (insertRequest x l).Pairwise servedFirst := by
  induction l with
  | nil => exact List.pairwise_singleton _ _
  | cons y t ih =>
    obtain ⟨hy, ht⟩ := List.pairwise_cons.1 h
    unfold insertRequest
    split
    · next hxy =>
      have hfirst : servedFirst x y := hxy.imp_right fun ⟨e, hlt⟩ => ⟨e, hlt.le⟩
      refine List.pairwise_cons.2 ⟨fun z hz => ?_, h⟩
      rcases List.mem_cons.1 hz with rfl | hz
      · exact hfirst
      · have hyz := hy z hz
        simp only [servedFirst, Fin.le_def] at *
        omega
    · next hxy =>
      refine List.pairwise_cons.2 ⟨fun z hz => ?_, ih ht⟩
      rcases List.mem_cons.1 ((insertRequest_perm x t).mem_iff.1 hz) with rfl | hz
      · simp only [servedFirst, Fin.le_def, Fin.lt_def] at *
        omega
      · exact hy z hz

theorem pairwise_sortRequests (l : List (BayId × Nat)) : (sortRequests l).Pairwise servedFirst := by
  induction l with
  | nil => exact List.Pairwise.nil
  | cons x t ih => exact pairwise_insertRequest ih

/-- A pairwise relation, read by positions. -/
theorem pairwise_getElem? {α : Type} {R : α → α → Prop} {l : List α} (h : l.Pairwise R) {i j : Nat} {x y : α} (hij : i < j)
    (hx : l[i]? = some x) (hy : l[j]? = some y) : R x y := by
  obtain ⟨hi, rfl⟩ := List.getElem?_eq_some_iff.1 hx
  obtain ⟨hj, rfl⟩ := List.getElem?_eq_some_iff.1 hy
  exact List.pairwise_iff_getElem.1 h i j hi hj hij

/-! ### The thermal limit, the request and the command (R57, R58, R64) -/

theorem thermalLimit_between {v : BaySettings} {t : Int} (h₁ : v.derate < t) (h₂ : t < v.tripTemp) :
    thermalLimit v t = ((v.currentMax : Int) * (v.tripTemp - t) / (v.tripTemp - v.derate)).toNat := by
  rw [thermalLimit, if_neg (not_le.2 h₁), if_pos h₂]

theorem thermalLimit_le (v : BaySettings) (t : Int) : thermalLimit v t ≤ v.currentMax := by
  by_cases h₁ : t ≤ v.derate
  · rw [thermalLimit, if_pos h₁]
  by_cases h₂ : t < v.tripTemp
  · rw [thermalLimit_between (not_le.1 h₁) h₂, Int.toNat_le]
    refine Int.ediv_le_of_le_mul (by omega) ?_
    exact mul_le_mul_of_nonneg_left (by omega) (Int.natCast_nonneg _)
  · rw [thermalLimit, if_neg h₁, if_neg h₂]
    exact Nat.zero_le _

/-! ### A bay's entry into DISCHARGING (R33, R58, R61) -/

theorem classFor_of {s : State} {c : ClassId} {v : ClassSettings} (h : s.classes[c] = some v) : s.classFor c = v := by
  rw [State.classFor, h]
  rfl

/-- The arbiter's view of each bay through a recomputation and the bay's own command. -/
theorem participants_reform (s : State) (b : BayId) : (reform s b).participants = s.participants := by
  refine participants_of fun c => ?_
  rw [reform, bay_putBay_cases]
  split
  · next e =>
    subst e
    unfold Bay.formCommand Bay.send
    split <;> exact ⟨rfl, rfl⟩
  · exact ⟨rfl, rfl⟩

theorem grant_reform (s : State) (b c : BayId) : ((reform s b).bay c).grant = (s.bay c).grant := by
  rw [reform, bay_putBay_cases]
  split
  · next e =>
    subst e
    exact (formCommand_grant _).1
  · rfl

theorem grants_enterDischarging (s : State) (b : BayId) :
    ∀ g ∈ waterFill s.effective (enterDischarging s b).participants, ((enterDischarging s b).bay g.1).grant = g.2 := by
  rw [enterDischarging_eq, participants_reform]
  intro g hg
  rw [grant_reform]
  exact grants_regrant _ g (by rw [effective_putBay]; exact hg)

/-- Settles O10. -/
theorem budgetAndFigures : Obligations.BudgetAndFigures := by
  refine ⟨fun w ps => ⟨waterFill_sum_le w ps, waterFill_fits, waterFill_fst_perm w ps, fun g => waterFill_le, fun h => ?_⟩,
    fun v t => ⟨thermalLimit_le v t, fun h => if_pos h, thermalLimit_between, fun h₁ h₂ => ?_⟩, fun m g w v => ?_,
    fun s p c x v hc hv => ?_, fun s => ?_, fun s b p hp => ?_⟩
  · intro f
    have hf : f = serve w (sortRequests ps) := waterFill_serves h
    have hperm := sortRequests_perm ps
    refine ⟨sortRequests ps, hperm, by rw [hf, serve_fst], fun i j x y hij hx hy => ?_, fun i x g hx hg => ?_⟩
    · exact pairwise_getElem? (pairwise_sortRequests ps) hij hx hy
    · rw [hf] at hg ⊢
      rw [serve_share hx hg, hperm.length_eq]
  · rw [thermalLimit, if_neg (not_le.2 h₁), if_neg (not_lt.2 h₂)]
  · refine ⟨fun hv => ⟨if_pos hv, ?_⟩, fun hv => if_neg (not_le.2 hv), fun hv h => ?_, fun hv h => ?_⟩
    · rw [commandFor, if_pos hv]
      rfl
    · rw [commandFor, if_neg (not_le.2 hv)]
      exact if_neg (not_lt.2 h)
    · rw [commandFor, if_neg (not_le.2 hv)]
      exact if_pos h
  · have hset : x.settingsFor = v := by rw [Bay.settingsFor, hv]; rfl
    refine ⟨by rw [State.endVoltage, classFor_of hc], by rw [State.releaseVoltage, classFor_of hc], ?_⟩
    intro w
    simp only [formRequest, hset, State.rateLimit, classFor_of hc]
    rfl
  · intro t
    refine ⟨fun g hg => grants_regrant s g (by rw [participants_regrant]; exact hg), fun b => bay_regrant_out,
      fun b => (regranted_regrant s b).frame, fun b => (bay_regrant_grant s b).1, fun b => (bay_regrant_grant s b).2,
      linkKept_of_core (regrant_core s), (baysLinkOnly_regrant s).eq⟩
  · intro t x
    refine ⟨?_, grants_enterDischarging s b, (othersRegranted_enterDischarging s b).words, linkKept_of_core (enterDischarging_core s b),
      (baysLinkOnly_enterDischarging s b).eq⟩
    have e : dischargingBay s b
        = formRequest s p { s.bay b with state := .discharging, sustained := 0, participant := true, grant := 0, command := 0 } := by
      rw [dischargingBay, hp]
    have h := bay_enterDischarging s b
    dsimp only at h
    rw [e] at h
    exact h

end Sys2Proof.Machine
end

section
/-! Records one after the other, and a quarantine (O29). -/

namespace Sys2Proof.Machine

/-! ### Records that join the buffer (R154, R155) -/

theorem Accepts.congr {s t s' t' : State} {ds : List Draft} (h : Accepts s t ds) (hw : s'.writer = s.writer) (hl : s'.line = s.line)
    (hc : s'.clock = s.clock) (htw : t'.writer = t.writer) (htl : t'.line = t.line) : Accepts s' t' ds := by
  unfold Accepts
  rw [hw, hl, hc, htw, htl]
  exact h

/-- Records of one step behind those of another. -/
theorem Accepts.append {s t u : State} {ds es : List Draft} (h₁ : Accepts s t ds) (h₂ : Accepts t u es) (hc : t.clock = s.clock) :
    Accepts s u (ds ++ es) := by
  obtain ⟨⟨a, ha, har⟩, hw₁, hl₁⟩ := h₁
  obtain ⟨⟨b, hb, hbr⟩, hw₂, hl₂⟩ := h₂
  have hn : t.writer.nextSeq = s.writer.nextSeq + ds.length := by rw [hw₁]
  refine ⟨⟨a ++ b, by rw [hb, ha, List.append_assoc], ?_⟩, ?_, ?_⟩
  · rw [List.map_append, har, hbr, List.mapIdx_append, hn, hc]
    simp only [Nat.add_assoc, Nat.add_comm ds.length]
  · rw [hw₂]
    conv_lhs => rw [hw₁]
    simp only [List.length_append, Nat.add_assoc]
  · rw [hl₂]
    conv_lhs => rw [hl₁]

/-! ### A quarantine (R8, R12, R14, R45) -/

/-- A bay in LOCKED: no command, out of the arbiter, no timer, REQUESTED and RESTART removed (R42, R45). -/
def Bay.locked (x : Bay) : Bay := { x with
  state := .locked, sustained := 0, retryTimer := none, restTimer := none, command := 0, participant := false, request := 0, grant := 0
  holds := { x.holds with requested := false, restart := false } }

theorem bay_lockBay (s : State) (b : BayId) : (lockBay s b).bay b = (s.bay b).locked := bay_putApart s b _

theorem othersRegranted_lockBay (s : State) (b : BayId) : OthersRegranted b s (lockBay s b) := othersRegranted_putApart s b _

/-- Pack `p` has been quarantined for `r`: its entry, the record, the queue without it, and the bay that held it LOCKED. -/
structure Quarantined (s t : State) (p : Pack) (r : QuarReason) : Prop where
  pack : t.pack p.tag = some (p.quarantinedFor r)
  others : OtherPacks p.tag s t
  queue : t.queue = s.queue.filter (· ≠ p.tag)
  accepts : Accepts s t [drafted (p.quarantinedFor r) .quarantine p.bay (.quarantine r)]
  locked : ∀ b, p.bay = some b → (s.bay b).pack = some p.tag → t.bay b = (s.bay b).locked ∧ OthersRegranted b s t
  unlocked : (∀ b, p.bay = some b → (s.bay b).pack ≠ some p.tag) → t.bays = s.bays
  core : t.core = s.core
  frame : t = { s with packs := t.packs, queue := t.queue, bays := t.bays, writer := t.writer, line := t.line, link := t.link }

theorem packs_of_baysLinkOnly {s t : State} (h : BaysLinkOnly s t) (n : Tag) : t.pack n = s.pack n := by
  obtain ⟨_, _, rfl⟩ := h
  rfl

theorem quarantinePack_quarantined {s : State} {p : Pack} (h : (s.pack p.tag).isSome) (r : QuarReason) :
    Quarantined s (quarantinePack s p r) p r := by
  let q : Pack := { p with state := .quarantined, reason := some r }
  obtain ⟨hpack, hother, haccepts, -, -, hframe⟩ := writePack_written (s := s) (p := q) h .quarantine q.bay (.quarantine r)
  let u := leaveQueue (writePack s q .quarantine q.bay (.quarantine r)) p.tag
  have hu : u = { s with packs := u.packs, queue := s.queue.filter (· ≠ p.tag), writer := u.writer, line := u.line, link := u.link } := by
    have hdef : u = leaveQueue (writePack s q .quarantine q.bay (.quarantine r)) p.tag := rfl
    rw [hdef]
    unfold leaveQueue
    rw [hframe]
  have hupack : u.pack p.tag = some (p.quarantinedFor r) := hpack
  have huother : OtherPacks p.tag s u := hother
  have huaccepts : Accepts s u [drafted (p.quarantinedFor r) .quarantine p.bay (.quarantine r)] := haccepts
  have hcore := quarantinePack_core s p r
  have hdef : quarantinePack s p r = match p.bay with
      | some b => if (u.bay b).pack = some p.tag then lockBay u b else u
      | none => u := rfl
  have hbays : u.bays = s.bays := by rw [hu]
  rw [hdef] at hcore ⊢
  generalize u = u at *
  have stays : u.core = s.core → (∀ b, p.bay = some b → (s.bay b).pack ≠ some p.tag) → Quarantined s u p r := fun hc hn =>
    ⟨hupack, huother, by rw [hu], huaccepts, fun b hb hp => absurd hp (hn b hb), fun _ => hbays, hc, by rw [hu]⟩
  cases hb : p.bay with
  | none =>
    rw [hb] at hcore
    exact stays hcore (by simp [hb])
  | some b =>
    rw [hb] at hcore
    dsimp only at hcore ⊢
    rw [bay_of_bays hbays b] at hcore ⊢
    by_cases hp : (s.bay b).pack = some p.tag
    · rw [if_pos hp] at hcore ⊢
      have hl := baysLinkOnly_lockBay u b
      have hbay := bay_lockBay u b
      have hothers := othersRegranted_lockBay u b
      generalize lockBay u b = t at *
      have hpacks (n : Tag) := packs_of_baysLinkOnly hl n
      obtain ⟨v, l, rfl⟩ := hl
      refine ⟨(hpacks _).trans hupack, fun n hn => (hpacks n).trans (huother n hn), by rw [hu], ?_, fun c hc _ => ?_, fun hn => ?_, hcore, ?_⟩
      · exact huaccepts.congr rfl rfl rfl rfl rfl
      · obtain rfl := Option.some.inj (hb.symm.trans hc)
        refine ⟨hbay.trans (by rw [bay_of_bays hbays]), fun c hc => ?_⟩
        have R := hothers c hc
        rwa [bay_of_bays hbays] at R
      · exact absurd hp (hn b hb)
      · rw [hu]
    · rw [if_neg hp] at hcore ⊢
      have e := stays hcore (fun c hc => by obtain rfl := Option.some.inj (hb.symm.trans hc); exact hp)
      exact e

/-! ### The room that a request's records need (R155) -/

theorem bufferShort_true {s : State} (h : 48 < s.writer.buffer.length) : s.bufferShort = true := decide_eq_true h

theorem bufferShort_false {s : State} (h : s.writer.buffer.length ≤ 48) : s.bufferShort = false := decide_eq_false (Nat.not_lt.2 h)

/-- Settles O29. -/
theorem quarantineTaken : Obligations.QuarantineTaken := by
  refine ⟨fun s p r hp => ?_, fun s m n h => ?_⟩
  · intro t
    have Q : Quarantined s t p r := quarantinePack_quarantined (Option.isSome_of_eq_some hp) r
    refine ⟨Q.pack, Q.others, Q.queue, Q.accepts, fun b hb hbp => ?_, Q.unlocked, linkKept_of_core Q.core,
      congrArg Core.requests Q.core, Q.frame⟩
    obtain ⟨hl, hothers⟩ := Q.locked b hb hbp
    refine ⟨?_, ?_, ?_, ?_, ?_, ?_, ?_, hothers.words⟩
    all_goals rw [hl, Bay.locked]
    exact hbp
  · have T : Taken s m (.quarantine n) := taken_custody h nofun
    let j := s.withEntry m (.quarantine n) .untaken
    have hrow {u : State} {st : Stage} (e : reqQuarantine j n = (u, st)) :
        exec (.quarantine m n) s = .next (finish s (u.withStage st)) := T.finish (c := .quarantine m n) rfl rfl e
    have hsame {st : Stage} (e : reqQuarantine j n = (j, st)) :
        exec (.quarantine m n) s = .next (finish s (s.withEntry m (.quarantine n) st)) := T.same (c := .quarantine m n) rfl rfl e
    refine ⟨fun hn => hsame ?_, fun hn hp => hsame ?_, fun p hn hp hst => hsame ?_, fun p hn hp hf hq hb => hsame ?_,
      fun p hn hp hf hq hb => hrow ?_⟩
    · simp only [reqQuarantine, hn, if_true]
      rfl
    all_goals
      have hpj : j.pack n = s.pack n := rfl
      simp only [reqQuarantine, hn, if_false, hpj, hp]
    · rfl
    · simp only [hst, decide_eq_true_eq, Bool.or_eq_true, if_true]
      rfl
    · have hbj : j.bufferShort = true := bufferShort_true hb
      simp only [hf, hq, hbj, decide_false, Bool.or_false, Bool.false_eq_true, if_true, if_false]
      rfl
    · have hbj : j.bufferShort = false := bufferShort_false hb
      simp only [hf, hq, hbj, decide_false, Bool.or_false, Bool.false_eq_true, if_false]
      rfl

end Sys2Proof.Machine
end

section
/-! Lots: their records, and OPEN_LOT and CLOSE_LOT (O26). -/

namespace Sys2Proof.Machine

theorem Accepts.one {s t : State} {d d' : Draft} (h : Accepts s t [d]) (e : d = d') : Accepts s t [d'] := e ▸ h

/-! ### A lot's entry replaced, with and without a record (R18, R19, R20) -/

theorem number_of_lot {s : State} {n : Tag} {l : Lot} (h : s.lot n = some l) : l.number = n := by
  simpa using List.find?_some h

theorem lot_setLot {s : State} {l : Lot} (h : (s.lot l.number).isSome) : (s.setLot l).lot l.number = some l := by
  unfold State.lot State.setLot at *
  generalize s.lots = k at *
  induction k with
  | nil => simp at h
  | cons x xs ih =>
    by_cases hx : x.number = l.number
    · simp [hx]
    · simp only [List.map_cons, hx, if_false, List.find?_cons, decide_false] at h ⊢
      exact ih h

/-- An entry replaced and then freed is freed. -/
theorem filter_setLot (s : State) (l : Lot) :
    (s.setLot l).lots.filter (fun k => k.number ≠ l.number) = s.lots.filter (fun k => k.number ≠ l.number) := by
  unfold State.setLot
  dsimp only
  generalize s.lots = k
  induction k with
  | nil => rfl
  | cons x xs ih =>
    by_cases hx : x.number = l.number
    · simp only [List.map_cons, hx, if_true, List.filter_cons, not_true_eq_false, decide_false, Bool.false_eq_true, if_false,
        ne_eq] at ih ⊢
      exact ih
    · simp only [List.map_cons, hx, if_false, List.filter_cons, not_false_eq_true, decide_true, if_true, ne_eq] at ih ⊢
      rw [ih]

theorem accepts_writeLot (s : State) (n : Tag) (k : RecordKind) (a : LotState) (d : Detail) :
    Accepts s (writeLot s n k a d) [lotDraft n k a d] := accepts_accept s _

theorem writeLot_eq (s : State) (n : Tag) (k : RecordKind) (a : LotState) (d : Detail) :
    writeLot s n k a d = { s with
      writer := (writeLot s n k a d).writer, line := (writeLot s n k a d).line, link := (writeLot s n k a d).link } := by
  unfold writeLot
  conv_lhs => rw [accept_eq]
  rfl

/-- The record that stands for the end of lot `l` (R19). -/
def finalDraft (s : State) (n : Tag) (l : Lot) : Draft :=
  lotDraft n .lotFinal .final (.lotFinal l.admitted l.fed l.removed l.energy l.massFed l.massRemoved s.atm.litres)

/-- A CLOSING lot with no pack in custody leaves the table with its record. -/
theorem finalizeLot_final {s : State} {n : Tag} {l : Lot} (h : s.lot n = some l) (hc : l.state = .closing) (h0 : l.inCustody = 0) :
    Accepts s (finalizeLot s n) [finalDraft s n l]
    ∧ (finalizeLot s n).lots = s.lots.filter (fun k => k.number ≠ n)
    ∧ finalizeLot s n = { s with
        lots := (finalizeLot s n).lots, writer := (finalizeLot s n).writer, line := (finalizeLot s n).line
        link := (finalizeLot s n).link } := by
  let u := writeLot s n .lotFinal .final
    (.lotFinal l.admitted l.fed l.removed l.energy l.massFed l.massRemoved s.atm.litres)
  have hu : u = { s with writer := u.writer, line := u.line, link := u.link } := writeLot_eq s n _ _ _
  have hdef : finalizeLot s n = { u with lots := u.lots.filter (fun k => k.number ≠ n) } := by
    unfold finalizeLot
    simp only [h, hc, h0, decide_true, Bool.and_self, if_true]
    rfl
  have haccepts : Accepts s u [finalDraft s n l] := accepts_writeLot s n _ _ _
  rw [hdef]
  generalize u = u at *
  refine ⟨haccepts, by rw [hu], ?_⟩
  rw [hu]

theorem finalizeLot_kept {s : State} {n : Tag} {l : Lot} (h : s.lot n = some l) (hk : ¬(l.state = .closing ∧ l.inCustody = 0)) :
    finalizeLot s n = s := by
  unfold finalizeLot
  simp only [h, Bool.and_eq_true, decide_eq_true_eq, hk, if_false]

/-! ### OPEN_LOT and CLOSE_LOT -/

theorem openLotAccepted_queued (s : State) (n : Tag) :
    let t := openLotAccepted s n
    t.lots = s.lots ++ [⟨n, .opened, 0, 0, 0, 0, 0, 0, 1, s.writer.nextSeq⟩]
    ∧ Accepts s t [lotDraft n .lotOpen .opened .none] ∧ t.core = s.core
    ∧ t = { s with lots := t.lots, writer := t.writer, line := t.line, link := t.link } := by
  intro t
  let l : Lot := ⟨n, .opened, 0, 0, 0, 0, 0, 0, 1, s.writer.nextSeq⟩
  have ht : t = writeLot { s with lots := s.lots ++ [l] } n .lotOpen .opened .none := rfl
  have hf := writeLot_eq { s with lots := s.lots ++ [l] } n .lotOpen .opened .none
  have ha := accepts_writeLot { s with lots := s.lots ++ [l] } n .lotOpen .opened .none
  have hc := writeLot_core { s with lots := s.lots ++ [l] } n .lotOpen .opened .none
  rw [← ht] at hf ha hc
  generalize t = t at *
  exact ⟨by rw [hf], ha.congr rfl rfl rfl rfl rfl, hc, by rw [hf]⟩

/-- What CLOSE_LOT makes of lot `l`: CLOSING, with its two records written. -/
def Lot.closed (l : Lot) : Lot := { l with state := .closing, written := 2 }

/-- CLOSE_LOT's first record, with the lot CLOSING. -/
theorem closing_written {s : State} {l : Lot} (h : (s.lot l.number).isSome) :
    let u := writeLot (s.setLot l.closed) l.number .lotClose .closing .none
    u.lot l.number = some l.closed ∧ Accepts s u [lotDraft l.number .lotClose .closing .none]
    ∧ u.lots = (s.setLot l.closed).lots
    ∧ u = { s with lots := u.lots, writer := u.writer, line := u.line, link := u.link } := by
  intro u
  have hf : u = _ := writeLot_eq (s.setLot l.closed) l.number .lotClose .closing .none
  have ha : Accepts _ u _ := accepts_writeLot (s.setLot l.closed) l.number .lotClose .closing .none
  have hl : (s.setLot l.closed).lot l.number = some l.closed := lot_setLot (l := l.closed) h
  have hlots : u.lots = (s.setLot l.closed).lots := by rw [hf]
  have hlot : u.lot l.number = (s.setLot l.closed).lot l.number := congrArg (List.find? _) hlots
  exact ⟨hlot.trans hl, ha.congr rfl rfl rfl rfl rfl, hlots, by rw [hf]; rfl⟩

theorem closeLotAccepted_core (s : State) (l : Lot) : (closeLotAccepted s l).core = s.core := by
  unfold closeLotAccepted
  simp

/-- CLOSE_LOT of a lot with packs in custody. -/
theorem closeLotAccepted_kept {s : State} {l : Lot} (h : (s.lot l.number).isSome) (h0 : l.inCustody ≠ 0) :
    let t := closeLotAccepted s l
    t.lot l.number = some l.closed ∧ Accepts s t [lotDraft l.number .lotClose .closing .none] ∧ t.lots = (s.setLot l.closed).lots
    ∧ t = { s with lots := t.lots, writer := t.writer, line := t.line, link := t.link } := by
  have W := closing_written h
  have hdef : closeLotAccepted s l = finalizeLot (writeLot (s.setLot l.closed) l.number .lotClose .closing .none) l.number := rfl
  rw [hdef, finalizeLot_kept W.1 fun e => h0 e.2]
  exact W

/-- CLOSE_LOT of a lot without one: LOT_FINAL stands behind LOT_CLOSE. -/
theorem closeLotAccepted_final {s : State} {l : Lot} (h : (s.lot l.number).isSome) (h0 : l.inCustody = 0) :
    let t := closeLotAccepted s l
    t.lots = s.lots.filter (fun k => k.number ≠ l.number)
    ∧ Accepts s t [lotDraft l.number .lotClose .closing .none, finalDraft s l.number l]
    ∧ t = { s with lots := t.lots, writer := t.writer, line := t.line, link := t.link } := by
  intro t
  obtain ⟨hlot, haccepts, hlots, hframe⟩ := closing_written h
  have ht : t = finalizeLot (writeLot (s.setLot l.closed) l.number .lotClose .closing .none) l.number := rfl
  generalize writeLot (s.setLot l.closed) l.number .lotClose .closing .none = u at *
  obtain ⟨hfinal, hgone, hf⟩ := finalizeLot_final hlot rfl h0
  rw [← ht] at hfinal hgone hf
  generalize t = t at *
  have hdraft : finalDraft u l.number l.closed = finalDraft s l.number l := by rw [hframe]; rfl
  refine ⟨?_, ?_, by rw [hf, hframe]⟩
  · rw [hgone, hlots]
    exact filter_setLot s l.closed
  · exact haccepts.append (hdraft ▸ hfinal) (by rw [hframe])

/-- Settles O26. -/
theorem lotRequestsTaken : Obligations.LotRequestsTaken := by
  refine ⟨fun s m n h => ?_, fun s m n h => ?_⟩
  · have T : Taken s m (.openLot n) := taken_custody h nofun
    let j := s.withEntry m (.openLot n) .untaken
    have hsame {st : Stage} (e : reqOpenLot j n = (j, st)) :
        exec (.openLot m n) s = .next (finish s (s.withEntry m (.openLot n) st)) := T.same (c := .openLot m n) rfl rfl e
    have hlot : j.lot n = s.lot n := rfl
    have hopen : j.openLot = s.openLot := rfl
    have hlots : j.lots.length = s.lots.length := rfl
    have hfree : j.freeSpace = s.freeSpace := rfl
    have hres : j.reserve = s.reserve := rfl
    refine ⟨fun hn => hsame ?_, fun hn hl => hsame ?_, fun hn hl ho => hsame ?_, fun hn hl ho hk => hsame ?_,
      fun hn hl ho hk hr => hsame ?_, fun hn hl ho hk hr hb => hsame ?_, fun hn hl ho hk hr hb => ?_⟩
    · rw [reqOpenLot, if_pos hn]
      rfl
    · rw [reqOpenLot, if_neg hn, hlot, if_pos hl]
      rfl
    · simp only [reqOpenLot, hlot, hopen, hn, hl, ho, Option.isSome_none, Bool.false_eq_true, if_false, if_true]
      rfl
    · simp only [reqOpenLot, hlot, hopen, hlots, hn, hl, ho, hk, Option.isSome_none, Bool.false_eq_true, if_false, if_true]
      rfl
    · simp only [reqOpenLot, hlot, hopen, hlots, hfree, hres, hn, hl, ho, Nat.not_le.2 hk, hr, Option.isSome_none, Bool.false_eq_true, if_false, if_true]
      rfl
    · have hbj : j.bufferShort = true := bufferShort_true hb
      simp only [reqOpenLot, hlot, hopen, hlots, hfree, hres, hn, hl, ho, Nat.not_le.2 hk, Nat.not_lt.2 hr, hbj, Option.isSome_none,
        Bool.false_eq_true, if_false, if_true]
      rfl
    · have hbj : j.bufferShort = false := bufferShort_false hb
      have hrun : runRequest j (.openLot n) = (openLotAccepted j n, okay .none) := by
        change reqOpenLot j n = _
        simp only [reqOpenLot, hlot, hopen, hlots, hfree, hres, hn, hl, ho, Nat.not_le.2 hk, Nat.not_lt.2 hr, hbj, Option.isSome_none,
          Bool.false_eq_true, if_false]
      obtain ⟨hnew, haccepts, hcore, hframe⟩ := openLotAccepted_queued j n
      generalize openLotAccepted j n = u at *
      refine ⟨_, T.finish (c := .openLot m n) rfl rfl hrun, T.queued hcore _, hnew, haccepts.congr rfl rfl rfl rfl rfl,
        linkKept_row hcore _, ?_⟩
      exact congrArg (fun t => t.withStage (okay .none)) hframe
  · have T : Taken s m (.closeLot n) := taken_custody h nofun
    let j := s.withEntry m (.closeLot n) .untaken
    have hsame {st : Stage} (e : reqCloseLot j n = (j, st)) :
        exec (.closeLot m n) s = .next (finish s (s.withEntry m (.closeLot n) st)) := T.same (c := .closeLot m n) rfl rfl e
    have hlot : j.lot n = s.lot n := rfl
    refine ⟨fun hn => hsame ?_, fun hn hl => hsame ?_, fun l hn hl hc => hsame ?_, fun l hn hl hc hb => hsame ?_, fun l hn hl hc hb => ?_⟩
    · rw [reqCloseLot, if_pos hn]
      rfl
    · simp only [reqCloseLot, hlot, hn, hl, if_false]
      rfl
    · simp only [reqCloseLot, hlot, hn, hl, hc, if_false, if_true]
      rfl
    · have hbj : j.bufferShort = true := bufferShort_true hb
      simp only [reqCloseLot, hlot, hn, hl, hc, hbj, if_false, if_true]
      rfl
    · have hbj : j.bufferShort = false := bufferShort_false hb
      let st := okay (.lotState ((((closeLotAccepted j l).lot n).map Lot.state).getD .final))
      have hrun : runRequest j (.closeLot n) = (closeLotAccepted j l, st) := by
        change reqCloseLot j n = _
        simp only [reqCloseLot, hlot, hn, hl, hc, hbj, Bool.false_eq_true, if_false]
        rfl
      obtain rfl := number_of_lot hl
      have hsome : (j.lot l.number).isSome := Option.isSome_of_eq_some (hlot.trans hl)
      have hcore := closeLotAccepted_core j l
      refine ⟨_, T.finish (c := .closeLot m l.number) rfl rfl hrun, linkKept_row hcore _, ?_, fun h0 => ?_, fun h0 => ?_⟩
      · by_cases h0 : l.inCustody = 0
        · exact congrArg (fun t => t.withStage st) (closeLotAccepted_final hsome h0).2.2
        · exact congrArg (fun t => t.withStage st) (closeLotAccepted_kept hsome h0).2.2.2
      · obtain ⟨hstay, haccepts, hlots, -⟩ := closeLotAccepted_kept hsome h0
        have hst : st = .formed ⟨.ok, .lotState .closing⟩ := by
          simp only [st, hstay]
          rfl
        exact ⟨hlots, hst ▸ T.queued hcore st, haccepts.congr rfl rfl rfl rfl rfl⟩
      · obtain ⟨hlots, haccepts, -⟩ := closeLotAccepted_final hsome h0
        have hgone : (closeLotAccepted j l).lot l.number = none := by
          rw [State.lot, hlots, List.find?_eq_none]
          intro k hk
          simpa using (List.mem_filter.1 hk).2
        have hst : st = .formed ⟨.ok, .lotState .final⟩ := by
          simp only [st, hgone]
          rfl
        exact ⟨hlots, hst ▸ T.queued hcore st, haccepts.congr rfl rfl rfl rfl rfl⟩

end Sys2Proof.Machine
end

section
/-! A pack admitted, and a pack placed in a bay (O27, O28). -/

namespace Sys2Proof.Machine

/-! ### ADMIT (R4, R5) -/

/-- The fields of an ADMIT lie in their ranges (R4). -/
def AdmitInRange (a : AdmitArgs) : Prop :=
  a.tag ≠ 0#32 ∧ (1 ≤ a.cells.toNat ∧ a.cells.toNat ≤ 240) ∧ (1 ≤ a.capacity.toNat ∧ a.capacity.toNat ≤ 10000)
  ∧ (1 ≤ a.mass.toNat ∧ a.mass.toNat ≤ 20000) ∧ a.ocv.toNat ≤ 100000

theorem admitClass_inRange {a : AdmitArgs} (h : AdmitInRange a) : admitClass a = classOf a.cls := by
  obtain ⟨htag, hcells, hcap, hmass, hocv⟩ := h
  unfold admitClass
  simp only [ne_eq, htag, not_false_eq_true, hcells, hcap, hmass, hocv, and_self, decide_true, Bool.and_self, if_true]

theorem admitClass_outOfRange {a : AdmitArgs} (h : ¬AdmitInRange a) : admitClass a = none := by
  unfold admitClass
  refine if_neg fun e => h ?_
  simp only [ne_eq, Bool.and_eq_true, decide_eq_true_eq] at e
  obtain ⟨⟨⟨⟨htag, hcells⟩, hcap⟩, hmass⟩, hocv⟩ := e
  exact ⟨htag, hcells, hcap, hmass, hocv⟩

theorem packs_writePack (s : State) (p : Pack) (k : RecordKind) (b : Option BayId) (d : Detail) :
    (writePack s p k b d).packs = s.packs.map (fun q => if q.tag = p.tag then p.counted else q) := by
  unfold writePack
  dsimp only
  rw [accept_eq]
  rfl

/-- A new entry whose record is counted. -/
theorem packs_writePack_new {s : State} {p : Pack} (h : s.pack p.tag = none) (k : RecordKind) (b : Option BayId) (d : Detail) :
    (writePack { s with packs := s.packs ++ [p] } p k b d).packs = s.packs ++ [p.counted] := by
  rw [packs_writePack, List.map_append, List.map_singleton, if_pos rfl]
  congr 1
  refine (List.map_congr_left fun q hq => ?_).trans (List.map_id _)
  have hne := List.find?_eq_none.1 h q hq
  exact if_neg (by simpa using hne)

/-- The entry that an ADMIT creates stands at the end of intake order with one record written. -/
theorem admitAccepted_written {s : State} {p : Pack} (h : s.pack p.tag = none) (l : Lot) :
    let t := admitAccepted s p l
    t.packs = s.packs ++ [p.counted]
    ∧ t.lots = s.lots.map (fun k => if k.number = l.number then { l with admitted := l.admitted + 1 } else k)
    ∧ Accepts s t [packDraft p.counted .admitted none (.admitted p.cls p.cells p.capacity p.mass p.ocv (p.state = .released))]
    ∧ t.core = s.core
    ∧ t = { s with packs := t.packs, lots := t.lots, writer := t.writer, line := t.line, link := t.link } := by
  intro t
  let v := ({ s with packs := s.packs ++ [p] }.setLot { l with admitted := l.admitted + 1 })
  have ht : t = writePack v p .admitted none (.admitted p.cls p.cells p.capacity p.mass p.ocv (p.state = .released)) := rfl
  have hsome : (v.pack p.tag).isSome := by
    simp [v, State.pack, State.setLot, List.find?_append]
  obtain ⟨-, -, haccepts, -, -, hframe⟩ :=
    writePack_written hsome .admitted none (.admitted p.cls p.cells p.capacity p.mass p.ocv (p.state = .released))
  have hpacks : t.packs = s.packs ++ [p.counted] :=
    packs_writePack_new (s := s.setLot { l with admitted := l.admitted + 1 }) h _ _ _
  have hcore : t.core = s.core := writePack_core v p _ _ _
  rw [← ht] at haccepts hframe
  generalize t = t at *
  exact ⟨hpacks, by rw [hframe]; rfl, haccepts.congr rfl rfl rfl rfl rfl, hcore, by rw [hframe]; rfl⟩

/-- The state of a new entry by the declared OCV (R5). -/
theorem admittedPack_eq (s : State) (a : AdmitArgs) (c : ClassId) (l : Lot) :
    admittedPack s a c l =
      { tag := a.tag, lot := l.number, cls := c, cells := a.cells.toNat, capacity := a.capacity.toNat, mass := a.mass.toNat
        ocv := a.ocv.toNat, bay := none, energy := 0, gap := false, trips := 0, rebounds := 0, charge := 0
        firstRecord := s.writer.nextSeq, exposure := none, reason := none
        state := if decide (a.ocv.toNat ≤ a.cells.toNat * (s.classFor c).relMv / 10) then .released else .intake } := by
  unfold admittedPack State.releaseVoltage
  dsimp only
  by_cases hlow : a.ocv.toNat ≤ a.cells.toNat * (s.classFor c).relMv / 10
  · simp only [hlow, if_true, decide_true]
  · simp only [hlow, if_false, decide_false, Bool.false_eq_true]

/-- Settles O27. -/
theorem packAdmitted : Obligations.PackAdmitted := by
  refine ⟨fun s m a c l h htag hcls hc₁ hc₂ hq₁ hq₂ hm₁ hm₂ hocv hd hsh hl hcfg hp hlen hres hb => ?_, fun s m a h => ?_⟩
  · intro low st
    have T : Taken s m (.admitPack a) := taken_custody h nofun
    let j := s.withEntry m (.admitPack a) .untaken
    have hclass : admitClass a = some c := (admitClass_inRange ⟨htag, ⟨hc₁, hc₂⟩, ⟨hq₁, hq₂⟩, ⟨hm₁, hm₂⟩, hocv⟩).trans hcls
    let p := admittedPack j a c l
    have hpeq : p = _ := admittedPack_eq j a c l
    have hst : p.state = st := by rw [hpeq]; rfl
    have htag' : p.tag = a.tag := by rw [hpeq]
    have hrun : runRequest j (.admitPack a) = (admitAccepted j p l, okay (.admitted p.state p.firstRecord)) := by
      change reqAdmit j a = _
      have hmode : (decide (j.line.mode = .drain) || decide (j.line.mode = .safeHold)) = false := by
        have hd' : j.line.mode ≠ .drain := hd
        have hsh' : j.line.mode ≠ .safeHold := hsh
        simp [hd', hsh']
      have hl' : j.openLot = some l := hl
      have hcfg' : (j.classes[c]).isNone = false := by rw [Option.isNone_eq_false_iff]; exact hcfg
      have hp' : (j.pack a.tag).isSome = false := by rw [Option.isSome_eq_false_iff]; exact Option.isNone_iff_eq_none.2 hp
      have hlen' : ¬48 ≤ j.packs.length := Nat.not_le.2 hlen
      have hres' : j.reserveLeft = true := decide_eq_true hres
      have hbj : j.bufferShort = false := bufferShort_false hb
      simp only [reqAdmit, hclass, hmode, hl', hcfg', hp', hlen', hres', hbj, Bool.not_true, Bool.false_eq_true, if_false]
      rfl
    obtain ⟨hpacks, hlots, haccepts, hcore, hframe⟩ := admitAccepted_written (s := j) (p := p) (by rw [htag']; exact hp) l
    have hfirst : p.firstRecord = s.writer.nextSeq := by rw [hpeq]; rfl
    have hlow : decide (p.state = .released) = low := by
      rw [hst]
      cases hlow : low <;> simp [st, hlow]
    rw [hlow] at haccepts
    rw [hst, hfirst] at hrun
    generalize admitAccepted j p l = u at *
    rw [hpeq] at haccepts hpacks
    refine ⟨_, T.finish (c := .admitPack m a) rfl rfl hrun, T.queued hcore _, hpacks, hlots, haccepts.congr rfl rfl rfl rfl rfl,
      linkKept_row hcore _, ?_⟩
    exact congrArg (fun t => t.withStage (.formed ⟨.ok, .admitted st s.writer.nextSeq⟩)) hframe
  · have T : Taken s m (.admitPack a) := taken_custody h nofun
    let j := s.withEntry m (.admitPack a) .untaken
    have hsame {st : Stage} (e : reqAdmit j a = (j, st)) :
        exec (.admitPack m a) s = .next (finish s (s.withEntry m (.admitPack a) st)) := T.same (c := .admitPack m a) rfl rfl e
    refine ⟨fun hbad => ?_, fun c l hclass => ?_⟩
    · have hnone : admitClass a = none := by
        by_cases hr : AdmitInRange a
        · rw [admitClass_inRange hr]
          obtain ⟨htag, hcells, hcap, hmass, hocv⟩ := hr
          obtain hbad | hbad | hbad := hbad
          · exact absurd hbad htag
          · exact hbad
          · omega
        · exact admitClass_outOfRange hr
      exact ⟨hnone, hsame (by simp only [reqAdmit, hnone]; rfl)⟩
    · have hm : j.line.mode = s.line.mode := rfl
      have ho : j.openLot = s.openLot := rfl
      have hcl : j.classes[c] = s.classes[c] := rfl
      have hpk : j.pack a.tag = s.pack a.tag := rfl
      have hn : j.packs.length = s.packs.length := rfl
      refine ⟨fun hmode => hsame ?_, fun ⟨hd, hsh⟩ hl => hsame ?_, fun ⟨hd, hsh⟩ hl hcfg => hsame ?_, fun ⟨hd, hsh⟩ hl hcfg hp => hsame ?_,
        fun ⟨hd, hsh⟩ hl hcfg hp hlen => hsame ?_, fun ⟨hd, hsh⟩ hl hcfg hp hlen hres => hsame ?_,
        fun ⟨hd, hsh⟩ hl hcfg hp hlen hres hb => hsame ?_⟩
      · simp only [reqAdmit, hclass, hm, Bool.or_eq_true, decide_eq_true_eq, hmode, if_true]
        rfl
      all_goals
        simp only [reqAdmit, hclass, hm, hd, hsh, ho, hl, decide_false, Bool.or_self, Bool.false_eq_true, if_false]
      · rfl
      · simp only [hcl, hcfg, Option.isNone_none, if_true]
        rfl
      all_goals
        have hcfg' : (j.classes[c]).isNone = false := by rw [Option.isNone_eq_false_iff]; exact hcfg
      · simp only [hcfg', hpk, hp, Bool.false_eq_true, if_false, if_true]
        rfl
      · simp only [hcfg', hpk, hp, hn, hlen, Option.isSome_none, Bool.false_eq_true, if_false, if_true]
        rfl
      · have hres' : j.reserveLeft = false := decide_eq_false (Nat.not_le.2 hres)
        simp only [hcfg', hpk, hp, hn, Nat.not_le.2 hlen, hres', Option.isSome_none, Bool.not_false, Bool.false_eq_true, if_false, if_true]
        rfl
      · have hres' : j.reserveLeft = true := decide_eq_true hres
        have hbj : j.bufferShort = true := bufferShort_true hb
        simp only [hcfg', hpk, hp, hn, Nat.not_le.2 hlen, hres', hbj, Option.isSome_none, Bool.not_true, Bool.false_eq_true, if_false,
          if_true]
        rfl

end Sys2Proof.Machine
end

section
/-! A pack placed in a bay (O28). -/

namespace Sys2Proof.Machine

/-- The pack stands IN_BAY with its record, and the bay as a visit starts. -/
theorem placeAccepted_placed {s : State} {p : Pack} (h : (s.pack p.tag).isSome) (b : BayId) :
    let q : Pack := { p with state := .inBay, bay := some b }
    let t := placeAccepted s p b
    t.pack p.tag = some q.counted ∧ OtherPacks p.tag s t ∧ t.bay b = (s.bay b).receive p.tag ∧ OtherBays b s t
    ∧ Accepts s t [packDraft q.counted .placed (some b) .none] ∧ t.core = s.core
    ∧ t = { s with packs := t.packs, bays := t.bays, writer := t.writer, line := t.line, link := t.link } := by
  intro q t
  obtain ⟨hpack, hothers, haccepts, -, -, hframe⟩ := writePack_written (s := s) (p := q) h .placed (some b) .none
  have hcore : t.core = s.core := (putBay_core _ b _).trans (writePack_core s q .placed (some b) .none)
  let u := writePack s q .placed (some b) .none
  have hbays : u.bays = s.bays := by
    change (writePack s q .placed (some b) .none).bays = s.bays
    rw [hframe]
  have ht : t = putBay u b ((u.bay b).receive p.tag) := rfl
  have hbay := bay_putBay u b ((u.bay b).receive p.tag)
  have hother := otherBays_putBay u b ((u.bay b).receive p.tag)
  have hl := baysLinkOnly_putBay u b ((u.bay b).receive p.tag)
  change u = _ at hframe
  change Accepts s u _ at haccepts
  change OtherPacks _ s u at hothers
  change u.pack _ = _ at hpack
  rw [← ht] at hbay hother hl
  generalize t = t at *
  generalize u = u at *
  have hpacks (n : Tag) := packs_of_baysLinkOnly hl n
  refine ⟨(hpacks _).trans hpack, fun n hn => (hpacks n).trans (hothers n hn), ?_, fun c hc => ?_, ?_, hcore, ?_⟩
  · rw [hbay, bay_of_bays hbays]
  · rw [hother c hc, bay_of_bays hbays]
  all_goals obtain ⟨v, l, rfl⟩ := hl
  · exact haccepts.congr rfl rfl rfl rfl rfl
  · rw [hframe]

/-- Settles O28. -/
theorem packPlaced : Obligations.PackPlaced := by
  refine ⟨fun s m v n b p h hn hv hd hsh hp hst hset hempty hb => ?_, fun s m v n h => ?_⟩
  · have T : Taken s m (.place n v) := taken_custody h nofun
    let j := s.withEntry m (.place n v) .untaken
    have hpj : j.pack n = some p := hp
    have hrun : runRequest j (.place n v) = (placeAccepted j p b, okay (.packState (some .inBay))) := by
      change reqPlace j n v = _
      have hmode : (decide (j.line.mode = .drain) || decide (j.line.mode = .safeHold)) = false := by
        have hd' : j.line.mode ≠ .drain := hd
        have hsh' : j.line.mode ≠ .safeHold := hsh
        simp [hd', hsh']
      have hset' : (j.bay b).settings.isNone = false := by rw [Option.isNone_eq_false_iff]; exact hset
      have hempty' : (j.bay b).state = .empty := hempty
      have hbj : j.bufferShort = false := bufferShort_false hb
      simp only [reqPlace, hv, hn, hmode, hpj, hst, hset', hempty', hbj, ne_eq, not_true_eq_false, Bool.false_eq_true, if_false]
    obtain rfl := tag_of_pack hp
    obtain ⟨hpack, hothers, hbay, hother, haccepts, hcore, hframe⟩ := placeAccepted_placed (Option.isSome_of_eq_some hpj) b
    generalize placeAccepted j p b = u at *
    refine ⟨_, T.finish (c := .place m p.tag v) rfl rfl hrun, T.queued hcore _, hpack, hothers, hbay, hother,
      haccepts.congr rfl rfl rfl rfl rfl, linkKept_row hcore _, ?_⟩
    exact congrArg (fun t => t.withStage (okay (.packState (some .inBay)))) hframe
  · have T : Taken s m (.place n v) := taken_custody h nofun
    let j := s.withEntry m (.place n v) .untaken
    have hsame {st : Stage} (e : reqPlace j n v = (j, st)) :
        exec (.place m n v) s = .next (finish s (s.withEntry m (.place n v) st)) := T.same (c := .place m n v) rfl rfl e
    have hm : j.line.mode = s.line.mode := rfl
    have hpk : j.pack n = s.pack n := rfl
    refine ⟨fun hbad => hsame ?_, fun b hn hv => ⟨fun hmode => hsame ?_, fun hd hsh => ⟨fun hp => hsame ?_, fun p hp =>
      ⟨fun hst => hsame ?_, fun hst hset => hsame ?_, fun hst hset he => hsame ?_, fun hst hset he hb => hsame ?_⟩⟩⟩⟩
    · unfold reqPlace
      cases hv : bayOf v with
      | none => rfl
      | some b =>
        obtain hn | hv' := hbad
        · exact if_pos hn
        · rw [hv] at hv'
          exact absurd hv' nofun
    · simp only [reqPlace, hv, hn, hm, Bool.or_eq_true, decide_eq_true_eq, hmode, if_false, if_true]
      rfl
    all_goals
      simp only [reqPlace, hv, hn, hm, hd, hsh, hpk, hp, decide_false, Bool.or_self, Bool.false_eq_true, if_false]
    · rfl
    · simp only [ne_eq, hst, not_false_eq_true, if_true]
      rfl
    · have hset' : (j.bay b).settings.isNone = true := by rw [Option.isNone_iff_eq_none]; exact hset
      simp only [hst, ne_eq, not_true_eq_false, hset', if_false, if_true]
      rfl
    all_goals
      have hset' : (j.bay b).settings.isNone = false := by rw [Option.isNone_eq_false_iff]; exact hset
    · have he' : (j.bay b).state ≠ .empty := he
      simp only [hst, ne_eq, not_true_eq_false, hset', he', not_false_eq_true, Bool.false_eq_true, if_false, if_true]
      rfl
    · have he' : (j.bay b).state = .empty := he
      have hbj : j.bufferShort = true := bufferShort_true hb
      simp only [hst, ne_eq, not_true_eq_false, hset', he', hbj, Bool.false_eq_true, if_false, if_true]
      rfl

end Sys2Proof.Machine
end

section
/-! A pack event submitted, the start of a feed, and a pack staged (O30). -/

namespace Sys2Proof.Machine

/-! ### A pack event submitted (R1, R155) -/

theorem submit_taken {s : State} {e : PackEvent} (hp : s.phase = .running) (hh : s.held = []) (hf : (applyEvent s e).1.fits = true) :
    submit s e = ((applyEvent s e).1, some (applyEvent s e).2) := by
  simp only [submit, hp, hh, hf, List.isEmpty_nil, decide_true, Bool.and_self, if_true]

theorem submit_held {s : State} {e : PackEvent} (h : ¬(s.phase = .running ∧ s.held = [] ∧ (applyEvent s e).1.fits = true)) :
    submit s e = ({ s with held := s.held ++ [e] }, none) := by
  unfold submit
  refine if_neg fun hc => h ?_
  simp only [Bool.and_eq_true, decide_eq_true_eq, List.isEmpty_iff, and_assoc] at hc
  exact hc

theorem fits_iff (s : State) : s.fits = true ↔ s.writer.buffer.length ≤ 64 := decide_eq_true_iff

/-! ### The start of a feed (R138) -/

/-- FEEDING is for the STAGED pack at the queue head (R15). -/
theorem takeFeeding_staged {s : State} {n : Tag} {p : Pack} (hq : s.queue.head? = some n) (hp : s.pack n = some p)
    (hst : p.state = .staged) : takeFeeding s n = (putPack s { p with state := .feeding }, .continued) := by
  simp only [takeFeeding, hp, hst, hq, Option.filter_some, decide_true, Bool.and_self, if_true]

theorem takeFeeding_other {s : State} {n : Tag} (h : ∀ p, s.pack n = some p → p.state ≠ .staged) :
    takeFeeding s n = (s, .ignored) := by
  unfold takeFeeding
  cases hp : s.pack n with
  | none => rfl
  | some p => simp only [Option.filter_some, h p hp, decide_false, Bool.false_and, Bool.false_eq_true, if_false]

theorem fits_takeFeeding (s : State) (n : Tag) : (takeFeeding s n).1.fits = s.fits := by
  unfold takeFeeding
  split <;> rfl

theorem takesEvents_zero_iff (s : State) : s.takesEvents 0 ↔ s.phase = .running ∧ s.held = [] ∧ s.fits = true := by
  rw [fits_iff]
  rfl

section TryFeed

variable {s : State} {n : Tag} {l : List Tag}

theorem tryFeed_none (h : s.queue = [] ∨ s.feeder.state ≠ .ready ∨ s.feederWaits = true) : tryFeed s = s := by
  unfold tryFeed
  split
  · rfl
  · rename_i hq
    refine if_neg ?_
    obtain h | h | h := h
    · rw [h] at hq
      exact absurd hq nofun
    all_goals simp [h]

theorem tryFeed_held (hq : s.queue = n :: l) (hr : s.feeder.state = .ready) (hw : s.feederWaits = false) (h : ¬s.takesEvents 0) :
    tryFeed s = { s with held := s.held ++ [.feeding n] } := by
  have hs : submit s (.feeding n) = _ := submit_held fun ⟨hp, hh, hf⟩ =>
    h ((takesEvents_zero_iff s).2 ⟨hp, hh, (fits_takeFeeding s n) ▸ hf⟩)
  simp only [tryFeed, hq, hr, hw, hs, decide_true, Bool.not_false, Bool.and_self, if_true]

theorem submit_feeding_taken (h : s.takesEvents 0) : submit s (.feeding n) = ((takeFeeding s n).1, some (takeFeeding s n).2) := by
  obtain ⟨hp, hh, hf⟩ := (takesEvents_zero_iff s).1 h
  exact submit_taken hp hh ((fits_takeFeeding s n).trans hf)

theorem tryFeed_other (hq : s.queue = n :: l) (hr : s.feeder.state = .ready) (hw : s.feederWaits = false) (h : s.takesEvents 0)
    (hp : ∀ p, s.pack n = some p → p.state ≠ .staged) : tryFeed s = s := by
  have hs := submit_feeding_taken (n := n) h
  rw [takeFeeding_other hp] at hs
  simp only [tryFeed, hq, hr, hw, hs, decide_true, Bool.not_false, Bool.and_self, if_true]

theorem tryFeed_feeds (hq : s.queue = n :: l) (hr : s.feeder.state = .ready) (hw : s.feederWaits = false) (h : s.takesEvents 0) {p : Pack}
    (hp : s.pack n = some p) (hst : p.state = .staged) :
    tryFeed s = openFeed (putPack s { p with state := .feeding }) n := by
  have hs := submit_feeding_taken (n := n) h
  rw [takeFeeding_staged (by rw [hq]; rfl) hp hst] at hs
  simp only [tryFeed, hq, hr, hw, hs, decide_true, Bool.not_false, Bool.and_self, if_true]

end TryFeed

/-- The pack FEEDING, the gate open. -/
theorem openFeed_putPack {s : State} {p : Pack} (h : (s.pack p.tag).isSome) (n : Tag) :
    let t := openFeed (putPack s p) n
    t.pack p.tag = some p ∧ OtherPacks p.tag s t
    ∧ t.feeder = { s.feeder with
        state := .feeding, gate := true, tag := some n, feedTimer := some (1000 * s.feeder.settings.feedTime)
        resettleNow := s.feeder.resettle }
    ∧ t = { s with packs := t.packs, feeder := t.feeder, link := t.link } := by
  intro t
  let x : Feeder := { s.feeder with
    state := .feeding, gate := true, tag := some n, feedTimer := some (1000 * s.feeder.settings.feedTime)
    resettleNow := s.feeder.resettle }
  have ht : t = { putPack s p with feeder := x, link := t.link } := putFeeder_eq (putPack s p) x
  have hpack := pack_putPack h
  have hother := otherPacks_putPack s p
  have hpacks (q : Tag) : t.pack q = (putPack s p).pack q := by
    rw [ht]
    rfl
  have hframe : t = { s with packs := t.packs, feeder := t.feeder, link := t.link } := by
    conv_lhs => rw [ht]
    rw [ht]
    rfl
  exact ⟨(hpacks _).trans hpack, fun q hq => (hpacks q).trans (hother q hq), by rw [ht], hframe⟩

/-- What a look for a feed comes to. -/
theorem tryFeed_looks (s : State) :
    let t := tryFeed s
    (s.queue = [] ∨ s.feeder.state ≠ .ready ∨ s.feederWaits = true → t = s)
    ∧ ∀ n l, s.queue = n :: l → s.feeder.state = .ready → s.feederWaits = false →
      (¬s.takesEvents 0 → t = { s with held := s.held ++ [.feeding n] })
      ∧ (s.takesEvents 0 → (∀ p, s.pack n = some p → p.state ≠ .staged) → t = s)
      ∧ (s.takesEvents 0 → ∀ p, s.pack n = some p → p.state = .staged →
          t.pack n = some { p with state := .feeding } ∧ OtherPacks n s t
          ∧ t.feeder = { s.feeder with
              state := .feeding, gate := true, tag := some n, feedTimer := some (1000 * s.feeder.settings.feedTime)
              resettleNow := s.feeder.resettle }
          ∧ LinkKept s t ∧ t.link.queue = s.link.queue ∧ t = { s with packs := t.packs, feeder := t.feeder, link := t.link }) := by
  refine ⟨tryFeed_none, fun n l hq hr hw => ⟨tryFeed_held hq hr hw, tryFeed_other hq hr hw, fun h p hp hst => ?_⟩⟩
  have hcore : (tryFeed s).core = s.core := tryFeed_core s
  have e := tryFeed_feeds hq hr hw h hp hst
  obtain rfl := tag_of_pack hp
  obtain ⟨hpack, hother, hfeeder, hframe⟩ :=
    openFeed_putPack (s := s) (p := { p with state := .feeding }) (Option.isSome_of_eq_some hp) p.tag
  rw [← e] at hpack hother hfeeder hframe
  exact ⟨hpack, hother, hfeeder, linkKept_of_core hcore, congrArg Core.requests hcore, hframe⟩

/-! ### STAGE (R7) -/

/-- A STAGE before its report to the zone and the look for a feed: the tag queued, the pack STAGED with its record, its bay EMPTY. -/
def staged (s : State) (p : Pack) : State :=
  let u := writePack { s with queue := s.queue ++ [p.tag] } { p with state := .staged, bay := none } .stage p.bay .none
  match p.bay with
  | some b => putBay u b (s.bay b).release.toEmpty
  | none => u

theorem stageAccepted_eq (s : State) (p : Pack) : stageAccepted s p = tryFeed (match p.bay with
    | some b => if (s.bay b).overLimit then thermalChange (staged s p) b else staged s p
    | none => staged s p) := by
  unfold stageAccepted staged
  have hbays : (writePack { s with queue := s.queue ++ [p.tag] } { p with state := .staged, bay := none } .stage p.bay .none).bays
      = s.bays := by
    unfold writePack
    dsimp only
    rw [accept_eq]
    rfl
  cases hp : p.bay with
  | none => rfl
  | some b =>
    rw [hp] at hbays
    have hb := bay_of_bays hbays b
    dsimp only [vacate]
    rw [hb]

theorem staged_core (s : State) (p : Pack) : (staged s p).core = s.core := by
  unfold staged
  cases p.bay with
  | none => exact writePack_core _ _ _ _ _
  | some b => exact (putBay_core _ b _).trans (writePack_core _ _ _ _ _)

theorem staged_written {s : State} {p : Pack} (h : (s.pack p.tag).isSome) :
    let q : Pack := { p with state := .staged, bay := none }
    let t := staged s p
    t.queue = s.queue ++ [p.tag] ∧ t.pack p.tag = some q.counted ∧ OtherPacks p.tag s t
    ∧ (∀ b, p.bay = some b → t.bay b = (s.bay b).release.toEmpty ∧ OtherBays b s t)
    ∧ (p.bay = none → t.bays = s.bays)
    ∧ Accepts s t [packDraft q.counted .stage p.bay .none]
    ∧ t = { s with packs := t.packs, queue := t.queue, bays := t.bays, writer := t.writer, line := t.line, link := t.link } := by
  intro q t
  let j : State := { s with queue := s.queue ++ [p.tag] }
  obtain ⟨hpack, hothers, haccepts, -, -, hframe⟩ := writePack_written (s := j) (p := q) h .stage p.bay .none
  have ht : t = match p.bay with
      | some b => putBay (writePack j q .stage p.bay .none) b (s.bay b).release.toEmpty
      | none => writePack j q .stage p.bay .none := rfl
  generalize writePack j q .stage p.bay .none = u at *
  have hbays : u.bays = s.bays := by rw [hframe]
  have hqueue : u.queue = s.queue ++ [p.tag] := by rw [hframe]
  have haccepts' : Accepts s u [packDraft q.counted .stage p.bay .none] := haccepts.congr rfl rfl rfl rfl rfl
  cases hb : p.bay with
  | none =>
    rw [hb] at ht haccepts'
    obtain rfl : t = u := ht
    exact ⟨hqueue, hpack, hothers, fun b hb => absurd hb nofun, fun _ => hbays, haccepts', by rw [hframe]⟩
  | some b =>
    rw [hb] at ht haccepts'
    have hbay := bay_putBay u b (s.bay b).release.toEmpty
    have hother := otherBays_putBay u b (s.bay b).release.toEmpty
    have hl := baysLinkOnly_putBay u b (s.bay b).release.toEmpty
    dsimp only at ht
    rw [← ht] at hbay hother hl
    generalize t = t at *
    have hpacks (n : Tag) := packs_of_baysLinkOnly hl n
    refine ⟨?_, (hpacks _).trans hpack, fun n hn => (hpacks n).trans (hothers n hn), fun c hc => ?_, fun hn => absurd hn nofun, ?_, ?_⟩
    · obtain ⟨v, l, rfl⟩ := hl
      exact hqueue
    · obtain rfl := Option.some.inj hc
      exact ⟨hbay, fun c hc => (hother c hc).trans (bay_of_bays hbays c)⟩
    all_goals obtain ⟨v, l, rfl⟩ := hl
    · exact haccepts'.congr rfl rfl rfl rfl rfl
    · rw [hframe]

/-- No incident of the pack stands uncleared (R7). -/
theorem exposure_free_iff (p : Pack) : p.exposure.any (fun e => !e.cleared) = false ↔ ∀ e, p.exposure = some e → e.cleared = true := by
  cases p.exposure with
  | none => simp
  | some x => simp

/-- Settles O30. -/
theorem packStaged : Obligations.PackStaged := by
  refine ⟨fun s m n p h hn hp hst he hq hb => ?_, fun s m n h => ?_, tryFeed_looks⟩
  · have T : Taken s m (.stage n) := taken_custody h nofun
    let j := s.withEntry m (.stage n) .untaken
    have hpj : j.pack n = some p := hp
    have hfree : p.exposure.any (fun e => !e.cleared) = false := (exposure_free_iff p).2 he
    have hqj : ¬12 ≤ j.queue.length := Nat.not_le.2 hq
    have hbj : j.bufferShort = false := bufferShort_false hb
    have hreq : reqStage j n = if 14 ≤ p.charge then (quarantinePack j p .recordLimit, limited)
        else (stageAccepted j p, okay (.packState (some .staged))) := by
      simp only [reqStage, hn, hpj, hst, hfree, hqj, hbj, ne_eq, not_true_eq_false, Bool.false_eq_true, if_false]
    refine ⟨fun hc => ?_, fun hc => ?_⟩
    · obtain rfl := tag_of_pack hp
      have hrun : runRequest j (.stage p.tag) = (stageAccepted j p, okay (.packState (some .staged))) :=
        hreq.trans (if_neg (Nat.not_le.2 hc))
      have hcore := staged_core j p
      obtain ⟨hqueue, hpack, hothers, hbay, hstay, haccepts, hframe⟩ := staged_written (Option.isSome_of_eq_some hpj)
      rw [stageAccepted_eq] at hrun
      generalize staged j p = v at *
      refine ⟨v, T.finish (c := .stage m p.tag) rfl rfl hrun, congrArg Core.requests hcore, hqueue, hpack, hothers, hbay, hstay,
        haccepts.congr rfl rfl rfl rfl rfl, (linkKept_withEntry s m _ .untaken).trans (linkKept_of_core hcore), ?_⟩
      exact hframe
    · exact T.finish (c := .stage m n) rfl rfl (hreq.trans (if_pos hc))
  · have T : Taken s m (.stage n) := taken_custody h nofun
    let j := s.withEntry m (.stage n) .untaken
    have hsame {st : Stage} (e : reqStage j n = (j, st)) :
        exec (.stage m n) s = .next (finish s (s.withEntry m (.stage n) st)) := T.same (c := .stage m n) rfl rfl e
    have hpk : j.pack n = s.pack n := rfl
    refine ⟨fun hn => hsame ?_, fun hn hp => hsame ?_, fun p hn hp => ?_⟩
    · rw [reqStage, if_pos hn]
      rfl
    · simp only [reqStage, hn, hpk, hp, if_false]
      rfl
    · intro free
      have hfree : p.exposure.any (fun e => !e.cleared) = false ↔ free := exposure_free_iff p
      refine ⟨fun hst => hsame ?_, fun hst hx => hsame ?_, fun hst hx hq => hsame ?_, fun hst hx hq hb => hsame ?_⟩
      all_goals simp only [reqStage, hn, hpk, hp, hst, ne_eq, not_false_eq_true, not_true_eq_false, if_false, if_true]
      · rfl
      · have hx' : p.exposure.any (fun e => !e.cleared) = true := Bool.of_not_eq_false fun e => hx (hfree.1 e)
        rw [if_pos hx']
        rfl
      all_goals rw [hfree.2 hx, if_neg Bool.false_ne_true]
      · rw [if_pos (show 12 ≤ j.queue.length from hq)]
        rfl
      · rw [if_neg (show ¬12 ≤ j.queue.length from Nat.not_le.2 hq), if_pos (show j.bufferShort = true from bufferShort_true hb)]
        rfl

end Sys2Proof.Machine
end

section
/-! A pack that exits (O31). -/

namespace Sys2Proof.Machine

/-! ### An exit (R17, R19, R20) -/

/-- The record of an exit (R17). -/
def exitDraft (p : Pack) (k : ExitKind) (late : Bool) : Draft :=
  match k with
  | .fed => packDraft p.counted .fed none (.fed late)
  | .removed => packDraft p.counted .removed p.bay .none

/-- An exit before its lot may go final: the record, the lot's counters, the entry and its tag gone. -/
def exiting (s : State) (p : Pack) (k : ExitKind) (late : Bool) : State :=
  let u := accept s (exitDraft p k late)
  let v := match u.lot p.lot with
    | some l => u.setLot (l.exit p k)
    | none => u
  (leaveQueue { v with packs := v.packs.filter (fun q => q.tag ≠ p.tag) } p.tag).listPack p.tag (some k)

theorem exitPack_eq (s : State) (p : Pack) (k : ExitKind) (late : Bool) :
    exitPack s p k late = finalizeLot (exiting s p k late) p.lot := by
  cases k <;> rfl

theorem exiting_eq (s : State) (p : Pack) (k : ExitKind) (late : Bool) : ∃ x, exiting s p k late = { s with
    packs := s.packs.filter (fun q => q.tag ≠ p.tag), queue := s.queue.filter (· ≠ p.tag), link := x
    lots := match s.lot p.lot with
      | some l => (s.setLot (l.exit p k)).lots
      | none => s.lots
    writer := (accept s (exitDraft p k late)).writer, line := (accept s (exitDraft p k late)).line } := by
  obtain ⟨w, i, x, hu⟩ : ∃ w i x, accept s (exitDraft p k late) = { s with writer := w, line := i, link := x } :=
    ⟨_, _, _, accept_eq s _⟩
  have hlot : (accept s (exitDraft p k late)).lot p.lot = s.lot p.lot := by
    rw [hu]
    rfl
  unfold exiting
  dsimp only
  rw [hlot, hu]
  cases s.lot p.lot with
  | none => exact ⟨_, rfl⟩
  | some l => exact ⟨_, rfl⟩

theorem accepts_exiting (s : State) (p : Pack) (k : ExitKind) (late : Bool) :
    Accepts s (exiting s p k late) [exitDraft p k late] := by
  obtain ⟨x, e⟩ := exiting_eq s p k late
  exact (accepts_accept s (exitDraft p k late)).congr rfl rfl rfl (by rw [e]) (by rw [e])

theorem finalizeLot_cases (s : State) (n : Tag) : ∃ l w i k, finalizeLot s n = { s with lots := l, writer := w, line := i, link := k } := by
  cases h : s.lot n with
  | none => exact ⟨s.lots, s.writer, s.line, s.link, by simp only [finalizeLot, h]⟩
  | some l =>
    by_cases hl : l.state = .closing ∧ l.inCustody = 0
    · exact ⟨_, _, _, _, (finalizeLot_final h hl.1 hl.2).2.2⟩
    · exact ⟨s.lots, s.writer, s.line, s.link, finalizeLot_kept h hl⟩

theorem exitPack_frame (s : State) (p : Pack) (k : ExitKind) (late : Bool) : ∃ l w i x, exitPack s p k late = { s with
    packs := s.packs.filter (fun q => q.tag ≠ p.tag), queue := s.queue.filter (· ≠ p.tag), lots := l, writer := w, line := i, link := x } := by
  obtain ⟨l, w, i, x, e⟩ := finalizeLot_cases (exiting s p k late) p.lot
  obtain ⟨y, e'⟩ := exiting_eq s p k late
  exact ⟨l, w, i, x, (exitPack_eq s p k late).trans (by rw [e, e'])⟩

theorem number_exit (l : Lot) (p : Pack) (k : ExitKind) : (l.exit p k).number = l.number := by
  cases k <;> rfl

section Exit

variable {s : State} {p : Pack} {l : Lot} (hl : s.lot p.lot = some l) (k : ExitKind) (late : Bool)
include hl

theorem lots_exiting : (exiting s p k late).lots = (s.setLot (l.exit p k)).lots := by
  obtain ⟨x, e⟩ := exiting_eq s p k late
  rw [e, hl]

theorem lot_exiting : (exiting s p k late).lot p.lot = some (l.exit p k) := by
  have hn : (l.exit p k).number = p.lot := (number_exit l p k).trans (number_of_lot hl)
  have h := lot_setLot (s := s) (l := l.exit p k) (by rw [hn, hl]; rfl)
  rw [hn] at h
  rw [State.lot, lots_exiting hl]
  exact h

theorem exitPack_final (hc : (l.exit p k).state = .closing) (h0 : (l.exit p k).inCustody = 0) :
    (exitPack s p k late).lots = s.lots.filter (fun u => u.number ≠ p.lot)
    ∧ Accepts s (exitPack s p k late) [exitDraft p k late, finalDraft s p.lot (l.exit p k)] := by
  obtain ⟨haccepts, hlots, -⟩ := finalizeLot_final (lot_exiting hl k late) hc h0
  have hn : (l.exit p k).number = p.lot := (number_exit l p k).trans (number_of_lot hl)
  have hgone := filter_setLot s (l.exit p k)
  rw [hn] at hgone
  obtain ⟨x, e⟩ := exiting_eq s p k late
  rw [exitPack_eq]
  refine ⟨hlots.trans (by rw [lots_exiting hl, hgone]), (accepts_exiting s p k late).append (haccepts.one ?_) (by rw [e])⟩
  rw [e]
  rfl

theorem exitPack_kept (h : ¬((l.exit p k).state = .closing ∧ (l.exit p k).inCustody = 0)) :
    (exitPack s p k late).lots = s.lots.map (fun u => if u.number = p.lot then l.exit p k else u)
    ∧ Accepts s (exitPack s p k late) [exitDraft p k late] := by
  have hn : (l.exit p k).number = p.lot := (number_exit l p k).trans (number_of_lot hl)
  rw [exitPack_eq, finalizeLot_kept (lot_exiting hl k late) h]
  refine ⟨?_, accepts_exiting s p k late⟩
  rw [lots_exiting hl, State.setLot, hn]

end Exit

/-! ### The empty table (R1, R146) -/

theorem reportEmpty_drained {s u : State} (hs : s.packs ≠ []) (hu : u.packs = []) (hm : u.line.mode = .drain) :
    reportEmpty s u = setLineMode u .standby none := by
  simp only [reportEmpty, hu, hm, List.isEmpty_eq_false_iff.2 hs, List.isEmpty_nil, decide_true, Bool.not_false, Bool.and_self, if_true]

theorem reportEmpty_same {s u : State} (h : s.packs = [] ∨ u.packs ≠ [] ∨ u.line.mode ≠ .drain) : reportEmpty s u = u := by
  refine if_neg fun e => ?_
  simp only [Bool.and_eq_true, Bool.not_eq_true', List.isEmpty_eq_false_iff, List.isEmpty_iff, decide_eq_true_eq] at e
  obtain ⟨⟨hs, hu⟩, hm⟩ := e
  obtain h | h | h := h
  · exact hs h
  · exact h hu
  · exact h hm

/-- DRAIN ends in STANDBY: bays, interlock and feeder follow. -/
theorem drained_follows (u : State) :
    let t := setLineMode u .standby none
    t.line = { u.line with mode := .standby, cause := none } ∧ BaysFollow u t
    ∧ RunFollows u t
    ∧ (u.interlock.permission = true → (u.interlock.state = .starting ∨ u.interlock.state = .running) →
        t.interlock.state = .stopping)
    ∧ t.feeder.reasons = t.blockReasons ∧ LinkKept u t ∧ t.link.queue = u.link.queue
    ∧ t = { u with bays := t.bays, line := t.line, interlock := t.interlock, feeder := t.feeder, link := t.link } := by
  intro t
  have R : ModeSet u t .standby none := setLineMode_set u .standby none
  have hstop : t.packs = u.packs ∧ t.held = u.held := setLineMode_stopped u rfl none
  obtain ⟨hpacks, hheld⟩ := hstop
  have hrow := R.frame
  rw [hpacks, hheld] at hrow
  have hunmet := R.unmet nofun nofun
  clear_value t
  refine ⟨R.line, R.baysFollow, runFollows_of_permitted R.interlock, fun hp hi => ?_, R.reasons,
    linkKept_of_core R.core, congrArg Core.requests R.core, hrow⟩
  rw [R.interlock, hunmet, Interlock.permitted, if_pos ⟨hp, rfl, hi⟩]

/-- Settles O31. -/
theorem packRemoved : Obligations.PackRemoved := by
  refine ⟨fun s p l k late hp hl => ?_, fun s m n h => ?_, fun s u => ⟨fun hs hu hm => ?_, reportEmpty_same⟩⟩
  · intro t q d
    have hcore : t.core = s.core := exitPack_core s p k late
    have hd : d = exitDraft p k late := by cases k <;> rfl
    obtain ⟨lots, w, i, x, e⟩ := exitPack_frame s p k late
    have he : q.energy = l.energy + p.energy := by cases hk : k <;> simp only [q, hk, Lot.exit]
    refine ⟨congrArg State.packs e, congrArg State.queue e, he, fun hk => ?_, fun hk => ?_, fun hf => ?_, fun hf => ?_,
      linkKept_of_core hcore, congrArg Core.requests hcore, ?_⟩
    · simp only [q, hk, Lot.exit, satAdd]
    · simp only [q, hk, Lot.exit, satAdd]
    · rw [hd]
      exact exitPack_final hl k late hf.1 hf.2
    · rw [hd]
      exact exitPack_kept hl k late hf
    · change t = _ at e
      rw [e]
  · have T : Taken s m (.remove n) := taken_custody h nofun
    let j := s.withEntry m (.remove n) .untaken
    have hsame {st : Stage} (e : reqRemove j n = (j, st)) :
        exec (.remove m n) s = .next (finish s (s.withEntry m (.remove n) st)) := T.same (c := .remove m n) rfl rfl e
    have hpk : j.pack n = s.pack n := rfl
    refine ⟨fun hn => hsame ?_, fun hn hp => hsame ?_, fun p hn hp => ⟨fun hi hq => hsame ?_, fun hst hb => hsame ?_, fun hst hb => ?_⟩⟩
    · rw [reqRemove, if_pos hn]
      rfl
    · simp only [reqRemove, hn, hpk, hp, if_false]
      rfl
    · simp only [reqRemove, hn, hpk, hp, hi, hq, ne_eq, not_false_eq_true, decide_true, Bool.and_self, if_false, if_true]
      rfl
    all_goals
      have hst' : (decide (p.state ≠ .intake) && decide (p.state ≠ .quarantined)) = false := by
        obtain e | e := hst <;> simp [e]
    · have hbj : j.bufferShort = true := bufferShort_true hb
      simp only [reqRemove, hn, hpk, hp, hst', hbj, Bool.false_eq_true, if_false, if_true]
      rfl
    · intro j' e v w
      have hbj : j.bufferShort = false := bufferShort_false hb
      obtain ⟨lots, x, i, y, hexit⟩ := exitPack_frame j p .removed false
      change e = _ at hexit
      have hbays : e.bays = s.bays := by
        rw [hexit]
        rfl
      have hpacks : e.packs = j.packs.filter (fun q => q.tag ≠ p.tag) := by rw [hexit]
      have hgone : e.pack n = none := by
        rw [State.pack, List.find?_eq_none]
        intro k hk
        have hk' : k ∈ j.packs.filter (fun q => q.tag ≠ p.tag) := hpacks ▸ hk
        have hne := (List.mem_filter.1 hk').2
        rw [tag_of_pack hp] at hne
        simpa using hne
      have hrun : runRequest j (.remove n) = (reportEmpty j w, okay .none) := by
        have hw : removeAccepted j p = reportEmpty j w := by
          simp only [w, v]
          unfold removeAccepted
          dsimp only
          cases p.bay with
          | none => rfl
          | some b =>
            dsimp only [vacate]
            rw [bay_of_bays hbays b]
            rfl
        change reqRemove j n = _
        simp only [reqRemove, hn, hpk, hp, hst', hbj, Bool.false_eq_true, if_false, hw]
      refine ⟨T.finish (c := .remove m n) rfl rfl hrun, ?_⟩
      simp only [v]
      cases p.bay with
      | none => exact hgone
      | some b => exact (packs_of_baysLinkOnly (baysLinkOnly_putBay e b _) n).trans hgone
  · rw [reportEmpty_drained hs hu hm]
    exact drained_follows u

end Sys2Proof.Machine
end

section
/-! The bay requests (O33). -/

namespace Sys2Proof.Machine

/-! ### A hold-reason set changed alone (R43, R155) -/

/-- The bay takes its set and no more: it waits, does not discharge and is not HELD, gains none while it discharges, or stays HELD. -/
def Bay.holdsAlone (waits : Bool) (h : Holds) (x : Bay) : Prop :=
  waits = true ∨ (x.state ≠ .discharging ∧ x.state ≠ .held) ∨ (x.state = .discharging ∧ h.isEmpty = true)
  ∨ (x.state = .held ∧ (h.isEmpty = false ∨ x.sense = .lost))

theorem setHolds_alone {s : State} {b : BayId} {h : Holds} (ha : (s.bay b).holdsAlone (s.awaiting b) h) :
    (setHolds s b h).bay b = { s.bay b with holds := h } ∧ OtherBays b s (setHolds s b h) := by
  unfold Bay.holdsAlone at ha
  obtain ⟨hh, e⟩ | ⟨-, hw, hs, he, -⟩ | ⟨-, hw, hs, he, hg, -⟩ | ⟨-, -, e⟩ := setHolds_cases s b h
  · rw [e, ← hh]
    exact ⟨rfl, fun c _ => rfl⟩
  · simp [hw, hs, he] at ha
  · simp [hw, hs, he, hg] at ha
  · rw [e]
    exact ⟨bay_putBay s b _, otherBays_putBay s b _⟩

/-- A DISCHARGING bay that gains a reason leaves the arbiter without a command. -/
theorem setHolds_gains {s : State} {b : BayId} {h : Holds} (hne : (s.bay b).holds ≠ h) (hw : s.awaiting b = false)
    (hs : (s.bay b).state = .discharging) (he : h.isEmpty = false) :
    (setHolds s b h).bay b = { s.bay b with
      holds := h, state := .held, participant := false, request := 0, grant := 0, command := 0, sustained := 0 } := by
  obtain ⟨hh, -⟩ | ⟨-, -, -, -, e⟩ | ⟨-, -, hs', -⟩ | ⟨hd, -, -⟩ := setHolds_cases s b h
  · exact absurd hh hne
  · rw [e, bay_putApart, apart_eq]
  · rw [hs] at hs'
    cases hs'
  · rw [hd hw hs] at he
    cases he

/-! ### PAUSE_BAY and CONTINUE_BAY (R44) -/

theorem idle_iff (x : Bay) : x.idle = true ↔ x.state = .empty ∨ x.state = .locked := by
  simp only [Bay.idle, Bool.or_eq_true, decide_eq_true_eq]

section RequestHold

variable {s : State} {m v : Byte} {on : Bool}

/-- PAUSE_BAY or CONTINUE_BAY. -/
def holdRequest (on : Bool) (v : Byte) : Request := if on then .pauseBay v else .continueBay v

/-- Its row. -/
def holdRow (on : Bool) (m v : Byte) : Instr := if on then .pauseBay m v else .continueBay m v

theorem taken_holdRequest (h : s.takesNow = true) : Taken s m (holdRequest on v) := by
  cases on
  · exact taken_plain h rfl nofun
  · exact taken_plain h rfl nofun

theorem exec_holdRow (h : s.takesNow = true) {u : State} {st : Stage}
    (e : requestHold (s.withEntry m (holdRequest on v) .untaken) v on = (u, st)) :
    exec (holdRow on m v) s = .next (finish s (u.withStage st)) := by
  have T : Taken s m (holdRequest on v) := taken_holdRequest h
  cases on
  · exact T.finish (c := .continueBay m v) rfl rfl e
  · exact T.finish (c := .pauseBay m v) rfl rfl e

theorem exec_holdRow_same (h : s.takesNow = true) {st : Stage}
    (e : requestHold (s.withEntry m (holdRequest on v) .untaken) v on = (s.withEntry m (holdRequest on v) .untaken, st)) :
    exec (holdRow on m v) s = .next (finish s (s.withEntry m (holdRequest on v) st)) := by
  rw [exec_holdRow h e, withStage_withEntry h]

end RequestHold

/-- The reply tells the set reached (R44). -/
theorem requestHold_runs {s : State} {v : Byte} {b : BayId} (hv : bayOf v = some b) (hi : (s.bay b).idle = false) (on : Bool) :
    requestHold s v on = (setHolds s b { (s.bay b).holds with requested := on },
      okay (.holds { (s.bay b).holds with requested := on })) := by
  have S := (synced_setHolds s b { (s.bay b).holds with requested := on }).holds
  simp only [requestHold, hv, hi, Bool.false_eq_true, if_false, S]

/-- What a set changed by PAUSE_BAY or CONTINUE_BAY comes to. -/
theorem requestHold_follows (s : State) (b : BayId) (on : Bool) :
    let h : Holds := { (s.bay b).holds with requested := on }
    let t := setHolds s b h
    (t.bay b).holds = h
    ∧ (s.awaiting b = false → (s.bay b).state = .discharging → (s.bay b).holds.requested = false → on = true →
        (t.bay b).state = .held ∧ (t.bay b).command = 0 ∧ (t.bay b).participant = false ∧ (t.bay b).sustained = 0)
    ∧ (s.awaiting b = false → (s.bay b).state = .held → (s.bay b).holds = ⟨false, false, false, true, false⟩ →
        (s.bay b).sense = .good → on = false →
        (t.bay b).state = .discharging ∧ (t.bay b).participant = true ∧ (t.bay b).block = none)
    ∧ ((s.bay b).holds.requested = on → t.bays = s.bays)
    ∧ ((s.bay b).holdsAlone (s.awaiting b) h → t.bay b = { s.bay b with holds := h } ∧ OtherBays b s t)
    ∧ OtherBaysRegranted b s t := by
  intro h t
  have S : (s.bay b).Synced (s.awaiting b) h (t.bay b) := synced_setHolds s b h
  refine ⟨S.holds, fun hw hs hr hon => ?_, fun hw hs hh hg hon => ?_, fun hr => ?_, setHolds_alone, (othersRegranted_setHolds s b h).words⟩
  · have he : h.isEmpty = false := by simp [h, hon, Holds.isEmpty]
    have hne : (s.bay b).holds ≠ h := fun e => by
      have e' := congrArg Holds.requested e
      rw [hr, show h.requested = on from rfl, hon] at e'
      cases e'
    rw [show t.bay b = _ from setHolds_gains hne hw hs he]
    exact ⟨rfl, rfl, rfl, rfl⟩
  · refine S.returns hw hs ?_ hg ?_
    · rw [hh]
      rfl
    · simp only [h, hh, hon]
      rfl
  · have hh : (s.bay b).holds = h := by
      simp only [h, ← hr]
    have e : t = s := if_pos hh
    rw [e]

/-! ### CONFIRM_BAY (R47) -/

/-- The pack stands with its CONFIRM record, and the bay waits for a new block. -/
theorem confirmAccepted_confirmed {s : State} {p : Pack} (h : (s.pack p.tag).isSome) (hc : p.charge < 14) (b : BayId) :
    ∃ t, confirmAccepted s b p = (t, okay (.packState (some p.state))) ∧ t.core = s.core
      ∧ t.bay b = (s.bay b).confirmed ∧ OtherBays b s t ∧ t.pack p.tag = some p.counted ∧ OtherPacks p.tag s t
      ∧ Accepts s t [packDraft p.counted .confirm (some b) .none]
      ∧ t = { s with packs := t.packs, bays := t.bays, writer := t.writer, line := t.line, link := t.link } := by
  obtain ⟨hpack, hothers, haccepts, -, -, hframe⟩ := writePack_written h .confirm (some b) .none
  have hcore := writePack_core s p .confirm (some b) .none
  have hdef : confirmAccepted s b p = (putBay (writePack s p .confirm (some b) .none) b
      ((writePack s p .confirm (some b) .none).bay b).confirmed, okay (.packState (some p.state))) := by
    rw [confirmAccepted, otherRecord, if_neg (Nat.not_le.2 hc)]
  generalize writePack s p .confirm (some b) .none = u at *
  have hbays : u.bays = s.bays := by rw [hframe]
  have hl := baysLinkOnly_putBay u b (u.bay b).confirmed
  have hbay := bay_putBay u b (u.bay b).confirmed
  have hother := otherBays_putBay u b (u.bay b).confirmed
  have hcore' := putBay_core u b (u.bay b).confirmed
  refine ⟨_, hdef, hcore'.trans hcore, hbay.trans (by rw [bay_of_bays hbays]), fun c hc => (hother c hc).trans (bay_of_bays hbays c),
    (packs_of_baysLinkOnly hl _).trans hpack, fun n hn => (packs_of_baysLinkOnly hl n).trans (hothers n hn), ?_, ?_⟩
  all_goals
    generalize putBay u b (u.bay b).confirmed = t at *
    obtain ⟨v, l, rfl⟩ := hl
  · exact haccepts.congr rfl rfl rfl rfl rfl
  · rw [hframe]

theorem pack_of_bayPack {s : State} {b : BayId} {p : Pack} (h : s.bayPack b = some p) :
    (s.bay b).pack = some p.tag ∧ s.pack p.tag = some p := by
  obtain ⟨n, hn, hp⟩ := Option.bind_eq_some_iff.1 h
  have htag := tag_of_pack hp
  exact ⟨by rw [hn, htag], by rw [htag, hp]⟩

theorem exec_confirmBay {s : State} {m v : Byte} (h : s.takesNow = true) {st : Stage} {u : State}
    (e : reqConfirmBay (s.withEntry m (.confirmBay v) .untaken) v = (u, st)) :
    exec (.confirmBay m v) s = .next (finish s (u.withStage st)) :=
  (taken_plain h rfl nofun : Taken s m (.confirmBay v)).finish (c := .confirmBay m v) rfl rfl e

/-- CONFIRM_BAY's refusals, in their order. -/
theorem confirmBay_refused {s : State} {m v : Byte} {b : BayId} (h : s.takesNow = true) (hv : bayOf v = some b) :
    let refused (st : Status) : Prop :=
      exec (.confirmBay m v) s = .next (finish s (s.withEntry m (.confirmBay v) (.formed ⟨st, .none⟩)))
    let due : Prop := (s.bay b).state = .placed ∧ (s.bay b).holds.restart = true
    (s.bayPack b = none ∨ ¬due → refused .wrongState)
    ∧ ∀ p, s.bayPack b = some p → due →
      ((s.bay b).settings = none ∨ s.classes[p.cls] = none → refused .notConfigured)
      ∧ ((s.bay b).settings.isSome = true → (s.classes[p.cls]).isSome = true → 48 < s.writer.buffer.length → refused .busy) := by
  intro refused due
  let j := s.withEntry m (.confirmBay v) .untaken
  have hsame {st : Status} (e : reqConfirmBay j v = (j, .formed ⟨st, .none⟩)) : refused st := by
    have e' := exec_confirmBay h e
    rwa [withStage_withEntry h] at e'
  have hp' : j.bayPack b = s.bayPack b := rfl
  have hx : j.bay b = s.bay b := rfl
  have hc : j.classes = s.classes := rfl
  have hdue : (decide ((s.bay b).state = .placed) && (s.bay b).holds.restart) = true ↔ due := by
    rw [Bool.and_eq_true, decide_eq_true_eq]
  refine ⟨fun hbad => hsame ?_, fun p hp hd => ⟨fun hcfg => hsame ?_, fun hset hcls hb => hsame ?_⟩⟩
  · simp only [reqConfirmBay, hv, hp', hx]
    cases hp : s.bayPack b with
    | none => rfl
    | some p =>
      have hnot : (decide ((s.bay b).state = .placed) && (s.bay b).holds.restart) = false := by
        obtain e | e := hbad
        · rw [hp] at e
          cases e
        · exact Bool.of_not_eq_true fun hd => e (hdue.1 hd)
      simp only [hnot, Bool.not_false, if_true]
      rfl
  all_goals simp only [reqConfirmBay, hv, hp', hx, hp, hdue.2 hd, hc, Bool.not_true, Bool.false_eq_true, if_false]
  · refine if_pos ?_
    simpa only [Bool.or_eq_true, Option.isNone_iff_eq_none] using hcfg
  · have hcfg : ((s.bay b).settings.isNone || (s.classes[p.cls]).isNone) = false :=
      Bool.or_eq_false_iff.2 ⟨Option.isNone_eq_false_iff.2 hset, Option.isNone_eq_false_iff.2 hcls⟩
    have hbj : j.bufferShort = true := bufferShort_true hb
    simp only [hcfg, hbj, Bool.false_eq_true, if_false, if_true]
    rfl

theorem confirmBay_accepted {s : State} {m v : Byte} {b : BayId} {p : Pack} (hv : bayOf v = some b) (hp : s.bayPack b = some p)
    (hs : (s.bay b).state = .placed) (hr : (s.bay b).holds.restart = true)
    (hset : (s.bay b).settings.isSome = true) (hcls : (s.classes[p.cls]).isSome = true) (hb : s.writer.buffer.length ≤ 48) :
    let j := s.withEntry m (.confirmBay v) .untaken
    reqConfirmBay j v = confirmAccepted j b p := by
  intro j
  have hp' : j.bayPack b = s.bayPack b := rfl
  have hx : j.bay b = s.bay b := rfl
  have hc : j.classes = s.classes := rfl
  have hcfg : ((s.bay b).settings.isNone || (s.classes[p.cls]).isNone) = false :=
      Bool.or_eq_false_iff.2 ⟨Option.isNone_eq_false_iff.2 hset, Option.isNone_eq_false_iff.2 hcls⟩
  have hbj : j.bufferShort = false := bufferShort_false hb
  simp only [reqConfirmBay, hv, hp', hx, hc, hp, hs, hr, hcfg, hbj, decide_true, Bool.and_self, Bool.not_true, Bool.false_eq_true, if_false]

/-- A bay outside 1 to 8 (R44, R46, R47). -/
theorem bayRequest_outOfRange {s : State} {m v : Byte} (h : s.takesNow = true) (hv : bayOf v = none) :
    let refused (c : Instr) (k : Request) : Prop := exec c s = .next (finish s (s.withEntry m k (.formed ⟨.outOfRange, .none⟩)))
    refused (.pauseBay m v) (.pauseBay v) ∧ refused (.continueBay m v) (.continueBay v)
    ∧ refused (.confirmBay m v) (.confirmBay v) ∧ refused (.unlockBay m v) (.unlockBay v) := by
  have hhold (on : Bool) : requestHold (s.withEntry m (holdRequest on v) .untaken) v on
      = (s.withEntry m (holdRequest on v) .untaken, refuse .outOfRange) := by
    simp only [requestHold, hv]
  refine ⟨exec_holdRow_same (on := true) h (hhold true), exec_holdRow_same (on := false) h (hhold false),
    (taken_plain h rfl nofun : Taken s m (.confirmBay v)).same (c := .confirmBay m v) rfl rfl ?_,
    (taken_plain h rfl nofun : Taken s m (.unlockBay v)).same (c := .unlockBay m v) rfl rfl ?_⟩
  · simp only [runRequest, reqConfirmBay, hv]
    rfl
  · simp only [runRequest, reqUnlockBay, hv]
    rfl

/-- Settles O33. -/
theorem bayRequestsTaken : Obligations.BayRequestsTaken := by
  refine ⟨fun s m v b on h hv => ?_, fun s m v h hv => bayRequest_outOfRange h hv, fun s m v b h hv => confirmBay_refused h hv,
    fun s m v b h hv => ⟨fun p hp hs hr hset hcls hb => ⟨fun hc => ?_, fun hc => ?_⟩, fun hs hp => ?_, fun hbad => ?_⟩⟩
  · intro c k hs
    refine ⟨fun hi => ?_, fun he hl => ?_⟩
    · refine exec_holdRow_same h ?_
      have hi' : ((s.withEntry m (holdRequest on v) .untaken).bay b).idle = true := (idle_iff _).2 hi
      simp only [requestHold, hv, hi', if_true]
      rfl
    · let j := s.withEntry m k .untaken
      have hi' : (j.bay b).idle = false := Bool.of_not_eq_true fun e => ((idle_iff _).1 e).elim he hl
      have hrow := exec_holdRow h (requestHold_runs (s := j) hv hi' on)
      have hfollow := requestHold_follows j b on
      have hl' : BaysLinkOnly j (setHolds j b hs) := baysLinkOnly_setHolds j b hs
      have hcore : (setHolds j b hs).core = j.core := setHolds_core j b hs
      have T : Taken s m k := taken_holdRequest h
      obtain ⟨hholds, hgains, hreturns, hsame, halone, hothers⟩ := hfollow
      exact ⟨_, hrow, T.queued hcore _, hholds, hgains, hreturns, hsame, halone, hothers, linkKept_row hcore _,
        congrArg (fun t => t.withStage (okay (.holds hs))) hl'.eq⟩
  · let j := s.withEntry m (.confirmBay v) .untaken
    have hpj : (j.pack p.tag).isSome := Option.isSome_of_eq_some (pack_of_bayPack hp).2
    obtain ⟨t, ht, hcore, hbay, hother, hpack, hothers, haccepts, hframe⟩ := confirmAccepted_confirmed hpj hc b
    have T : Taken s m (.confirmBay v) := taken_plain h rfl nofun
    exact ⟨_, exec_confirmBay h ((confirmBay_accepted hv hp hs hr hset hcls hb).trans ht), T.queued hcore _, hbay, hother, hpack,
      hothers, haccepts.congr rfl rfl rfl rfl rfl, linkKept_row hcore _,
      congrArg (fun t => t.withStage (okay (.packState (some p.state)))) hframe⟩
  · refine exec_confirmBay h ((confirmBay_accepted hv hp hs hr hset hcls hb).trans ?_)
    rw [confirmAccepted, otherRecord, if_pos hc]
    rfl
  · let j := s.withEntry m (.unlockBay v) .untaken
    have T : Taken s m (.unlockBay v) := taken_plain h rfl nofun
    have hs' : (j.bay b).state = .locked := hs
    have hp' : (j.bay b).pack = none := hp
    have hrun : runRequest j (.unlockBay v) = (putBay j b (j.bay b).toEmpty, okay (.bayState .empty)) := by
      simp only [runRequest, reqUnlockBay, hv, hs', hp', decide_true, Option.isNone_none, Bool.and_self, if_true]
    have hcore := putBay_core j b (j.bay b).toEmpty
    exact ⟨_, T.finish (c := .unlockBay m v) rfl rfl hrun, T.queued hcore _, bay_putBay j b _, otherBays_putBay j b _,
      linkKept_row hcore _, congrArg (fun t => t.withStage (okay (.bayState .empty))) (baysLinkOnly_putBay j b _).eq⟩
  · have T : Taken s m (.unlockBay v) := taken_plain h rfl nofun
    refine T.same (c := .unlockBay m v) rfl rfl ?_
    simp only [runRequest, reqUnlockBay, hv]
    refine if_neg fun e => ?_
    simp only [Bool.and_eq_true, decide_eq_true_eq, Option.isNone_iff_eq_none] at e
    obtain e' | e' := hbad
    · exact e' e.1
    · rw [show (s.bay b).pack = none from e.2] at e'
      cases e'

end Sys2Proof.Machine
end

section
/-! CONFIG_BAY (O22). -/

namespace Sys2Proof.Machine

/-! ### CONFIG_BAY (R24, R25, R110) -/

/-- The bay with its new settings, hold reason ZONE tested again. -/
def configureBay (s : State) (b : BayId) (v : BaySettings) : State :=
  let u := s.setBay b { s.bay b with settings := some v }
  setHolds u b (holdsFrom u b)

theorem zone_bayApplied (a : BayArgs) (z : ZoneId) : (bayApplied a z).zone = z := by
  rw [bayApplied, bayDependent_eq]
  rfl

theorem takesConfig_iff (x : Bay) :
    x.takesConfig = true ↔ x.state = .empty ∨ x.state = .locked ∨ (x.state = .placed ∧ x.holds.restart = true) := by
  simp only [Bay.takesConfig, Bool.or_eq_true, Bool.and_eq_true, decide_eq_true_eq, or_assoc]

theorem configureBay_core (s : State) (b : BayId) (v : BaySettings) : (configureBay s b v).core = s.core := by
  unfold configureBay
  simp

theorem baysLinkOnly_configureBay (s : State) (b : BayId) (v : BaySettings) : BaysLinkOnly s (configureBay s b v) :=
  (baysLinkOnly_setBay s b _).trans (baysLinkOnly_setHolds _ b _)

/-- A bay that takes CONFIG_BAY neither discharges nor is HELD: its set changes alone. -/
theorem bay_configureBay {s : State} {b : BayId} (h : (s.bay b).takesConfig = true) {v : BaySettings} {z : ZoneId}
    (hz : v.zone = z) :
    (configureBay s b v).bay b = { s.bay b with
      settings := some v
      holds := { (s.bay b).holds with
        line := modeHolds s.line.mode, zone := s.effect.marks[z], cooling := !s.coolingOk } }
    ∧ OtherBays b s (configureBay s b v) := by
  subst hz
  let x : Bay := { s.bay b with settings := some v }
  let u := s.setBay b x
  have hx : u.bay b = x := bay_setBay s b x
  have hidle : x.state ≠ .discharging ∧ x.state ≠ .held := by
    obtain e | e | ⟨e, -⟩ := (takesConfig_iff _).1 h <;> simp only [x, e] <;> exact ⟨nofun, nofun⟩
  obtain ⟨hbay, hother⟩ := setHolds_alone (s := u) (b := b) (h := holdsFrom u b) (.inr (.inl (by rw [hx]; exact hidle)))
  have hfrom : holdsFrom u b = { (s.bay b).holds with
      line := modeHolds s.line.mode, zone := s.effect.marks[v.zone], cooling := !s.coolingOk } := by
    rw [holdsFrom, hx]
    rfl
  refine ⟨hbay.trans (by rw [hx, hfrom]), fun c hc => (hother c hc).trans ?_⟩
  exact bay_setBay_other s b c x hc

/-- Settles O22. -/
theorem bayConfigured : Obligations.BayConfigured := by
  intro s m a h
  have T : Taken s m (.configBay a) := taken_plain h rfl nofun
  let j := s.withEntry m (.configBay a) .untaken
  refine ⟨fun hbad => T.same (c := .configBay m a) rfl rfl ?_, fun b z hb hz => ⟨fun he hl hr => T.same (c := .configBay m a) rfl rfl ?_,
    fun hst => ?_⟩⟩
  · simp only [runRequest, reqConfigBay]
    cases hb : bayOf a.bay with
    | none => rfl
    | some b =>
      cases hz : zoneOf a.zone with
      | none => rfl
      | some z =>
        rw [hb, hz] at hbad
        simp at hbad
  · have hno : ¬(j.bay b).takesConfig = true := fun e => by
      obtain e | e | e := (takesConfig_iff _).1 e
      · exact he e
      · exact hl e
      · exact hr e
    simp only [runRequest, reqConfigBay, hb, hz]
    exact if_neg hno
  · have hyes : (j.bay b).takesConfig = true := (takesConfig_iff _).2 hst
    let v := configureBay j b (bayApplied a z)
    obtain ⟨hbay, hother⟩ := bay_configureBay hyes (zone_bayApplied a z)
    have hcore : v.core = j.core := configureBay_core j b _
    have hrun : runRequest j (.configBay a) = (askRewrite
        (if (s.bay b).overLimit then refreshZones v (movedZones ((s.bay b).settings.map BaySettings.zone) z) .thermal else v) .bay,
        rewriteReply .bay (bayApplied a z ≠ baySent a z) (.bay (bayApplied a z))) := by
      simp only [runRequest, reqConfigBay, hb, hz, hyes, if_true]
      rfl
    rw [rewriteReply_eq] at hrun
    refine ⟨v, T.finish (c := .configBay m a) rfl rfl hrun, congrArg Core.requests hcore, hbay, hother,
      (linkKept_withEntry s m _ .untaken).trans (linkKept_of_core hcore), ?_⟩
    exact (baysLinkOnly_configureBay j b (bayApplied a z)).eq

end Sys2Proof.Machine
end

section
/-! CONFIG_CLASS and CONFIG_BUDGET (O21). -/

namespace Sys2Proof.Machine

/-! ### The grants as shares (R61) -/

/-- Each participant's grant is its share of the effective budget. -/
def State.Filled (s : State) : Prop := ∀ g ∈ waterFill s.effective s.participants, (s.bay g.1).grant = g.2

theorem Filled.congr {s t : State} (h : s.Filled) (he : t.effective = s.effective)
    (hb : ∀ b, (t.bay b).participant = (s.bay b).participant ∧ (t.bay b).request = (s.bay b).request
      ∧ (t.bay b).grant = (s.bay b).grant) : t.Filled := by
  intro g hg
  rw [he, participants_of fun b => ⟨(hb b).1, (hb b).2.1⟩] at hg
  exact (hb g.1).2.2.trans (h g hg)

theorem effective_regrant (s : State) : (regrant s).effective = s.effective :=
  effective_of (congrArg Core.budget (regrant_core s)) (congrArg Plant.effect (regrant_plant s))

theorem filled_regrant (s : State) : (regrant s).Filled := by
  intro g hg
  rw [effective_regrant] at hg
  exact grants_regrant s g hg

/-! ### A request formed again (R58) -/

/-- Bay `y` is `x`, whose figures have been formed, with the command its grant gives, through recomputations before and after. -/
structure Bay.Renewed (x y : Bay) : Prop where
  frame : y = { x with grant := y.grant, command := commandFor y.grant x.wanted x.vAvg, sustained := y.sustained }
  sustained : y.command < 100 → y.sustained = 0

theorem Bay.Renewed.then_regrant {x y z : Bay} (h : x.Renewed y) (R : y.Regranted z) : x.Renewed z := by
  obtain e | ⟨-, hc, hs⟩ := R.formed
  · rw [e]
    exact h
  · have hw : y.wanted = x.wanted := by rw [h.frame]
    have hv : y.vAvg = x.vAvg := by rw [h.frame]; rfl
    rw [hw, hv] at hc
    refine ⟨?_, hs⟩
    rw [R.frame, h.frame, hc]

/-- The figures do not depend on what the arbiter gives. -/
theorem Bay.Renewed.of_regranted {s t : State} {p : Pack} {x y z : Bay} (hc : t.classes = s.classes) (R : x.Regranted y)
    (h : (formRequest t p y).Renewed z) : (formRequest s p x).Renewed z := by
  obtain ⟨g, c, n, rfl⟩ := R.eta
  have hr : t.rateLimit p = s.rateLimit p := by rw [State.rateLimit, State.rateLimit, State.classFor, State.classFor, hc]
  obtain ⟨hf, hs⟩ := h
  simp only [formRequest, hr] at hf
  exact ⟨hf, hs⟩

theorem request_formRequest {s t : State} {p : Pack} {x y : Bay} (hc : t.classes = s.classes) (R : x.Regranted y) :
    (formRequest t p y).request = (formRequest s p x).request := by
  obtain ⟨g, c, n, rfl⟩ := R.eta
  have hr : t.rateLimit p = s.rateLimit p := by rw [State.rateLimit, State.rateLimit, State.classFor, State.classFor, hc]
  simp only [formRequest, hr]
  rfl

theorem renewed_formCommand {x : Bay} (hp : x.participant = true) : x.Renewed x.formCommand := by
  rw [formCommand_eq hp]
  exact ⟨rfl, fun h => if_pos h⟩

theorem reform_grants (s : State) (b c : BayId) : ((reform s b).bay c).participant = (s.bay c).participant
    ∧ ((reform s b).bay c).request = (s.bay c).request ∧ ((reform s b).bay c).grant = (s.bay c).grant := by
  rw [reform, bay_putBay_cases]
  split
  · next hc =>
    subst hc
    refine ⟨(formCommand_grant _).2, ?_, (formCommand_grant _).1⟩
    unfold Bay.formCommand Bay.send
    split <;> rfl
  · exact ⟨rfl, rfl, rfl⟩

section Renew

variable {s : State} {b : BayId} {p : Pack} (hp : s.bayPack b = some p) (hpart : (s.bay b).participant = true)
include hp

theorem renewRequest_eq : renewRequest s b = reform (if (formRequest s p (s.bay b)).request = (s.bay b).request
    then putBay s b (formRequest s p (s.bay b)) else regrant (putBay s b (formRequest s p (s.bay b)))) b := by
  simp only [renewRequest, hp]

theorem othersRegranted_renewRequest : OthersRegranted b s (renewRequest s b) := by
  rw [renewRequest_eq hp]
  refine OthersRegranted.trans ?_ (othersRegranted_putBay _ b _)
  split
  · exact othersRegranted_putBay s b _
  · exact (othersRegranted_putBay s b _).trans (othersRegranted_regrant _ b)

include hpart in
theorem bay_renewRequest : (formRequest s p (s.bay b)).Renewed ((renewRequest s b).bay b) := by
  let x := formRequest s p (s.bay b)
  have hx : x.participant = true := hpart
  rw [renewRequest_eq hp, bay_reform]
  split
  · rw [bay_putBay]
    exact renewed_formCommand hx
  · have R := regranted_regrant (putBay s b x) b
    rw [bay_putBay] at R
    obtain ⟨g, c, n, e⟩ := R.eta
    have hy : ((regrant (putBay s b x)).bay b).participant = true := by rw [e]; exact hx
    have h := renewed_formCommand hy
    rw [e] at h ⊢
    exact ⟨h.frame, h.sustained⟩

/-- Where the request has changed the grants are recomputed. -/
theorem filled_renewRequest (h : (formRequest s p (s.bay b)).request ≠ (s.bay b).request) : (renewRequest s b).Filled := by
  rw [renewRequest_eq hp, if_neg h]
  refine Filled.congr (filled_regrant _) ?_ (reform_grants _ b)
  exact effective_putBay _ b _

/-- Where it has not they stay. -/
theorem grants_renewRequest (h : (formRequest s p (s.bay b)).request = (s.bay b).request) (c : BayId) :
    ((renewRequest s b).bay c).participant = (s.bay c).participant
    ∧ ((renewRequest s b).bay c).request = (s.bay c).request ∧ ((renewRequest s b).bay c).grant = (s.bay c).grant := by
  rw [renewRequest_eq hp, if_pos h]
  obtain ⟨h₁, h₂, h₃⟩ := reform_grants (putBay s b (formRequest s p (s.bay b))) b c
  rw [h₁, h₂, h₃, bay_putBay_cases]
  split
  · next hc =>
    subst hc
    exact ⟨rfl, h, rfl⟩
  · exact ⟨rfl, rfl, rfl⟩

end Renew

theorem effective_of_baysLinkOnly {s t : State} (h : BaysLinkOnly s t) : t.effective = s.effective := by
  obtain ⟨_, _, rfl⟩ := h
  rfl

/-! ### The bays of a class (R58, log 55) -/

/-- Bay `b` takes part with pack `p` of class `c`. -/
def State.ofClass (s : State) (c : ClassId) (b : BayId) (p : Pack) : Prop :=
  (s.bay b).participant = true ∧ s.bayPack b = some p ∧ p.cls = c

/-- The bays of `l` with a pack of class `c` have formed their requests again, and the grants are those this calls for. -/
structure ClassRenewed (c : ClassId) (l : List BayId) (s t : State) : Prop where
  bays : BaysLinkOnly s t
  renewed : ∀ b ∈ l, ∀ p, s.ofClass c b p → (formRequest s p (s.bay b)).Renewed (t.bay b)
  others : ∀ b, (b ∈ l → ∀ p, ¬s.ofClass c b p) → (s.bay b).Regranted (t.bay b)
  filled : (∃ b ∈ l, ∃ p, s.ofClass c b p ∧ (formRequest s p (s.bay b)).request ≠ (s.bay b).request) → t.Filled
  grants : (∀ b ∈ l, ∀ p, s.ofClass c b p → (formRequest s p (s.bay b)).request = (s.bay b).request) →
    ∀ b, (t.bay b).grant = (s.bay b).grant

/-- One bay of the fold. -/
def renewBay (c : ClassId) (s : State) (b : BayId) : State :=
  if (s.bay b).participant && (s.bayPack b).any (fun p => p.cls = c) then renewRequest s b else s

theorem renewBay_of {c : ClassId} {s : State} {b : BayId} {p : Pack} (h : s.ofClass c b p) : renewBay c s b = renewRequest s b := by
  obtain ⟨hp, hb, hc⟩ := h
  simp only [renewBay, hp, hb, Option.any_some, hc, decide_true, Bool.and_self, if_true]

theorem renewBay_other {c : ClassId} {s : State} {b : BayId} (h : ∀ p, ¬s.ofClass c b p) : renewBay c s b = s := by
  refine if_neg fun e => ?_
  rw [Bool.and_eq_true] at e
  obtain ⟨hp, he⟩ := e
  cases hb : s.bayPack b with
  | none =>
    rw [hb] at he
    cases he
  | some p =>
    rw [hb] at he
    exact h p ⟨hp, hb, of_decide_eq_true he⟩

theorem ofClass_regranted {c : ClassId} {s t : State} {b : BayId} (h : BaysLinkOnly s t) (R : (s.bay b).Regranted (t.bay b)) (p : Pack) :
    t.ofClass c b p ↔ s.ofClass c b p := by
  have hpart : (t.bay b).participant = (s.bay b).participant := by rw [R.frame]
  have hpack : (t.bay b).pack = (s.bay b).pack := by rw [R.frame]
  have hbp : t.bayPack b = s.bayPack b := by
    rw [State.bayPack, State.bayPack, hpack]
    exact congrArg _ (funext (packs_of_baysLinkOnly h))
  rw [State.ofClass, State.ofClass, hpart, hbp]

theorem classes_of_baysLinkOnly {s t : State} (h : BaysLinkOnly s t) : t.classes = s.classes := by
  obtain ⟨_, _, rfl⟩ := h
  rfl

theorem ClassRenewed.nil (c : ClassId) (s : State) : ClassRenewed c [] s s :=
  ⟨.refl s, fun _ h => absurd h List.not_mem_nil, fun _ _ => .refl _, fun ⟨_, h, _⟩ => absurd h List.not_mem_nil, fun _ _ => rfl⟩

/-- One more bay. -/
theorem ClassRenewed.cons {c : ClassId} {l : List BayId} {s t : State} (h : ClassRenewed c l s t) {b : BayId} (hb : b ∉ l) :
    ClassRenewed c (b :: l) s (renewBay c t b) := by
  have R : (s.bay b).Regranted (t.bay b) := h.others b fun hm => absurd hm hb
  have hof := ofClass_regranted (c := c) h.bays R
  by_cases hex : ∃ p, s.ofClass c b p
  · obtain ⟨p, hp⟩ := hex
    have hpt : t.ofClass c b p := (hof p).2 hp
    have hpart := hpt.1
    have hpack := hpt.2.1
    have huniq (q : Pack) (hq : s.ofClass c b q) : q = p := Option.some.inj (hq.2.1.symm.trans hp.2.1)
    have hreq : (formRequest t p (t.bay b)).request = (formRequest s p (s.bay b)).request :=
      request_formRequest (classes_of_baysLinkOnly h.bays) R
    have hold : (t.bay b).request = (s.bay b).request := by rw [R.frame]
    have hothers := othersRegranted_renewRequest hpack
    rw [renewBay_of hpt]
    refine ⟨h.bays.trans (baysLinkOnly_renewRequest t b), fun d hd q hq => ?_, fun d hd => ?_, fun hch => ?_, fun hsame => ?_⟩
    · by_cases hdb : d = b
      · subst hdb
        rw [huniq q hq]
        exact (bay_renewRequest hpack hpart).of_regranted (classes_of_baysLinkOnly h.bays) R
      · exact (h.renewed d ((List.mem_cons.1 hd).resolve_left hdb) q hq).then_regrant (hothers d hdb)
    · by_cases hdb : d = b
      · subst hdb
        exact absurd hp (hd List.mem_cons_self p)
      · exact (h.others d fun hm => hd (List.mem_cons_of_mem b hm)).trans (hothers d hdb)
    · by_cases hbch : (formRequest s p (s.bay b)).request = (s.bay b).request
      · obtain ⟨d, hd, q, hq, hne⟩ := hch
        have hdb : d ≠ b := fun e => by
          subst e
          rw [huniq q hq] at hne
          exact hne hbch
        have hf := h.filled ⟨d, (List.mem_cons.1 hd).resolve_left hdb, q, hq, hne⟩
        exact Filled.congr hf (effective_of_baysLinkOnly (baysLinkOnly_renewRequest t b))
          (grants_renewRequest hpack (by rw [hreq, hold, hbch]))
      · exact filled_renewRequest hpack (by rw [hreq, hold]; exact hbch)
    · intro d
      have hbsame := hsame b List.mem_cons_self p hp
      rw [(grants_renewRequest hpack (by rw [hreq, hold, hbsame]) d).2.2]
      exact h.grants (fun e he => hsame e (List.mem_cons_of_mem b he)) d
  · have hno : ∀ p, ¬s.ofClass c b p := fun p hp => hex ⟨p, hp⟩
    rw [renewBay_other fun p hp => hno p ((hof p).1 hp)]
    refine ⟨h.bays, fun d hd q hq => ?_, fun d hd => h.others d fun hm => hd (List.mem_cons_of_mem b hm), fun ⟨d, hd, q, hq, hne⟩ => ?_,
      fun hsame => h.grants fun e he => hsame e (List.mem_cons_of_mem b he)⟩
    all_goals have hdb : d ≠ b := fun e => hno q (e ▸ hq)
    · exact h.renewed d ((List.mem_cons.1 hd).resolve_left hdb) q hq
    · exact h.filled ⟨d, (List.mem_cons.1 hd).resolve_left hdb, q, hq, hne⟩

theorem classRenewed_foldl {c : ClassId} {s : State} : ∀ (l done : List BayId) (t : State), (l.reverse ++ done).Nodup →
    ClassRenewed c done s t → ClassRenewed c (l.reverse ++ done) s (l.foldl (renewBay c) t)
  | [], _, _, _, h => h
  | b :: l, done, t, hn, h => by
    rw [List.reverse_cons, List.append_assoc, List.singleton_append] at hn ⊢
    exact classRenewed_foldl l (b :: done) _ hn (h.cons (List.nodup_cons.1 (List.nodup_append.1 hn).2.1).1)

/-- The bays of a class, in bay order. -/
theorem renewClass_renewed (s : State) (c : ClassId) : ClassRenewed c (allBays.reverse ++ []) s (renewClass s c) :=
  classRenewed_foldl allBays [] s (by rw [List.append_nil]; exact List.nodup_reverse.2 allBays_nodup) (.nil c s)

theorem mem_renewed (b : BayId) : b ∈ allBays.reverse ++ [] := by
  rw [List.append_nil, List.mem_reverse]
  exact mem_allBays b

/-! ### CONFIG_CLASS and CONFIG_BUDGET (R26, R60) -/

theorem renewClass_core (s : State) (c : ClassId) : (renewClass s c).core = s.core :=
  (foldl_core _ (fun u b => by
    change (renewBay c u b).core = u.core
    unfold renewBay
    split
    · exact renewRequest_core u b
    · rfl) _ s)

/-- What CONFIG_CLASS makes of the bays. -/
theorem renewClass_follows (s : State) (c : ClassId) :
    let t := renewClass s c
    (∀ b p, s.ofClass c b p →
      let x := formRequest t p (s.bay b)
      t.bay b = { x with
        grant := (t.bay b).grant, command := commandFor (t.bay b).grant x.wanted x.vAvg, sustained := (t.bay b).sustained }
      ∧ ((t.bay b).command < 100 → (t.bay b).sustained = 0))
    ∧ (∀ b, (∀ p, ¬s.ofClass c b p) →
      t.bay b = { s.bay b with
        grant := (t.bay b).grant, command := (t.bay b).command, sustained := (t.bay b).sustained }
      ∧ ((s.bay b).participant = false → t.bay b = s.bay b)
      ∧ ((t.bay b).grant ≠ (s.bay b).grant →
          (t.bay b).command = commandFor (t.bay b).grant (s.bay b).wanted (s.bay b).vAvg))
    ∧ ((∃ b p, s.ofClass c b p ∧ (formRequest t p (s.bay b)).request ≠ (s.bay b).request) → t.Filled)
    ∧ ((∀ b p, s.ofClass c b p → (formRequest t p (s.bay b)).request = (s.bay b).request) →
      ∀ b, (t.bay b).grant = (s.bay b).grant) := by
  intro t
  have C : ClassRenewed c _ s t := renewClass_renewed s c
  have hc : t.classes = s.classes := classes_of_baysLinkOnly C.bays
  have hreq (b : BayId) (p : Pack) : (formRequest t p (s.bay b)).request = (formRequest s p (s.bay b)).request :=
    request_formRequest hc (.refl _)
  refine ⟨fun b p hp => ?_, fun b hno => ?_, fun ⟨b, p, hp, hne⟩ => C.filled ⟨b, mem_renewed b, p, hp, (hreq b p) ▸ hne⟩,
    fun hsame => C.grants fun b _ p hp => (hreq b p) ▸ hsame b p hp⟩
  · have N := (C.renewed b (mem_renewed b) p hp).of_regranted (s := t) hc.symm (.refl _)
    exact ⟨N.frame, N.sustained⟩
  · have R := C.others b fun _ => hno
    refine ⟨R.frame, R.out, fun hg => ?_⟩
    obtain e | ⟨-, h, -⟩ := R.formed
    · exact absurd (congrArg Bay.grant e) hg
    · exact h

/-- The bays under a new budget: a recomputation where the effective budget changes, nothing otherwise. -/
def rebudget (s : State) (v : Budget) : State :=
  if s.effective = ({ s with budget := v } : State).effective then { s with budget := v } else regrant { s with budget := v }

theorem rebudget_eq (s : State) (v : Budget) : ∃ b l, rebudget s v = { s with budget := v, bays := b, link := l } := by
  unfold rebudget
  split
  · exact ⟨s.bays, s.link, rfl⟩
  · obtain ⟨b, l, e⟩ := baysLinkOnly_regrant { s with budget := v }
    exact ⟨b, l, e⟩

theorem queue_of_core {s t : State} (h : t.core = s.core) : t.link.queue = s.link.queue := congrArg Core.requests h

/-- A CONFIG request's row ends with the rewrite of its section asked for (R166). -/
theorem Taken.configured {s u : State} {m : Byte} {k : Request} {c : Instr} {st : Stage} {sec : Section} (T : Taken s m k)
    (hc : k.row m = some c) (hl : k.linkOnly = false)
    (hk : runRequest (s.withEntry m k .untaken) k = (askRewrite u sec, st)) :
    ∃ ops, SettingsOp.erase sec ∈ ops
      ∧ exec c s = .next (Machine.finish s (State.withStage { u with writer := { u.writer with settingsOps := ops } } st)) := by
  refine ⟨_, erase_mem_askRewrite u sec, ?_⟩
  rw [← askRewrite_eq]
  exact T.finish hc hl hk

theorem linkKept_configured {s u : State} {m : Byte} {k : Request} (h : LinkKept (s.withEntry m k .untaken) u) (ops : List SettingsOp)
    (st : Stage) : LinkKept s (State.withStage { u with writer := { u.writer with settingsOps := ops } } st) :=
  (linkKept_withEntry s m k .untaken).trans (h.trans rfl)

/-- Settles O21. -/
theorem classAndBudgetConfigured : Obligations.ClassAndBudgetConfigured := by
  refine ⟨fun s m a h => ⟨fun hc => ?_, fun c hc => ?_⟩, fun s m e w h => ?_⟩
  · have T : Taken s m (.configClass a) := taken_plain h rfl nofun
    refine T.same (c := .configClass m a) rfl rfl ?_
    simp only [runRequest, reqConfigClass, hc]
    rfl
  · have T : Taken s m (.configClass a) := taken_plain h rfl nofun
    let j : State := { s.withEntry m (.configClass a) .untaken with classes := vput s.classes c (some (classApplied a)) }
    have hrun : runRequest (s.withEntry m (.configClass a) .untaken) (.configClass a) = (askRewrite (renewClass j c) .cls,
        rewriteReply .cls (classApplied a ≠ classSent a) (.cls (classApplied a))) := by
      simp only [runRequest, reqConfigClass, hc]
      rfl
    rw [rewriteReply_eq] at hrun
    obtain ⟨ops, hops, hrow⟩ := T.configured (c := .configClass m a) rfl rfl hrun
    have hu : BaysLinkOnly j (renewClass j c) := (renewClass_renewed j c).bays
    have hcore : (renewClass j c).core = j.core := renewClass_core j c
    have hkept : LinkKept j (renewClass j c) := linkKept_of_core hcore
    have hqueue : (renewClass j c).link.queue = j.link.queue := queue_of_core hcore
    obtain ⟨hrenewed, hothers, hfilled, hgrants⟩ := renewClass_follows j c
    have happlied := classApplied_eq a
    generalize renewClass j c = u at *
    refine ⟨_, hrow, queued_withStage h hqueue _, ?_, ?_, ?_, hops, ?_, linkKept_configured hkept ops _, ?_⟩
    · exact classes_of_baysLinkOnly hu
    · rw [happlied]
      exact le_max_left _ _
    · rw [happlied]
      exact max_le (min_le_left _ _) (min_le_left _ _)
    · exact ⟨hrenewed, hothers, hfilled, hgrants⟩
    · obtain ⟨v, l, rfl⟩ := hu
      rfl
  · have T : Taken s m (.configBudget w e) := taken_plain h rfl nofun
    let j := s.withEntry m (.configBudget w e) .untaken
    let v := budgetApplied w e
    have hrun : runRequest j (.configBudget w e) = (askRewrite (rebudget j v) .budget,
        rewriteReply .budget (v ≠ budgetSent w e) (.budget v)) := rfl
    rw [rewriteReply_eq] at hrun
    obtain ⟨ops, hops, hrow⟩ := T.configured (c := .configBudget m w e) rfl rfl hrun
    let i : State := { j with budget := v }
    have hdef : rebudget j v = if j.effective = i.effective then i else regrant i := rfl
    have hcore : (rebudget j v).core = i.core := by
      rw [hdef]
      split
      · rfl
      · exact regrant_core i
    have hkept : LinkKept i (rebudget j v) := linkKept_of_core hcore
    have hqueue : (rebudget j v).link.queue = i.link.queue := queue_of_core hcore
    obtain ⟨bs, l, hframe⟩ := rebudget_eq j v
    have heff : (rebudget j v).effective = i.effective := by
      rw [hframe]
      rfl
    have hregranted (b : BayId) : (i.bay b).Regranted ((rebudget j v).bay b) := by
      rw [hdef]
      split
      · exact .refl _
      · exact regranted_regrant i b
    refine ⟨_, hrow, queued_withStage h hqueue _, ?_, hops, fun b => (hregranted b).frame, fun he => ?_, fun he => ?_, fun hwf => ?_,
      linkKept_configured hkept ops _, ?_⟩
    · rw [hframe]
      rfl
    · have hsame : rebudget j v = i := if_pos (he.trans heff)
      rw [hsame]
      rfl
    · have hnew : rebudget j v = regrant i := if_neg fun e => he (e.trans heff.symm)
      have hf := filled_regrant i
      have hg := bay_regrant_grant i
      rw [← hnew] at hf hg
      exact ⟨hf, fun b => (hg b).1, fun b => (hg b).2⟩
    · have hapart : i.ApartUngranted := apartUngranted_of_grantWf (s := s) hwf
      change (rebudget j v).grantWf = true
      rw [hdef]
      split
      · next heq => exact grantWf_of_bays (s := s) (fun _ => ⟨rfl, rfl⟩) heq.symm hwf
      · exact grantWf_regrant hapart
    · rw [hframe]
      rfl

end Sys2Proof.Machine
end

section
/-! The feeder's own moves, the end of a feed, and FEED_CLEAR (O40). -/

namespace Sys2Proof.Machine

/-! ### The block-reason set (R137) -/

theorem reasons_isEmpty_iff (r : Reasons) : r.isEmpty = true ↔ r = ⟨false, false, false, false, false⟩ := by
  obtain ⟨m, a, t, h, e⟩ := r
  simp only [Reasons.isEmpty, Bool.not_eq_true', Bool.or_eq_false_iff, Reasons.mk.injEq, and_assoc]

theorem putFeeder_marks (s : State) (y : Feeder) : putFeeder s y = { s with
    feeder := y
    link := if y.state = s.feeder.state ∧ y.reasons = s.feeder.reasons ∧ y.gate = s.feeder.gate then s.link else s.link.mark .feed } := by
  unfold putFeeder State.markIf
  simp only [Bool.not_eq_true', Bool.and_eq_false_iff, decide_eq_false_iff_not]
  by_cases h : y.state = s.feeder.state ∧ y.reasons = s.feeder.reasons ∧ y.gate = s.feeder.gate
  · obtain ⟨h₁, h₂, h₃⟩ := h
    simp only [h₁, h₂, h₃, not_true_eq_false, or_self, if_false, and_self, if_true]
  · rw [if_neg h, if_pos]
    · rfl
    · simpa only [eq_comm, not_and_or, or_assoc] using h

theorem blockReasons_eq (s : State) : s.blockReasons = {
    mode := !(s.line.mode = .production || s.line.mode = .drain), atmosphere := !(s.atm.state = .inert && s.atm.settled)
    settle := s.feeder.resettleTimer.isSome, shredder := s.interlock.state ≠ .running, effect := s.effect.blockFeed } := rfl

section UpdateFeeder

variable {s : State}

theorem updateFeeder_ready_blocked (hx : s.feeder.state = .blocked) (hr : s.blockReasons.isEmpty = true) :
    updateFeeder s = tryFeed (putFeeder s { s.feeder with state := .ready, reasons := s.blockReasons }) := by
  simp only [updateFeeder, hx, hr, if_true]

theorem updateFeeder_blocked (hx : s.feeder.state = .blocked) (hr : s.blockReasons.isEmpty = false) :
    updateFeeder s = putFeeder s { s.feeder with reasons := s.blockReasons } := by
  simp only [updateFeeder, hx, hr, Bool.false_eq_true, if_false]

theorem updateFeeder_ready (hx : s.feeder.state = .ready) (hr : s.blockReasons.isEmpty = true) :
    updateFeeder s = putFeeder s { s.feeder with reasons := s.blockReasons } := by
  simp only [updateFeeder, hx, hr, if_true]

theorem updateFeeder_blocks (hx : s.feeder.state = .ready) (hr : s.blockReasons.isEmpty = false) :
    updateFeeder s = putFeeder s { s.feeder with state := .blocked, reasons := s.blockReasons } := by
  simp only [updateFeeder, hx, hr, Bool.false_eq_true, if_false]

theorem updateFeeder_busy (hx : s.feeder.state = .feeding ∨ s.feeder.state = .jammed) :
    updateFeeder s = putFeeder s { s.feeder with reasons := s.blockReasons } := by
  obtain hx | hx := hx <;> simp only [updateFeeder, hx]

/-- A look for a feed with nothing queued. -/
theorem tryFeed_queue_nil (hq : s.queue = []) : tryFeed s = s := tryFeed_none (.inl hq)

theorem updateFeeder_ready_idle (hx : s.feeder.state = .blocked) (hr : s.blockReasons.isEmpty = true) (hq : s.queue = []) :
    (updateFeeder s).feeder.state = .ready := by
  rw [updateFeeder_ready_blocked hx hr, tryFeed_queue_nil (by rw [putFeeder_eq]; exact hq), feeder_putFeeder]

end UpdateFeeder

/-! ### What a feeder that follows leaves of the held events (R155) -/

/-- The events held have stayed, but for FEEDINGs that joined them. -/
def HeldFeeding (s t : State) : Prop := ∀ e ∈ t.held, e ∈ s.held ∨ ∃ n, e = .feeding n

theorem HeldFeeding.trans {s t u : State} (h₁ : HeldFeeding s t) (h₂ : HeldFeeding t u) : HeldFeeding s u := by
  intro e he
  obtain h | h := h₂ e he
  · exact h₁ e h
  · exact .inr h

theorem heldFeeding_of {s t : State} (h : t.held = s.held) : HeldFeeding s t := fun _ he => .inl (h ▸ he)

theorem heldFeeding_putFeeder (s : State) (x : Feeder) : HeldFeeding s (putFeeder s x) := heldFeeding_of (by rw [putFeeder_eq])

theorem heldFeeding_submit (s : State) (n : Tag) : HeldFeeding s (submit s (.feeding n)).1 := by
  obtain e | ⟨p, e⟩ | e := submit_feeding_cases s n <;> rw [e]
  · exact heldFeeding_of rfl
  · exact heldFeeding_of rfl
  · intro x hx
    obtain h | h := List.mem_append.1 hx
    · exact .inl h
    · exact .inr ⟨n, List.mem_singleton.1 h⟩

theorem heldFeeding_tryFeed (s : State) : HeldFeeding s (tryFeed s) := by
  obtain h | ⟨n, h | h⟩ := tryFeed_cases s <;> rw [h]
  · exact heldFeeding_of rfl
  · exact heldFeeding_submit s n
  · exact (heldFeeding_submit s n).trans (heldFeeding_putFeeder _ _)

theorem heldFeeding_updateFeeder (s : State) : HeldFeeding s (updateFeeder s) := by
  obtain ⟨st, h | h⟩ := updateFeeder_cases s <;> rw [h]
  · exact heldFeeding_putFeeder _ _
  · exact (heldFeeding_putFeeder _ _).trans (heldFeeding_tryFeed _)

theorem heldFeeding_reportEmpty (s u : State) : HeldFeeding u (reportEmpty s u) := by
  unfold reportEmpty
  split
  · exact heldFeeding_of (setLineMode_stopped u rfl none).2
  · exact heldFeeding_of rfl

/-! ### The end of a feed (R139) -/

/-- The feeder at the end of a feed, before it takes its reasons. -/
def Feeder.ended (x : Feeder) : Feeder := { x with
  state := .blocked, gate := false, feedTimer := none, tag := none
  resettleTimer := if x.resettleNow = 0 then none else some (1000 * x.resettleNow) }

theorem endFeed_eq (s : State) : endFeed s = updateFeeder (putFeeder s s.feeder.ended) := rfl

theorem feederOnly_endFeed (s : State) : FeederOnly s (endFeed s) :=
  (feederOnly_putFeeder s _).trans (feederOnly_updateFeeder _)

/-- The set that the end of a feed comes to. -/
theorem settle_endFeed (s : State) : (endFeed s).feeder.reasons = (endFeed s).blockReasons
    ∧ (endFeed s).feeder.resettleTimer = s.feeder.ended.resettleTimer := by
  rw [endFeed_eq]
  refine ⟨reasons_updateFeeder _, (feeder_updateFeeder _).2.trans ?_⟩
  rw [feeder_putFeeder]

theorem endFeed_settles {s : State} (h : s.feeder.resettleNow ≠ 0) :
    (endFeed s).feeder = { s.feeder with
      state := .blocked, gate := false, feedTimer := none, tag := none
      resettleTimer := some (1000 * s.feeder.resettleNow), reasons := (endFeed s).blockReasons }
    ∧ (endFeed s).blockReasons.settle = true ∧ (endFeed s).packs = s.packs := by
  have hk : (putFeeder s s.feeder.ended).feeder = s.feeder.ended := feeder_putFeeder s _
  have ht : s.feeder.ended.resettleTimer = some (1000 * s.feeder.resettleNow) := if_neg h
  have hsettle : (putFeeder s s.feeder.ended).blockReasons.settle = true := by
    rw [State.blockReasons, hk, ht]
    rfl
  have hr : (putFeeder s s.feeder.ended).blockReasons.isEmpty = false := by simp [Reasons.isEmpty, hsettle]
  have hu := updateFeeder_blocked (s := putFeeder s s.feeder.ended) (by rw [hk]; rfl) hr
  have hreasons := (settle_endFeed s).1
  rw [endFeed_eq, hu] at hreasons ⊢
  rw [feeder_putFeeder] at hreasons ⊢
  refine ⟨?_, ?_, ?_⟩
  · rw [← hreasons, hk, Feeder.ended, if_neg h]
  · rw [← hreasons]
    exact hsettle
  · rw [putFeeder_eq, putFeeder_eq s]

theorem endFeed_unsettled {s : State} (h : s.feeder.resettleNow = 0) :
    (endFeed s).feeder.resettleTimer = none ∧ (endFeed s).feeder.reasons.settle = false
    ∧ (let k := putFeeder s { s.feeder with
         state := .blocked, gate := false, feedTimer := none, tag := none, resettleTimer := none }
       let r := k.blockReasons
       (r.isEmpty = true → endFeed s = tryFeed (putFeeder k { k.feeder with state := .ready, reasons := r }))
       ∧ (r.isEmpty = true → s.queue = [] → (endFeed s).feeder.state = .ready)
       ∧ (r.isEmpty = false → endFeed s = putFeeder k { k.feeder with reasons := r })
       ∧ (r.isEmpty = false → (endFeed s).feeder.state = .blocked)) := by
  obtain ⟨hreasons, htimer⟩ := settle_endFeed s
  have hnone : s.feeder.ended.resettleTimer = none := if_pos h
  rw [hnone] at htimer
  refine ⟨htimer, ?_, ?_⟩
  · rw [hreasons, State.blockReasons, htimer]
    rfl
  · intro k r
    have hended : s.feeder.ended = { s.feeder with
        state := .blocked, gate := false, feedTimer := none, tag := none, resettleTimer := none } := by
      rw [Feeder.ended, if_pos h]
    have hk : endFeed s = updateFeeder k := by rw [endFeed_eq, hended]
    have hstate : k.feeder.state = .blocked := congrArg Feeder.state (feeder_putFeeder s _)
    have hqueue : k.queue = s.queue := by
      change (putFeeder s _).queue = _
      rw [putFeeder_eq]
    rw [hk]
    refine ⟨updateFeeder_ready_blocked hstate, fun hr hq => updateFeeder_ready_idle hstate hr (hqueue.trans hq),
      updateFeeder_blocked hstate, fun hr => ?_⟩
    rw [updateFeeder_blocked hstate hr, feeder_putFeeder]
    exact hstate

/-! ### A record's room (R155) -/

theorem Accepts.length {s t : State} {ds : List Draft} (h : Accepts s t ds) :
    t.writer.buffer.length = s.writer.buffer.length + ds.length := by
  obtain ⟨⟨new, hb, hr⟩, -, -⟩ := h
  have hn := congrArg List.length hr
  rw [List.length_map, List.length_mapIdx] at hn
  rw [hb, List.length_append, hn]

theorem length_exitPack (s : State) (p : Pack) (k : ExitKind) (late : Bool) :
    (exitPack s p k late).writer.buffer.length ≤ s.writer.buffer.length + 2 := by
  have hx := (accepts_exiting s p k late).length
  rw [exitPack_eq]
  rw [List.length_singleton] at hx
  cases h : (exiting s p k late).lot p.lot with
  | none =>
    have e : finalizeLot (exiting s p k late) p.lot = exiting s p k late := by simp only [finalizeLot, h]
    rw [e]
    omega
  | some l =>
    by_cases hl : l.state = .closing ∧ l.inCustody = 0
    · have hf := (finalizeLot_final h hl.1 hl.2).1.length
      rw [List.length_singleton] at hf
      omega
    · rw [finalizeLot_kept h hl]
      omega

/-! ### FEED_CLEAR (R140) -/

/-- What the outcome of a FEED_CLEAR makes of the pack. -/
def clearedPack (s : State) (o : FeedOutcome) (p : Pack) : State :=
  match o with
  | .fed => exitPack s p .fed true
  | .removed => quarantinePack s p .requested

theorem applyEvent_outcome {s : State} {n : Tag} {p : Pack} (o : FeedOutcome) (hp : s.pack n = some p) (hf : p.state = .feeding) :
    applyEvent s (outcomeEvent o n) = (clearedPack s o p, .continued) ∨
    applyEvent s (outcomeEvent o n) = (clearedPack s o p, .quarantined) := by
  cases o with
  | fed => exact .inl (by simp only [outcomeEvent, applyEvent, takeFed, hp, hf, Option.filter_some, decide_true, if_true]; rfl)
  | removed => exact .inr (by simp only [outcomeEvent, applyEvent, takeFeedRemoved, hp, hf, Option.filter_some, decide_true, if_true]; rfl)

theorem length_clearedPack {s : State} {p : Pack} (hp : (s.pack p.tag).isSome) (o : FeedOutcome) :
    (clearedPack s o p).writer.buffer.length ≤ s.writer.buffer.length + 2 := by
  cases o with
  | fed => exact length_exitPack s p .fed true
  | removed =>
    have h := (quarantinePack_quarantined hp .requested).accepts.length
    rw [List.length_singleton] at h
    exact h.le.trans (by omega)

theorem held_clearedPack {s : State} {p : Pack} (hp : (s.pack p.tag).isSome) (o : FeedOutcome) : (clearedPack s o p).held = s.held := by
  cases o with
  | fed =>
    obtain ⟨_, _, _, _, e⟩ := exitPack_frame s p .fed true
    rw [clearedPack, e]
  | removed => rw [clearedPack, (quarantinePack_quarantined hp .requested).frame]

/-- The jam's event taken, the feed ends. -/
theorem finishFeed_taken {s : State} {n : Tag} {p : Pack} (o : FeedOutcome) (hp : s.pack n = some p) (hf : p.state = .feeding)
    (hr : s.phase = .running) (hh : s.held = []) (hb : s.writer.buffer.length ≤ 48) :
    finishFeed s (outcomeEvent o n)
      = reportEmpty s (endFeed (clearedPack (putFeeder s { s.feeder with gate := false, feedTimer := none }) o p)) := by
  let k := putFeeder s { s.feeder with gate := false, feedTimer := none }
  obtain ⟨x, l, hk⟩ : ∃ x l, k = { s with feeder := x, link := l } := ⟨_, _, putFeeder_eq s _⟩
  have hkp : k.pack n = some p := by
    rw [hk]
    exact hp
  have hfits : (clearedPack k o p).fits = true := by
    have hsome : (k.pack p.tag).isSome := by rw [tag_of_pack hp, hkp]; rfl
    have hlen := length_clearedPack hsome o
    have hkb : k.writer.buffer = s.writer.buffer := by rw [hk]
    rw [fits_iff]
    rw [hkb] at hlen
    omega
  have hkr : k.phase = .running := by rw [hk]; exact hr
  have hkh : k.held = [] := by rw [hk]; exact hh
  unfold finishFeed
  dsimp only
  change (match submit k (outcomeEvent o n) with
    | (s₂, some _) => afterFeedEvent s s₂
    | (s₂, none) => s₂) = _
  obtain e | e := applyEvent_outcome o hkp hf
  all_goals
    have hs := submit_taken hkr hkh (e := outcomeEvent o n) (by rw [e]; exact hfits)
    rw [hs, e]
    rfl

theorem held_finishFeed {s : State} {n : Tag} {p : Pack} (o : FeedOutcome) (hp : s.pack n = some p) (hf : p.state = .feeding)
    (hr : s.phase = .running) (hh : s.held = []) (hb : s.writer.buffer.length ≤ 48) :
    (finishFeed s (outcomeEvent o n)).held.any (· = outcomeEvent o n) = false := by
  rw [finishFeed_taken o hp hf hr hh hb]
  let k := putFeeder s { s.feeder with gate := false, feedTimer := none }
  have hkh : k.held = [] := by
    change (putFeeder s _).held = []
    rw [putFeeder_eq]
    exact hh
  have hkp : (k.pack p.tag).isSome := by
    change ((putFeeder s _).pack p.tag).isSome
    rw [putFeeder_eq, tag_of_pack hp]
    exact Option.isSome_of_eq_some hp
  have hheld : HeldFeeding (clearedPack k o p) (reportEmpty s (endFeed (clearedPack k o p))) :=
    ((heldFeeding_putFeeder _ _).trans (heldFeeding_updateFeeder _)).trans (heldFeeding_reportEmpty s _)
  rw [List.any_eq_false]
  intro e he heq
  have heq' := of_decide_eq_true heq
  obtain h | ⟨q, h⟩ := hheld e he
  · rw [held_clearedPack hkp, hkh] at h
    cases h
  · rw [h] at heq'
    cases o <;> cases heq'

theorem exec_feedClear {s u : State} {m v : Byte} {st : Stage} (h : s.takesNow = true)
    (e : reqFeedClear (s.withEntry m (.feedClear v) .untaken) v = (u, st)) :
    exec (.feedClear m v) s = .next (finish s (u.withStage st)) :=
  (taken_plain h rfl nofun : Taken s m (.feedClear v)).finish (c := .feedClear m v) rfl rfl e

theorem exec_feedClear_same {s : State} {m v : Byte} {st : Stage} (h : s.takesNow = true)
    (e : reqFeedClear (s.withEntry m (.feedClear v) .untaken) v = (s.withEntry m (.feedClear v) .untaken, st)) :
    exec (.feedClear m v) s = .next (finish s (s.withEntry m (.feedClear v) st)) :=
  (taken_plain h rfl nofun : Taken s m (.feedClear v)).same (c := .feedClear m v) rfl rfl e

/-- Settles O40. -/
theorem jamCleared : Obligations.JamCleared := by
  refine ⟨fun s m v o n p h hv => ⟨fun hx => ?_, fun hx ht hb => ?_, fun hx ht hb hr hh hp hf => ?_⟩, fun s m v h hv => ?_,
    fun s => ⟨endFeed_settles, endFeed_unsettled, feederOnly_endFeed s⟩, fun s h => ⟨fun hx ht => ?_, fun ht => ?_⟩, fun s => ?_⟩
  · refine exec_feedClear_same h ?_
    simp only [reqFeedClear, hv]
    exact if_pos hx
  · refine exec_feedClear_same h ?_
    let j := s.withEntry m (.feedClear v) .untaken
    have hx' : j.feeder.state = .jammed := hx
    have ht' : j.feeder.tag = some n := ht
    have hbj : j.bufferShort = true := bufferShort_true hb
    change reqFeedClear j v = _
    simp only [reqFeedClear, hv, hx', ht', hbj, ne_eq, not_true_eq_false, Bool.true_or, if_false, if_true]
    rfl
  · intro j k e
    have hx' : j.feeder.state = .jammed := hx
    have ht' : j.feeder.tag = some n := ht
    have hbj : j.bufferShort = false := bufferShort_false hb
    have hw : j.feederWaits = false := by
      have hh' : j.held = [] := hh
      rw [State.feederWaits, hh']
      rfl
    have hfinish := finishFeed_taken (s := j) o hp hf hr hh hb
    have hheld := held_finishFeed (s := j) o hp hf hr hh hb
    have he : clearedPack k o p = e := by cases o <;> rfl
    change finishFeed j _ = reportEmpty j (endFeed (clearedPack k o p)) at hfinish
    rw [he] at hfinish
    refine exec_feedClear h ?_
    change reqFeedClear j v = _
    simp only [reqFeedClear, hv, hx', ht', hbj, hw, ne_eq, not_true_eq_false, Bool.or_self, Bool.false_eq_true, if_false]
    rw [feedClearAccepted]
    rw [hheld, hfinish]
    rfl
  · refine exec_feedClear_same h ?_
    simp only [reqFeedClear, hv]
    rfl
  · have e : feedOut s = putFeeder s { s.feeder with state := .jammed, gate := false, feedTimer := none } := by
      simp only [feedOut, hx, ht, decide_true, Bool.and_self, if_true]
    rw [← e]
    exact live_out h (fun s => finish s (feedOut s))
  · refine ⟨_, live_out h (fun s => finish s (resettleOut s)), if_pos ht, ?_⟩
    have e : resettleOut s = updateFeeder { s with feeder := { s.feeder with resettleTimer := none } } := if_pos ht
    rw [e]
    let u : State := { s with feeder := { s.feeder with resettleTimer := none } }
    have hcore : (updateFeeder u).core = u.core := updateFeeder_core u
    have htimer : (updateFeeder u).feeder.resettleTimer = none := (feeder_updateFeeder u).2
    have hreasons := reasons_updateFeeder u
    refine ⟨htimer, ?_, hreasons, linkKept_of_core (s := s) hcore, ?_⟩
    · rw [hreasons, State.blockReasons, htimer]
      rfl
    · obtain ⟨q, g, f, l, e⟩ := (feederOnly_iff _ _).1 (feederOnly_updateFeeder u)
      rw [e]
  · intro r x t
    refine ⟨updateFeeder_ready_blocked, updateFeeder_ready_idle, updateFeeder_blocked, updateFeeder_ready, updateFeeder_blocks,
      updateFeeder_busy, reasons_isEmpty_iff r, rfl, putFeeder_marks s⟩

end Sys2Proof.Machine
end

section
/-! A changed effect set at its receivers: what the Action Matrix leaves alone, and what bays, chamber, shredder, feeder and line mode
come to (R109 to R115). -/

namespace Sys2Proof.Machine

/-! ### What a changed effect set leaves alone -/

/-- Of the part only the effect set, the bays, the chamber, the interlock, the feeder, packs that a feed has started, events held, the
line, the Link Port and the free values spent differ. -/
def EffectFrame (s t : State) : Prop := ∃ e b l a i f p h n r, t = { s with
  effect := e, bays := b, link := l, atm := a, interlock := i, feeder := f, packs := p, held := h, line := n, free := r }

theorem EffectFrame.refl (s : State) : EffectFrame s s := ⟨_, _, _, _, _, _, _, _, _, _, rfl⟩

theorem EffectFrame.trans {s t u : State} (h₁ : EffectFrame s t) (h₂ : EffectFrame t u) : EffectFrame s u := by
  obtain ⟨_, _, _, _, _, _, _, _, _, _, rfl⟩ := h₁
  obtain ⟨_, _, _, _, _, _, _, _, _, _, rfl⟩ := h₂
  exact ⟨_, _, _, _, _, _, _, _, _, _, rfl⟩

theorem EffectFrame.spendFree {s t : State} (h : EffectFrame s t) : EffectFrame s t.spendFree := by
  obtain ⟨_, _, _, _, _, _, _, _, _, _, rfl⟩ := h
  exact ⟨_, _, _, _, _, _, _, _, _, _, rfl⟩

theorem effectFrame_baysLinkOnly {s t : State} (h : BaysLinkOnly s t) : EffectFrame s t := by
  obtain ⟨b, l, e⟩ := h
  exact ⟨s.effect, b, l, s.atm, s.interlock, s.feeder, s.packs, s.held, s.line, s.free, e⟩

theorem effectFrame_feederOnly {s t : State} (h : FeederOnly s t) : EffectFrame s t := by
  obtain ⟨p, h, f, l, e⟩ := (feederOnly_iff s t).1 h
  exact ⟨s.effect, s.bays, l, s.atm, s.interlock, f, p, h, s.line, s.free, e⟩

theorem effectFrame_effect (s : State) (e : EffectSet) : EffectFrame s { s with effect := e } :=
  ⟨e, s.bays, s.link, s.atm, s.interlock, s.feeder, s.packs, s.held, s.line, s.free, rfl⟩

theorem effectFrame_updatePermission (s : State) : EffectFrame s (updatePermission s) := by
  obtain ⟨p, h, i, f, l, e⟩ := updatePermission_frame s
  exact ⟨s.effect, s.bays, l, s.atm, i, f, p, h, s.line, s.free, e⟩

theorem effectFrame_setLineMode (s : State) (m : LineMode) (c : Option HoldCause) : EffectFrame s (setLineMode s m c) := by
  obtain ⟨p, h, i, f, l, e⟩ := setLineMode_frame s m c
  exact ⟨s.effect, _, l, s.atm, i, f, p, h, _, s.free, e⟩

theorem effectFrame_mark (s : State) (c : NoticeClass) : EffectFrame s (s.mark c) :=
  ⟨s.effect, s.bays, _, s.atm, s.interlock, s.feeder, s.packs, s.held, s.line, s.free, rfl⟩

theorem effectFrame_putChamber (s : State) (x : Atmosphere) : EffectFrame s (putChamber s x) :=
  ⟨s.effect, s.bays, _, _, s.interlock, s.feeder, s.packs, s.held, s.line, s.free, putChamber_eq s x⟩

theorem effectFrame_takePct (e : EffectSet) (s : State) : EffectFrame s (takePct e s) := by
  unfold takePct
  dsimp only
  split
  · exact effectFrame_effect s e
  · exact (effectFrame_effect s e).trans (effectFrame_baysLinkOnly (baysLinkOnly_regrant _))

theorem effectFrame_marksThenPct (e : EffectSet) (s : State) : EffectFrame s (marksThenPct e s) :=
  ((effectFrame_effect s _).trans (effectFrame_baysLinkOnly (baysLinkOnly_syncHolds _))).trans (effectFrame_takePct e _)

theorem effectFrame_pctThenMarks (e : EffectSet) (s : State) : EffectFrame s (pctThenMarks e s) :=
  (effectFrame_takePct e s).trans (effectFrame_baysLinkOnly (baysLinkOnly_syncHolds _))

theorem effectFrame_effectTaken (s : State) : EffectFrame s (effectTaken s) :=
  eitherOrder_of (Q := EffectFrame s) EffectFrame.spendFree _ _
    ((effectFrame_mark s .line).trans (effectFrame_marksThenPct _ _)) ((effectFrame_mark s .line).trans (effectFrame_pctThenMarks _ _))

theorem effectFrame_stopParts (o : EffectSet) (s : State) : EffectFrame s (stopParts o s) := by
  refine (effectFrame_updatePermission s).trans ?_
  change EffectFrame _ (lineHoldEnters o (updatePermission s))
  unfold lineHoldEnters enterSafeHold
  split_ifs
  · exact .refl _
  · exact effectFrame_setLineMode _ _ _
  · exact .refl _

theorem effectFrame_lateParts (o : EffectSet) (s : State) : EffectFrame s (lateParts o s) := by
  have hfeeder (u : State) : EffectFrame u (updateFeeder u) := effectFrame_feederOnly (feederOnly_updateFeeder u)
  unfold lateParts
  split
  · exact eitherOrder_of (Q := EffectFrame s) EffectFrame.spendFree _ _ ((hfeeder s).trans (effectFrame_stopParts o _))
      ((effectFrame_stopParts o s).trans (hfeeder _))
  · exact (effectFrame_stopParts o s).trans (hfeeder _)

theorem effectFrame_formEffects (s : State) : EffectFrame s (formEffects s) := by
  obtain ⟨-, e⟩ | ⟨-, -, e⟩ | ⟨-, -, e⟩ := formEffects_cases s <;> rw [e]
  · exact .refl s
  · exact (effectFrame_effectTaken s).trans (effectFrame_lateParts _ _)
  · exact ((effectFrame_effectTaken s).trans (effectFrame_putChamber _ _)).trans (effectFrame_lateParts _ _)

/-- The active cells read the zones and the matrix alone. -/
theorem effectOf_congr {s t : State} (hz : t.zones = s.zones) (hc : t.cells = s.cells) : effectOf t = effectOf s := by
  have h (z : ZoneId) : t.activeCells z = s.activeCells z := by
    unfold State.activeCells State.zone
    rw [hz, hc]
  unfold effectOf
  simp only [funext h]

theorem EffectFrame.cells_active {s t : State} (h : EffectFrame s t) : effectOf t = effectOf s := by
  obtain ⟨_, _, _, _, _, _, _, _, _, _, rfl⟩ := h
  exact effectOf_congr rfl rfl

theorem effect_putChamber (s : State) (x : Atmosphere) : (putChamber s x).effect = s.effect := by rw [putChamber_eq]

/-- The set in force is the one the active cells give (R109). -/
theorem effect_formEffects (s : State) : (formEffects s).effect = effectOf s := by
  have hlate (o : EffectSet) (u : State) : (lateParts o u).effect = u.effect := (sameSources_lateParts o u).effect
  have htaken := (effectTaken_only s).effect
  obtain ⟨h, e⟩ | ⟨-, -, e⟩ | ⟨-, -, e⟩ := formEffects_cases s <;> rw [e]
  · exact h
  · rw [hlate, htaken]
  · rw [hlate, effect_putChamber, htaken]

theorem effect_eq_formEffects (s : State) : (formEffects s).effect = effectOf (formEffects s) :=
  (effect_formEffects s).trans (effectFrame_formEffects s).cells_active.symm

/-! ### Bays and arbiter (R110, R111) -/

/-- What the sources with effect set `e` give bay `b` for its set. -/
def State.holdsUnder (s : State) (e : EffectSet) (b : BayId) : Holds := { (s.bay b).holds with
  line := modeHolds s.line.mode
  zone := ((s.bay b).settings.map (fun v => e.marks[v.zone])).getD false
  cooling := !s.coolingOk }

theorem regranted_takePct (e : EffectSet) (s : State) (b : BayId) : (s.bay b).Regranted ((takePct e s).bay b) := by
  unfold takePct
  dsimp only
  split
  · exact .refl _
  · exact regranted_regrant { s with effect := e } b

/-- A recomputation of the grants, or none, with effect set `e` in force. -/
theorem takePct_eq (e : EffectSet) (s : State) : ∃ b l, takePct e s = { s with effect := e, bays := b, link := l } := by
  unfold takePct
  dsimp only
  split
  · exact ⟨s.bays, s.link, rfl⟩
  · obtain ⟨b, l, h⟩ := baysLinkOnly_regrant { s with effect := e }
    exact ⟨b, l, h⟩

theorem synced_marksThenPct (e : EffectSet) (s : State) (b : BayId) :
    (s.bay b).Synced (s.awaiting b) (s.holdsUnder e b) ((marksThenPct e s).bay b) := by
  let u : State := { s with effect := { e with pct := s.effect.pct } }
  have S := synced_syncHolds u b
  have hfrom : holdsFrom u b = s.holdsUnder e b := holdsFrom_eq u b
  rw [hfrom] at S
  exact S.then_regrant (regranted_takePct e (syncHolds u) b)

theorem synced_pctThenMarks (e : EffectSet) (s : State) (b : BayId) :
    (s.bay b).Synced (s.awaiting b) (s.holdsUnder e b) ((pctThenMarks e s).bay b) := by
  have R := regranted_takePct e s b
  have S := synced_syncHolds (takePct e s) b
  obtain ⟨bs, l, h⟩ := takePct_eq e s
  have hheld : (takePct e s).held = s.held := by rw [h]
  have hfrom : holdsFrom (takePct e s) b = s.holdsUnder e b := by
    have hholds : ((takePct e s).bay b).holds = (s.bay b).holds := by rw [R.frame]
    have hsettings : ((takePct e s).bay b).settings = (s.bay b).settings := by rw [R.frame]
    rw [holdsFrom_eq, State.holdsIn, hholds, hsettings, h]
    rfl
  rw [hfrom, awaiting_of hheld R.pack] at S
  exact S.after_regrant R

theorem synced_effectTaken (s : State) (b : BayId) :
    (s.bay b).Synced (s.awaiting b) (s.holdsUnder (effectOf s) b) ((effectTaken s).bay b) :=
  eitherOrder_of (Q := fun t => (s.bay b).Synced (s.awaiting b) (s.holdsUnder (effectOf s) b) (t.bay b)) (fun h => h) _ _
    (synced_marksThenPct (effectOf s) (s.mark .line) b) (synced_pctThenMarks (effectOf s) (s.mark .line) b)

theorem marksThenPct_eq (e : EffectSet) (s : State) : ∃ b l, marksThenPct e s = { s with effect := e, bays := b, link := l } := by
  obtain ⟨b, l, h⟩ := baysLinkOnly_syncHolds { s with effect := { e with pct := s.effect.pct } }
  obtain ⟨c, k, h'⟩ := takePct_eq e (syncHolds { s with effect := { e with pct := s.effect.pct } })
  refine ⟨c, k, h'.trans ?_⟩
  rw [h]

theorem pctThenMarks_eq (e : EffectSet) (s : State) : ∃ b l, pctThenMarks e s = { s with effect := e, bays := b, link := l } := by
  obtain ⟨b, l, h⟩ := takePct_eq e s
  obtain ⟨c, k, h'⟩ := baysLinkOnly_syncHolds (takePct e s)
  refine ⟨c, k, h'.trans ?_⟩
  rw [h]

/-- Of the part only the effect set, the bays, the Link Port and a free value differ. -/
def MarksTaken (s : State) (e : EffectSet) (t : State) : Prop := ∃ b l r, t = { s with effect := e, bays := b, link := l, free := r }

theorem MarksTaken.spendFree {s t : State} {e : EffectSet} (h : MarksTaken s e t) : MarksTaken s e t.spendFree := by
  obtain ⟨b, l, r, rfl⟩ := h
  exact ⟨_, _, _, rfl⟩

/-- Bays and arbiter leave the line, the feeder, packs and events held alone. -/
theorem effectTaken_eq (s : State) : MarksTaken s (effectOf s) (effectTaken s) := by
  refine eitherOrder_of (Q := MarksTaken s (effectOf s)) MarksTaken.spendFree _ _ ?_ ?_
  · obtain ⟨b, l, h⟩ := marksThenPct_eq (effectOf s) (s.mark .line)
    exact ⟨b, l, s.free, h⟩
  · obtain ⟨b, l, h⟩ := pctThenMarks_eq (effectOf s) (s.mark .line)
    exact ⟨b, l, s.free, h⟩

/-! ### Feeder, interlock and line mode (R113, R115) -/

/-- LINE_HOLD enters the line actions where the line is not in SAFE_HOLD. -/
def State.lineHoldStarts (s : State) (o : EffectSet) : Prop :=
  s.effect.lineHold = true ∧ o.lineHold = false ∧ s.line.mode ≠ .safeHold

/-- The shredder and, where LINE_HOLD enters, the line mode have followed the effect set, perhaps with the feeder. -/
structure StopTaken (o : EffectSet) (s t : State) : Prop where
  looked : FeedLooked s t
  sources : SameSources s t
  stays : ¬s.lineHoldStarts o → t.bays = s.bays ∧ t.line = s.line ∧ t.interlock = s.interlock.permitted t.runConditions.met
  holds : s.lineHoldStarts o → (∀ b, (s.bay b).Synced (s.awaiting b) (s.holdsIn .safeHold b) (t.bay b))
    ∧ t.line = { s.line with mode := .safeHold, cause := some .lineHold } ∧ t.runConditions.met = false
    ∧ ∃ m, t.interlock = (s.interlock.permitted m).permitted t.runConditions.met

theorem StopTaken.spendFree {o : EffectSet} {s t : State} (h : StopTaken o s t) : StopTaken o s t.spendFree :=
  ⟨⟨h.looked.packs, h.looked.awaiting⟩, ⟨h.sources.atm, h.sources.effect, h.sources.inputs⟩, h.stays, h.holds⟩

/-- The feeder follows afterwards. -/
theorem StopTaken.then_feeder {o : EffectSet} {s t : State} (h : StopTaken o s t) : StopTaken o s (updateFeeder t) := by
  have hi := interlock_updateFeeder t
  have hr := runConditions_updateFeeder t
  have hl := h.looked.trans (feedLooked_updateFeeder t)
  have hs := h.sources.trans (sameSources_updateFeeder t)
  obtain ⟨p, q, f, l, e⟩ := (feederOnly_iff _ _).1 (feederOnly_updateFeeder t)
  have hbays : (updateFeeder t).bays = t.bays := by rw [e]
  have hline : (updateFeeder t).line = t.line := by rw [e]
  generalize updateFeeder t = u at *
  refine ⟨hl, hs, fun hn => ?_, fun hy => ?_⟩
  · obtain ⟨h₁, h₂, h₃⟩ := h.stays hn
    exact ⟨hbays.trans h₁, hline.trans h₂, by rw [hi, hr, h₃]⟩
  · obtain ⟨h₁, h₂, h₃, m, h₄⟩ := h.holds hy
    refine ⟨fun b => ?_, hline.trans h₂, by rw [hr, h₃], m, by rw [hi, hr, h₄]⟩
    rw [bay_of_bays hbays]
    exact h₁ b

/-- The feeder has followed before. -/
theorem StopTaken.after_feeder {o : EffectSet} {s t : State} (h : StopTaken o (updateFeeder s) t) : StopTaken o s t := by
  have hl := feedLooked_updateFeeder s
  have hs := sameSources_updateFeeder s
  have hi := interlock_updateFeeder s
  obtain ⟨p, q, f, l, e⟩ := (feederOnly_iff _ _).1 (feederOnly_updateFeeder s)
  have hbays : (updateFeeder s).bays = s.bays := by rw [e]
  have hline : (updateFeeder s).line = s.line := by rw [e]
  have hholds (b : BayId) : (updateFeeder s).holdsIn .safeHold b = s.holdsIn .safeHold b := by
    rw [e]
    rfl
  generalize updateFeeder s = u at *
  have hstarts : u.lineHoldStarts o ↔ s.lineHoldStarts o := by
    rw [State.lineHoldStarts, State.lineHoldStarts, hs.effect, hline]
  refine ⟨hl.trans h.looked, hs.trans h.sources, fun hn => ?_, fun hy => ?_⟩
  · obtain ⟨h₁, h₂, h₃⟩ := h.stays (hn ∘ hstarts.1)
    exact ⟨h₁.trans hbays, h₂.trans hline, by rw [h₃, hi]⟩
  · obtain ⟨h₁, h₂, h₃, m, h₄⟩ := h.holds (hstarts.2 hy)
    refine ⟨fun b => ?_, by rw [h₂, hline], h₃, m, by rw [h₄, hi]⟩
    have S := h₁ b
    rwa [bay_of_bays hbays, hl.awaiting, hholds] at S

theorem stopParts_taken (o : EffectSet) (s : State) : StopTaken o s (stopParts o s) := by
  have hl := feedLooked_updatePermission s
  have hs := sameSources_updatePermission s
  have hi := interlock_updatePermission_permitted s
  have hr := runConditions_updatePermission s
  have hdef : stopParts o s = lineHoldEnters o (updatePermission s) := rfl
  obtain ⟨p, q, x, f, l, e⟩ := updatePermission_frame s
  have hbays : (updatePermission s).bays = s.bays := by rw [e]
  have hline : (updatePermission s).line = s.line := by rw [e]
  have hholds (b : BayId) : (updatePermission s).holdsIn .safeHold b = s.holdsIn .safeHold b := by
    rw [e]
    rfl
  rw [hdef]
  generalize updatePermission s = u at *
  have hstarts : u.lineHoldStarts o ↔ s.lineHoldStarts o := by
    rw [State.lineHoldStarts, State.lineHoldStarts, hs.effect, hline]
  by_cases hy : s.lineHoldStarts o
  · have hyu := hstarts.2 hy
    obtain ⟨h₁, h₂, h₃⟩ := hyu
    have hset : lineHoldEnters o u = setLineMode u .safeHold (some .lineHold) := by
      simp only [lineHoldEnters, h₁, h₂, Bool.not_false, Bool.and_self, if_true, enterSafeHold, if_neg h₃]
    have hsources := sameSources_setLineMode u .safeHold (some .lineHold)
    have M := setLineMode_set u .safeHold (some .lineHold)
    rw [hset]
    generalize setLineMode u .safeHold (some .lineHold) = t at *
    refine ⟨hl.trans M.looked, hs.trans hsources, fun hn => absurd hy hn, fun _ => ⟨fun b => ?_, by rw [M.line, hline],
      M.unmet nofun nofun, s.runConditions.met, by rw [M.interlock, hi]⟩⟩
    have S := M.bays b
    rwa [bay_of_bays hbays, hl.awaiting, hholds] at S
  · have hsame : lineHoldEnters o u = u := by
      unfold lineHoldEnters enterSafeHold
      split_ifs with h₁ h₂
      · rfl
      · rw [Bool.and_eq_true, Bool.not_eq_true'] at h₁
        exact absurd (hstarts.1 ⟨h₁.1, h₁.2, h₂⟩) hy
      · rfl
    rw [hsame]
    exact ⟨hl, hs, fun _ => ⟨hbays, hline, by rw [hi, hr]⟩, fun h => absurd h hy⟩

theorem lateParts_taken (o : EffectSet) (s : State) : StopTaken o s (lateParts o s) := by
  unfold lateParts
  split
  · exact eitherOrder_of (Q := StopTaken o s) StopTaken.spendFree _ _ (stopParts_taken o _).after_feeder (stopParts_taken o s).then_feeder
  · exact (stopParts_taken o s).then_feeder

/-! ### The block-reason set (R137) -/

/-- The feeder's set is the one its sources give. -/
def State.FeederReasons (s : State) : Prop := s.feeder.reasons = s.blockReasons

theorem feederReasons_updatePermission {s : State} (h : s.FeederReasons) : (updatePermission s).FeederReasons := by
  unfold updatePermission
  dsimp only
  split
  · exact reasons_updateFeeder _
  · rw [putInterlock_eq]
    exact h

theorem feederReasons_stopParts {s : State} (o : EffectSet) (h : s.FeederReasons) : (stopParts o s).FeederReasons := by
  have hu := feederReasons_updatePermission h
  unfold stopParts lineHoldEnters enterSafeHold
  split_ifs
  · exact hu
  · exact (setLineMode_set _ _ _).reasons
  · exact hu

theorem feederReasons_lateParts (o : EffectSet) (s : State) : (lateParts o s).FeederReasons := by
  unfold lateParts
  split
  · exact eitherOrder_of (Q := State.FeederReasons) (fun h => h) _ _ (feederReasons_stopParts o (reasons_updateFeeder s))
      (reasons_updateFeeder _)
  · exact reasons_updateFeeder _

/-! ### A changed effect set (R109 to R115) -/

/-- The effect set has changed, and its receivers have taken their parts. -/
structure EffectsFormed (s t : State) : Prop where
  looked : FeedLooked s t
  bays : BaysFollow s t
  run : RunFollows s t
  reasons : t.FeederReasons
  atm : t.atm = if s.effect.inertBoost = (effectOf s).inertBoost then s.atm
    else { s.atm with valve := valveFor s.atm.state s.doorClosed (effectOf s).inertBoost }
  mode : t.line.mode = if (effectOf s).lineHold = true ∧ s.effect.lineHold = false then .safeHold else s.line.mode
  cause : t.line.cause = if (effectOf s).lineHold = true ∧ s.effect.lineHold = false ∧ s.line.mode ≠ .safeHold then some .lineHold
    else s.line.cause

/-- Bays, arbiter and chamber have taken their parts of the effect set. -/
structure ReceiversTaken (s v : State) : Prop where
  looked : FeedLooked s v
  bays : ∀ b, (s.bay b).Synced (s.awaiting b) (s.holdsUnder (effectOf s) b) (v.bay b)
  effect : v.effect = effectOf s
  line : v.line = s.line
  interlock : v.interlock = s.interlock

theorem effectTaken_taken (s : State) : ReceiversTaken s (effectTaken s) := by
  have S := synced_effectTaken s
  obtain ⟨b, l, r, e⟩ := effectTaken_eq s
  generalize effectTaken s = v at *
  have hpacks : v.packs.length = s.packs.length := by rw [e]
  exact ⟨⟨hpacks, fun b => awaiting_of (by rw [e]) (S b).pack⟩, S, by rw [e], by rw [e], by rw [e]⟩

theorem ReceiversTaken.then_chamber {s v : State} (h : ReceiversTaken s v) (x : Atmosphere) : ReceiversTaken s (putChamber v x) := by
  have e := putChamber_eq v x
  generalize putChamber v x = w at *
  have hbays : w.bays = v.bays := by rw [e]
  refine ⟨⟨?_, fun b => ?_⟩, fun b => ?_, ?_, ?_, ?_⟩
  · rw [e]
    exact h.looked.packs
  · rw [awaiting_congr (by rw [e]) hbays]
    exact h.looked.awaiting b
  · rw [bay_of_bays hbays]
    exact h.bays b
  · rw [e]
    exact h.effect
  · rw [e]
    exact h.line
  · rw [e]
    exact h.interlock

/-- The rest follow. -/
theorem ReceiversTaken.formed {s v t : State} (h : ReceiversTaken s v) (T : StopTaken s.effect v t) (hreasons : t.FeederReasons)
    (hatm : v.atm = if s.effect.inertBoost = (effectOf s).inertBoost then s.atm
      else { s.atm with valve := valveFor s.atm.state s.doorClosed (effectOf s).inertBoost }) : EffectsFormed s t := by
  have hcool : t.coolingOk = s.coolingOk := by
    simp only [State.coolingOk, State.level, T.sources.inputs, h.line]
  have heff : t.effect = effectOf s := T.sources.effect.trans h.effect
  have hstarts : v.lineHoldStarts s.effect ↔ ((effectOf s).lineHold = true ∧ s.effect.lineHold = false ∧ s.line.mode ≠ .safeHold) := by
    rw [State.lineHoldStarts, h.effect, h.line]
  have hmode : ¬v.lineHoldStarts s.effect →
      (if (effectOf s).lineHold = true ∧ s.effect.lineHold = false then .safeHold else s.line.mode) = s.line.mode := fun hn => by
    split_ifs with hh
    · by_contra hne
      exact hn (hstarts.2 ⟨hh.1, hh.2, Ne.symm hne⟩)
    · rfl
  by_cases hy : v.lineHoldStarts s.effect
  · obtain ⟨hbays, hline, hmet, m, hi⟩ := T.holds hy
    have hy' := hstarts.1 hy
    refine ⟨h.looked.trans T.looked, baysFollow_of fun b => ⟨?_, ?_⟩, runFollows_of_twice (by rw [hi, h.interlock]) hmet, hreasons,
      T.sources.atm.trans hatm, ?_, ?_⟩
    · have S := hbays b
      rw [h.looked.awaiting] at S
      exact (h.bays b).follows_trans S rfl
    · have hset : (v.bay b).settings = (s.bay b).settings := by rw [(h.bays b).frame]
      have hvc : v.coolingOk = s.coolingOk := by simp only [State.coolingOk, State.level, h.line]
      rw [(hbays b).holds, State.holdsIn, hset, (h.bays b).holds, hcool, heff, hline, h.effect, hvc]
      rfl
    · rw [hline, if_pos ⟨hy'.1, hy'.2.1⟩]
    · rw [hline, if_pos hy']
  · obtain ⟨hbays, hline, hi⟩ := T.stays hy
    refine ⟨h.looked.trans T.looked, baysFollow_of fun b => ⟨?_, ?_⟩, runFollows_of_permitted (by rw [hi, h.interlock]), hreasons,
      T.sources.atm.trans hatm, ?_, ?_⟩
    · rw [bay_of_bays hbays]
      exact (h.bays b).follows
    · rw [bay_of_bays hbays, (h.bays b).holds, heff, hcool, hline, h.line]
      rfl
    · rw [hmode hy, hline, h.line]
    · rw [if_neg (hy ∘ hstarts.2), hline, h.line]

theorem formEffects_formed {s : State} (h : s.effect ≠ effectOf s) : EffectsFormed s (formEffects s) := by
  have R := effectTaken_taken s
  obtain ⟨he, -⟩ | ⟨-, hb, e⟩ | ⟨-, hb, e⟩ := formEffects_cases s
  · exact absurd he h
  · rw [e]
    refine R.formed (lateParts_taken _ _) (feederReasons_lateParts _ _) ?_
    rw [if_pos hb]
    exact (effectTaken_only s).atm
  · rw [e]
    refine (R.then_chamber _).formed (lateParts_taken _ _) (feederReasons_lateParts _ _) ?_
    rw [if_neg hb, putChamber_eq]
    have O := effectTaken_only s
    have hdoor : (effectTaken s).doorClosed = s.doorClosed := by simp only [State.doorClosed, State.level, O.inputs]
    simp only [withValve, O.atm, O.effect, hdoor]

theorem formEffects_same {s : State} (h : s.effect = effectOf s) : formEffects s = s := by
  obtain ⟨-, e⟩ | ⟨hn, -⟩ | ⟨hn, -⟩ := formEffects_cases s
  · exact e
  · exact absurd h hn
  · exact absurd h hn

theorem feedLooked_formEffects (s : State) : FeedLooked s (formEffects s) := by
  by_cases h : s.effect = effectOf s
  · rw [formEffects_same h]
    exact .refl s
  · exact (formEffects_formed h).looked

end Sys2Proof.Machine
end

section
/-! The active cells, and CONFIG_ACTION (O24). -/

namespace Sys2Proof.Machine

/-! ### The effect set of the active cells (R108, R109) -/

theorem mem_allZones (z : ZoneId) : z ∈ allZones := by
  revert z
  decide

theorem mem_activeCells (s : State) (z : ZoneId) (c : ActionCell) : c ∈ s.activeCells z ↔
    ((s.zone z).main = .preAlarm ∧ c = s.cells[z].preAlarm) ∨ ((s.zone z).main = .alarm ∧ c = s.cells[z].alarm)
    ∨ ((s.zone z).main = .released ∧ c = s.cells[z].released) ∨ ((s.zone z).fault = true ∧ c = s.cells[z].fault) := by
  unfold State.activeCells
  dsimp only
  cases (s.zone z).main <;> cases (s.zone z).fault <;> simp

/-- An action stands where an active cell has it. -/
theorem any_activeCells (s : State) (f : ActionCell → Bool) :
    (allZones.flatMap s.activeCells).any f = true ↔ ∃ z, ∃ c ∈ s.activeCells z, f c = true := by
  simp only [List.any_eq_true, List.mem_flatMap]
  constructor
  · rintro ⟨c, ⟨z, -, hc⟩, hf⟩
    exact ⟨z, c, hc, hf⟩
  · rintro ⟨z, c, hc, hf⟩
    exact ⟨c, ⟨z, mem_allZones z, hc⟩, hf⟩

theorem pct_effectOf (s : State) :
    (effectOf s).pct = ((allZones.flatMap s.activeCells).map ActionCell.pct).foldl min 100 := by
  rw [List.foldl_map]
  rfl

theorem effectOf_follows (s : State) :
    let e := effectOf s
    (e.blockFeed = true ↔ ∃ z, ∃ c ∈ s.activeCells z, c.actions.blockFeed = true)
    ∧ (e.stopShredder = true ↔ ∃ z, ∃ c ∈ s.activeCells z, c.actions.stopShredder = true)
    ∧ (e.inertBoost = true ↔ ∃ z, ∃ c ∈ s.activeCells z, c.actions.inertBoost = true)
    ∧ (e.lineHold = true ↔ ∃ z, ∃ c ∈ s.activeCells z, c.actions.lineHold = true)
    ∧ (∀ z, e.marks[z] = true ↔ ∃ c ∈ s.activeCells z, c.actions.holdBays = true)
    ∧ e.pct ≤ 100 ∧ (∀ z, ∀ c ∈ s.activeCells z, e.pct ≤ c.pct)
    ∧ (e.pct = 100 ∨ ∃ z, ∃ c ∈ s.activeCells z, e.pct = c.pct) := by
  intro e
  have hpct : e.pct = _ := pct_effectOf s
  refine ⟨any_activeCells s _, any_activeCells s _, any_activeCells s _, any_activeCells s _, fun z => ?_, ?_, fun z c hc => ?_, ?_⟩
  · simp only [e, effectOf, Fin.getElem_fin, Vector.getElem_ofFn, List.any_eq_true]
  · rw [hpct]
    exact foldl_min_le List.mem_cons_self
  · rw [hpct]
    exact foldl_min_le (List.mem_cons_of_mem _ (List.mem_map_of_mem (List.mem_flatMap.2 ⟨z, mem_allZones z, hc⟩)))
  · rw [hpct]
    obtain h | h := List.mem_cons.1 (foldl_min_mem ((allZones.flatMap s.activeCells).map ActionCell.pct) 100)
    · exact .inl h
    · obtain ⟨c, hc, hp⟩ := List.mem_map.1 h
      obtain ⟨z, -, hz⟩ := List.mem_flatMap.1 hc
      exact .inr ⟨z, c, hz, hp.symm⟩

/-! ### CONFIG_ACTION (R107) -/

/-- The clamped percentage is what the reply tells (R107). -/
theorem rewriteReply_pct (c : Section) (n : Nat) (b : Body) :
    rewriteReply c (decide (100 < n)) b = .waiting (.rewrite c false ⟨if n ≤ 100 then .ok else .clamped, b⟩) := by
  unfold rewriteReply clampStatus
  by_cases h : n ≤ 100
  · rw [if_pos h, decide_eq_false (Nat.not_lt.2 h)]
    rfl
  · rw [if_neg h, decide_eq_true (Nat.not_le.1 h)]
    rfl

theorem cells_formEffects (s : State) : (formEffects s).cells = s.cells ∧ (formEffects s).zones = s.zones := by
  obtain ⟨_, _, _, _, _, _, _, _, _, _, e⟩ := effectFrame_formEffects s
  rw [e]
  exact ⟨rfl, rfl⟩

/-- What a changed effect set comes to, in the words of the statement. -/
theorem formEffects_follows {s : State} (h : (formEffects s).effect ≠ s.effect) :
    let t := formEffects s
    BaysFollow s t ∧ (s.grantWf = true → t.grantWf = true)
    ∧ (t.effect.inertBoost ≠ s.effect.inertBoost →
        t.atm = { s.atm with valve := valveFor s.atm.state s.doorClosed t.effect.inertBoost })
    ∧ (t.effect.inertBoost = s.effect.inertBoost → t.atm = s.atm)
    ∧ t.feeder.reasons = t.blockReasons ∧ t.feeder.reasons.effect = t.effect.blockFeed
    ∧ RunFollows s t
    ∧ t.line.mode = (if t.effect.lineHold = true ∧ s.effect.lineHold = false then .safeHold else s.line.mode)
    ∧ t.line.cause = (if t.effect.lineHold = true ∧ s.effect.lineHold = false ∧ s.line.mode ≠ .safeHold then some .lineHold
        else s.line.cause) := by
  intro t
  have heff : t.effect = effectOf s := effect_formEffects s
  have F : EffectsFormed s t := formEffects_formed fun e => h (heff.trans e.symm)
  have hwf : s.grantWf = true → t.grantWf = true := kept_grantWf.effects
  clear_value t
  have hreasons : t.feeder.reasons = t.blockReasons := F.reasons
  refine ⟨F.bays, hwf, fun hb => ?_, fun hb => ?_, hreasons, ?_, F.run, ?_, ?_⟩
  · rw [F.atm, heff, if_neg fun e => hb ((congrArg EffectSet.inertBoost heff).trans e.symm)]
  · rw [F.atm, if_pos ((congrArg EffectSet.inertBoost heff).symm.trans hb).symm]
  · rw [hreasons]
    rfl
  · rw [F.mode, heff]
  · rw [F.cause, heff]

/-- Settles O24. -/
theorem actionConfigured : Obligations.ActionConfigured := by
  refine ⟨fun s m zone column acts pct h => ⟨fun hbad => ?_, fun z c k hz hc hk => ?_⟩, mem_activeCells, effectOf_follows⟩
  · have T : Taken s m (.configAction zone column acts pct) := taken_plain h rfl nofun
    refine T.same (c := .configAction m zone column acts pct) rfl rfl ?_
    simp only [runRequest, reqConfigAction]
    cases hz : zoneOf zone with
    | none => rfl
    | some z =>
      cases hc : columnOf column with
      | none => rfl
      | some c =>
        cases hk : actionsOf acts with
        | none => rfl
        | some k =>
          rw [hz, hc, hk] at hbad
          simp at hbad
  · have T : Taken s m (.configAction zone column acts pct) := taken_plain h rfl nofun
    let j : State := { s.withEntry m (.configAction zone column acts pct) .untaken with
      cells := vput s.cells z (s.cells[z].put c ⟨k, min 100 pct.toNat⟩) }
    have hrun : runRequest (s.withEntry m (.configAction zone column acts pct) .untaken) (.configAction zone column acts pct)
        = (askRewrite (formEffects j) .action, rewriteReply .action (decide (100 < pct.toNat)) (.cell ⟨k, min 100 pct.toNat⟩)) := by
      simp only [runRequest, reqConfigAction, hz, hc, hk]
      rfl
    rw [rewriteReply_pct] at hrun
    obtain ⟨ops, hops, hrow⟩ := T.configured (c := .configAction m zone column acts pct) rfl rfl hrun
    have hqueue : (formEffects j).link.queue = j.link.queue := queue_of_core (formEffects_core j)
    obtain ⟨hcells, hzones⟩ := cells_formEffects j
    have heff : (formEffects j).effect = effectOf (formEffects j) := effect_eq_formEffects j
    have hlooked := feedLooked_formEffects j
    have hsame : (formEffects j).effect = j.effect → formEffects j = j := fun e =>
      formEffects_same (e.symm.trans (effect_formEffects j))
    have hfollows := formEffects_follows (s := j)
    generalize formEffects j = u at *
    refine ⟨_, hrow, queued_withStage h hqueue _, hcells, ?_, hops, hzones, hlooked.packs, fun he => ?_, fun he => ?_⟩
    · exact heff.trans (effectOf_congr rfl rfl).symm
    · rw [hsame he]
      rfl
    · obtain ⟨hbays, hwf, hboost, hatm, hreasons, hblock, hrunf, hmode, hcause⟩ := hfollows he
      exact ⟨hbays.congr rfl rfl rfl rfl rfl rfl, hwf, hboost, hatm, hreasons, hblock, hrunf.congr rfl rfl rfl, hmode, hcause⟩

end Sys2Proof.Machine
end

section
/-! Zones: one replaced, its conditions, and its timers (O52). -/

namespace Sys2Proof.Machine

/-! ### A zone replaced -/

theorem putZone_eq (s : State) (z : ZoneId) (x : Zone) :
    putZone s z x = { s with zones := (s.setZone z x).zones, link := (putZone s z x).link } := markIf_eq _ _ _

theorem otherZones_putZone (s : State) (z : ZoneId) (x : Zone) : OtherZones z s (putZone s z x) :=
  fun w hw => zone_putZone_other s z w x hw

theorem zone_of_zones {s t : State} (h : t.zones = s.zones) (z : ZoneId) : t.zone z = s.zone z := by
  simp only [State.zone, h]

/-- Zones and the Link Port alone differ. -/
theorem putZone_frame (s : State) (z : ZoneId) (x : Zone) : ∃ v l, putZone s z x = { s with zones := v, link := l } :=
  ⟨_, _, putZone_eq s z x⟩

/-! ### An evaluation that finds no condition (R93) -/

theorem evaluateZone_clear {s : State} {z : ZoneId} (hm : (s.zone z).main = .normal) (ha : (s.zone z).alarmHolds = false)
    (hp : (s.zone z).preHolds = false) (i : ZoneInput) (f : Bool) : evaluateZone s z i f = s := by
  simp only [evaluateZone, hm, ha, hp, Bool.false_eq_true, if_false]

/-- A zone replaced, and then the effect set formed afresh. -/
structure ZoneFormed (z : ZoneId) (x : Zone) (s t : State) : Prop where
  zone : t.zone z = x
  others : OtherZones z s t
  effect : t.effect = effectOf t
  nv : t.nv = s.nv
  writer : t.writer = s.writer

/-- Zone `z` as it stands in `u`, which has the other zones of `s`. -/
theorem zoneFormed_formEffects {s u : State} {z : ZoneId} {x : Zone} (hz : u.zone z = x) (ho : OtherZones z s u) (hn : u.nv = s.nv)
    (hw : u.writer = s.writer) : ZoneFormed z x s (formEffects u) ∧ (formEffects u).incident = u.incident := by
  have he : (formEffects u).effect = effectOf (formEffects u) := effect_eq_formEffects u
  obtain ⟨_, _, _, _, _, _, _, _, _, _, e⟩ := effectFrame_formEffects u
  generalize formEffects u = t at *
  have hzones : t.zones = u.zones := by rw [e]
  exact ⟨⟨(zone_of_zones hzones z).trans hz, fun w hw => (zone_of_zones hzones w).trans (ho w hw), he, by rw [e]; exact hn,
    by rw [e]; exact hw⟩, by rw [e]⟩

theorem zoneFormed_putZone (s : State) (z : ZoneId) (x : Zone) :
    ZoneFormed z x s (formEffects (putZone s z x)) ∧ (formEffects (putZone s z x)).incident = s.incident := by
  obtain ⟨v, l, e⟩ := putZone_frame s z x
  have h := zoneFormed_formEffects (zone_putZone s z x) (otherZones_putZone s z x) (by rw [e]) (by rw [e])
  exact ⟨h.1, h.2.trans (by rw [e])⟩

/-! ### The zone timers (R93, R96 to R99) -/

/-- Settles O52. -/
theorem zoneTimers : Obligations.ZoneTimers := by
  intro s z h x
  refine ⟨fun hm ht ha hp => ?_, fun ht hs => ?_, fun ht hs => ?_, fun r hr => ?_, fun ht => ?_⟩
  · let y : Zone := { x with main := .normal, preClear := none }
    let t := formEffects (putZone s z y)
    obtain ⟨⟨hz, ho, he, hnv, hw⟩, hi⟩ := zoneFormed_putZone s z y
    have hsame : evaluateZone t z .other false = t := evaluateZone_clear (by rw [hz]) (by rw [hz]; exact ha) (by rw [hz]; exact hp) _ _
    have hout : preClearOut s z = t := by
      have hm' : (s.zone z).main = .preAlarm := hm
      have ht' : (s.zone z).preClear.isSome = true := ht
      simp only [preClearOut, hm', ht', decide_true, Bool.and_self, if_true]
      exact hsame
    refine ⟨t, ?_, hz, ho, he, hi, hnv, hw⟩
    rw [← hout]
    exact live_out h (fun s => finish s (preClearOut s z))
  · have hends : x.windowEnds = { x with consecutive := 0, window := none } := if_pos hs
    have hout : sparkWindowOut s z = evaluateZone (putZone s z x.windowEnds) z (.window 0) false :=
      (if_pos ht).trans (congrArg (fun n => evaluateZone (putZone s z x.windowEnds) z (.window n) false) hs)
    rw [← hends, ← hout]
    exact live_out h (fun s => finish s (sparkWindowOut s z))
  · have hends : x.windowEnds = { x with
        consecutive := min 255 (x.consecutive + 1), sparks := 0, window := some x.settings.window } := if_neg (Nat.ne_of_gt hs)
    have hout : sparkWindowOut s z = evaluateZone (putZone s z x.windowEnds) z (.window x.sparks) false := if_pos ht
    rw [← hends, ← hout]
    exact live_out h (fun s => finish s (sparkWindowOut s z))
  · let y : Zone := { x with
      main := .released, suppression := true, release := .idle, releaseCount := min 65535 (x.releaseCount + 1) }
    let u : State := { putZone s z y with incident := s.incident.released }
    have hout : releaseOut s z = (formEffects u).mark .zone := by
      have hr' : (s.zone z).release = .running r := hr
      have hinc : (putZone s z y).incident = s.incident := by rw [putZone_eq]
      simp only [u, ← hinc, releaseOut, hr']
      rfl
    have hnv : u.nv = s.nv := by
      change (putZone s z y).nv = s.nv
      rw [putZone_eq]
    have hw : u.writer = s.writer := by
      change (putZone s z y).writer = s.writer
      rw [putZone_eq]
    obtain ⟨⟨hz, ho, he, hnv, hw⟩, hi⟩ := zoneFormed_formEffects (s := s) (u := u) (zone_putZone s z y) (otherZones_putZone s z y) hnv hw
    generalize formEffects u = t at *
    refine ⟨t.mark .zone, ?_, hz, ho, he.trans (effectOf_congr rfl rfl).symm, hi, hnv, hw⟩
    rw [← hout]
    exact live_out h (fun s => finish s (releaseOut s z))
  · have hout : quenchOut s z = putZone s z { x with quench := false, quenchTimer := none } := if_pos ht
    rw [← hout]
    exact live_out h (fun s => finish s (quenchOut s z))

end Sys2Proof.Machine
end

section
/-! RESET_ZONE and HOLD_RELEASE (O35). -/

namespace Sys2Proof.Machine

/-! ### The close of an incident (R100, R103) -/

/-- Zone `z` is in ALARM or RELEASED. -/
def State.alarmed (s : State) (z : ZoneId) : Prop := (s.zone z).main = .alarm ∨ (s.zone z).main = .released

theorem any_alarmed (s : State) :
    allZones.any (fun z => (s.zone z).main = .alarm || (s.zone z).main = .released) = true ↔ ∃ z, s.alarmed z := by
  simp only [List.any_eq_true, Bool.or_eq_true, decide_eq_true_eq]
  exact ⟨fun ⟨z, _, h⟩ => ⟨z, h⟩, fun ⟨z, h⟩ => ⟨z, mem_allZones z, h⟩⟩

theorem closeIncident_left {s : State} (h : ∃ z, s.alarmed z) : closeIncident s = s := by
  unfold closeIncident
  split
  · rfl
  · exact if_pos ((any_alarmed s).2 h)

theorem closeIncident_none {s : State} (h : s.incident.progress = none) : closeIncident s = s := by
  simp only [closeIncident, h]

/-- The close part of the incident in progress. -/
def State.closePart (s : State) (p : Progress) : ClosePart :=
  ⟨s.incident.number, s.clock, (s.now - p.openedAt) / 1000, p.zones, p.releases, p.exposed, p.quarantined⟩

theorem closeIncident_closes {s : State} {p : Progress} (hp : s.incident.progress = some p) (h : ¬∃ z, s.alarmed z) :
    closeIncident s = (handPart { s with incident := ⟨s.incident.number, none⟩ } (.closed (s.closePart p))).mark .zone := by
  have hany : allZones.any (fun z => (s.zone z).main = .alarm || (s.zone z).main = .released) = false :=
    Bool.of_not_eq_true (h ∘ (any_alarmed s).1)
  simp only [closeIncident, hp, hany, Bool.false_eq_true, if_false]
  rfl

/-- An incident part joins the Journal Writer's buffer, whatever else the part holds. -/
theorem writer_handPart {s t : State} (h : t.writer = s.writer) (p : IncidentPart) : (handPart t p).writer = (handPart s p).writer := by
  unfold handPart
  rw [h]
  simp only [apply_ite State.writer, h]

theorem buffer_handPart (s : State) (p : IncidentPart) : (handPart s p).writer.buffer = s.writer.buffer := by
  unfold handPart
  dsimp only
  split_ifs <;> rfl

theorem closeIncident_frame (s : State) : ∃ i w l, closeIncident s = { s with incident := i, writer := w, link := l } := by
  cases hp : s.incident.progress with
  | none => exact ⟨_, _, _, closeIncident_none hp⟩
  | some p =>
    by_cases h : ∃ z, s.alarmed z
    · exact ⟨_, _, _, closeIncident_left h⟩
    · rw [closeIncident_closes hp h, handPart_eq]
      exact ⟨_, _, _, rfl⟩

/-! ### RESET_ZONE (R100) -/

/-- A count reset to 0 meets no threshold that a higher one has not met. -/
theorem alarmHolds_cleared {x : Zone} (h : x.alarmHolds = false) : x.cleared.alarmHolds = false := by
  simp only [Zone.alarmHolds, Zone.alarmClauses, List.any_cons, List.any_nil, id, Bool.or_false, Bool.or_eq_false_iff,
    decide_eq_false_iff_not, Zone.cleared, Zone.coincidence] at h ⊢
  obtain ⟨hflame, hone, htwo, hsparks, hmax, hwindows, hthermal⟩ := h
  have hsparks' : ¬x.settings.alarmThreshold ≤ 0 := by omega
  have hwindows' : ¬x.settings.windowsForAlarm ≤ 0 := by omega
  exact ⟨decide_eq_false hflame, hone, htwo, decide_eq_false hsparks', rfl, decide_eq_false hwindows', hthermal⟩

theorem preHolds_cleared {x : Zone} (h : x.preHolds = false) : x.cleared.preHolds = false := by
  simp only [Zone.preHolds, Zone.preClauses, List.any_cons, List.any_nil, id, Bool.or_false, Bool.or_eq_false_iff,
    decide_eq_false_iff_not, Zone.cleared, Zone.coincidence] at h ⊢
  obtain ⟨hpre, hone, hsparks, hthermal⟩ := h
  have hsparks' : ¬x.settings.preThreshold ≤ 0 := by omega
  exact ⟨decide_eq_false hpre, hone, decide_eq_false hsparks', hthermal⟩

/-- The incident and the Journal Writer once zone `z` has been reset; `left`: another zone is in ALARM or RELEASED. -/
structure IncidentReset (s t : State) (left : Prop) : Prop where
  closes : ¬left → t.incident = ⟨s.incident.number, none⟩
  stays : left → t.incident = s.incident
  hands : ∀ p, ¬left → s.incident.progress = some p → t.writer = (handPart s (.closed (s.closePart p))).writer
  keeps : left ∨ s.incident.progress = none → t.writer = s.writer
  buffer : t.writer.buffer = s.writer.buffer

theorem closeIncident_reset (s : State) : IncidentReset s (closeIncident s) (∃ z, s.alarmed z) := by
  by_cases h : ∃ z, s.alarmed z
  · rw [closeIncident_left h]
    exact ⟨fun hn => absurd h hn, fun _ => rfl, fun _ hn => absurd h hn, fun _ => rfl, rfl⟩
  · cases hp : s.incident.progress with
    | none =>
      rw [closeIncident_none hp]
      exact ⟨fun _ => by rw [← hp], fun _ => rfl, fun p _ hs => absurd (hp.symm.trans hs) nofun, fun _ => rfl, rfl⟩
    | some p =>
      have e := closeIncident_closes hp h
      let u : State := { s with incident := ⟨s.incident.number, none⟩ }
      have hw : (closeIncident s).writer = (handPart s (.closed (s.closePart p))).writer := by
        rw [e]
        exact writer_handPart (s := s) (t := u) rfl _
      refine ⟨fun _ => ?_, fun hy => absurd hy h, fun q _ hq => ?_, fun hk => ?_, ?_⟩
      · rw [e, handPart_eq]
        rfl
      · obtain rfl := Option.some.inj (hp.symm.trans hq)
        exact hw
      · obtain hk | hk := hk
        · exact absurd hk h
        · exact absurd (hp.symm.trans hk) nofun
      · rw [hw, buffer_handPart]

/-- A zone class made pending is pending where it is subscribed (R176). -/
theorem pending_mark_zone {x : Link} (h : x.subscribed.getLsbD 0 = true) : (x.mark .zone).noticePending.getLsbD 0 = true := by
  simp only [Link.mark, noticeBit, BitVec.getLsbD_or, BitVec.getLsbD_and, h]
  simp

/-- What a RESET_ZONE comes to. -/
structure ZoneReset (z : ZoneId) (s t : State) : Prop where
  zone : t.zone z = (s.zone z).cleared
  others : OtherZones z s t
  incident : IncidentReset s t (∃ w, w ≠ z ∧ s.alarmed w)
  effect : t.effect = effectOf t
  pending : s.link.subscribed.getLsbD 0 = true → t.link.noticePending.getLsbD 0 = true
  core : t.core = s.core
  lots : t.lots = s.lots
  queue : t.queue = s.queue

theorem IncidentReset.congr {s t s' t' : State} {l l' : Prop} (h : IncidentReset s t l) (hl : l' ↔ l) (hi : s'.incident = s.incident)
    (hw : s'.writer = s.writer) (hc : s'.clock = s.clock) (hn : s'.now = s.now) (hti : t'.incident = t.incident)
    (htw : t'.writer = t.writer) : IncidentReset s' t' l' := by
  have hclose (p : Progress) : s'.closePart p = s.closePart p := by simp only [State.closePart, hi, hc, hn]
  refine ⟨fun hn => ?_, fun hy => ?_, fun p hn hp => ?_, fun hk => ?_, ?_⟩
  · rw [hti, hi]
    exact h.closes (hn ∘ hl.2)
  · rw [hti, hi]
    exact h.stays (hl.1 hy)
  · rw [htw, hclose, writer_handPart hw]
    exact h.hands p (hn ∘ hl.2) (hi ▸ hp)
  · rw [htw, hw]
    exact h.keeps (hk.imp hl.1 fun hp => hi ▸ hp)
  · rw [htw, hw]
    exact h.buffer

theorem resetAccepted_reset {s : State} {z : ZoneId} (ha : (s.zone z).alarmHolds = false) (hp : (s.zone z).preHolds = false) :
    ZoneReset z s (resetAccepted s z) := by
  let u := putZone s z (s.zone z).cleared
  let v := closeIncident u
  let t := (formEffects v).mark .zone
  have hz : u.zone z = (s.zone z).cleared := zone_putZone s z _
  have ho : OtherZones z s u := otherZones_putZone s z _
  obtain ⟨vz, lz, hu⟩ : ∃ v l, u = { s with zones := v, link := l } := putZone_frame s z _
  obtain ⟨i, w, l, hv⟩ : ∃ i w l, v = { u with incident := i, writer := w, link := l } := closeIncident_frame u
  obtain ⟨e₁, e₂, e₃, e₄, e₅, e₆, e₇, e₈, e₉, e₁₀, ht⟩ := effectFrame_formEffects v
  have hclosed : IncidentReset u v (∃ w, u.alarmed w) := closeIncident_reset u
  have heff := effect_eq_formEffects v
  have hcore : (resetAccepted s z).core = s.core := by
    unfold resetAccepted
    simp
  have hzones : (formEffects v).zones = u.zones := by rw [ht, hv]
  have hleft : (∃ w, w ≠ z ∧ s.alarmed w) ↔ ∃ w, u.alarmed w := by
    constructor
    · rintro ⟨w, hw, h⟩
      refine ⟨w, ?_⟩
      rw [State.alarmed, ho w hw]
      exact h
    · rintro ⟨w, h⟩
      have hw : w ≠ z := fun e => by
        subst e
        rw [State.alarmed, hz] at h
        obtain h | h := h <;> cases h
      rw [State.alarmed, ho w hw] at h
      exact ⟨w, hw, h⟩
  have hsub : v.link.subscribed = s.link.subscribed := by
    have e : v.core = s.core := (closeIncident_core u).trans (putZone_core s z _)
    exact congrArg Core.subscribed e
  have hsub' : (formEffects v).link.subscribed = v.link.subscribed := congrArg Core.subscribed (formEffects_core v)
  have hinc : IncidentReset s (formEffects v) (∃ w, w ≠ z ∧ s.alarmed w) :=
    hclosed.congr hleft (by rw [hu]) (by rw [hu]) (by rw [hu]) (by rw [hu]) (by rw [ht]) (by rw [ht])
  have hlots : (formEffects v).lots = s.lots := by rw [ht, hv, hu]
  have hqueue : (formEffects v).queue = s.queue := by rw [ht, hv, hu]
  have hdef : resetAccepted s z = evaluateZone t z .other false := rfl
  rw [hdef] at hcore ⊢
  have htz : t.zone z = (s.zone z).cleared := (zone_of_zones hzones z).trans hz
  have hsame : evaluateZone t z .other false = t :=
    evaluateZone_clear (by rw [htz]; rfl) (by rw [htz]; exact alarmHolds_cleared ha) (by rw [htz]; exact preHolds_cleared hp) _ _
  rw [hsame] at hcore ⊢
  exact ⟨htz, fun w hw => (zone_of_zones hzones w).trans (ho w hw), hinc.congr Iff.rfl rfl rfl rfl rfl rfl rfl,
    heff.trans (effectOf_congr rfl rfl).symm, fun h => pending_mark_zone (by rw [hsub', hsub]; exact h), hcore, hlots, hqueue⟩

/-- RESET_ZONE refused, and accepted. -/
theorem exec_resetZone_refused {s : State} {m v : Byte} {z : ZoneId} (h : s.takesNow = true) (hv : zoneOf v = some z)
    (hx : (s.zone z).main = .normal ∨ (s.zone z).main = .preAlarm ∨ (s.zone z).alarmHolds = true ∨ (s.zone z).preHolds = true) :
    exec (.resetZone m v) s = .next (finish s (s.withEntry m (.resetZone v) (.formed ⟨.wrongState, .none⟩))) := by
  have T : Taken s m (.resetZone v) := taken_plain h rfl nofun
  refine T.same (c := .resetZone m v) rfl rfl ?_
  simp only [runRequest, reqResetZone, hv]
  refine if_pos ?_
  simp only [Bool.or_eq_true, decide_eq_true_eq, or_assoc]
  exact hx

theorem exec_resetZone {s : State} {m v : Byte} {z : ZoneId} (h : s.takesNow = true) (hv : zoneOf v = some z)
    (hm : s.alarmed z) (ha : (s.zone z).alarmHolds = false) (hp : (s.zone z).preHolds = false) :
    ∃ u, exec (.resetZone m v) s = .next (finish s (u.withStage (okay (.zoneMain .normal))))
      ∧ ZoneReset z (s.withEntry m (.resetZone v) .untaken) u := by
  have T : Taken s m (.resetZone v) := taken_plain h rfl nofun
  let j := s.withEntry m (.resetZone v) .untaken
  have R : ZoneReset z j (resetAccepted j z) := resetAccepted_reset ha hp
  have hno : ((j.zone z).main = .normal || (j.zone z).main = .preAlarm || (j.zone z).alarmHolds || (j.zone z).preHolds) = false := by
    have ha' : (j.zone z).alarmHolds = false := ha
    have hp' : (j.zone z).preHolds = false := hp
    have hm' : (j.zone z).main = .alarm ∨ (j.zone z).main = .released := hm
    obtain e | e := hm' <;> simp [ha', hp', e]
  have hrun : runRequest j (.resetZone v) = (resetAccepted j z, okay (.zoneMain .normal)) := by
    have hmain : ((resetAccepted j z).zone z).main = .normal := by
      rw [R.zone]
      rfl
    simp only [runRequest, reqResetZone, hv, hno, Bool.false_eq_true, if_false, hmain]
  exact ⟨_, T.finish (c := .resetZone m v) rfl rfl hrun, R⟩

/-! ### HOLD_RELEASE (R99) -/

theorem holdRelease_refused {s : State} {m v : Byte} {z : ZoneId} {r : Nat} (h : s.takesNow = true) (hv : zoneOf v = some z)
    (hx : ((s.zone z).release = .running r ∧ (s.zone z).holdUsed = true) ∨ (s.zone z).release = .paused r
      ∨ (s.zone z).release = .idle) :
    exec (.holdRelease m v) s = .next (finish s (s.withEntry m (.holdRelease v) (.formed ⟨.wrongState, .none⟩))) := by
  have T : Taken s m (.holdRelease v) := taken_plain h rfl nofun
  let j := s.withEntry m (.holdRelease v) .untaken
  refine T.same (c := .holdRelease m v) rfl rfl ?_
  change reqHoldRelease j v = _
  have hz : j.zone z = s.zone z := rfl
  obtain ⟨hr, hu⟩ | hr | hr := hx
  · simp only [reqHoldRelease, hv, hz, hr, hu, if_true]
    rfl
  all_goals
    simp only [reqHoldRelease, hv, hz, hr]
    rfl

/-- Settles O35. -/
theorem zoneResetAndHeld : Obligations.ZoneResetAndHeld := by
  refine ⟨fun s m v z h hv => ⟨exec_resetZone_refused h hv, fun hm ha hp => ?_⟩,
    fun s m v z r hv => ⟨fun h hr hu => ?_, fun h => holdRelease_refused h hv, fun h ht hr => ?_⟩,
    fun s m v => ⟨fun h hv => ⟨?_, ?_⟩, fun z => ⟨rfl, rfl⟩⟩⟩
  · intro left
    obtain ⟨u, hrow, R⟩ := exec_resetZone (m := m) h hv hm ha hp
    have T : Taken s m (.resetZone v) := taken_plain h rfl nofun
    have I : IncidentReset s (u.withStage (okay (.zoneMain .normal))) left := R.incident.congr Iff.rfl rfl rfl rfl rfl rfl rfl
    obtain ⟨hcloses, hstays, hhands, hkeeps, hbuffer⟩ := I
    refine ⟨_, hrow, T.queued R.core _, R.zone, R.others, hcloses, hstays, fun p hn hp => ?_, hkeeps,
      R.effect.trans (effectOf_congr rfl rfl).symm, R.pending, hbuffer, congrArg Core.nv R.core, R.lots, R.queue,
      congrArg Core.loopA R.core, congrArg Core.loopB R.core, congrArg Core.cells R.core, congrArg Core.clock R.core,
      congrArg Core.classes R.core, congrArg Core.budget R.core⟩
    intro c
    have hw := hhands p hn hp
    refine ⟨hw, fun hlen hdrop => hw.trans ?_⟩
    have hother := handPart_other (s := s) (p := .closed c) fun hh => hdrop hh.2
    change (handPart s (.closed c)).writer = _
    rw [hother]
    simp only [hlen, if_true]
    rfl
  · have T : Taken s m (.holdRelease v) := taken_plain h rfl nofun
    let j := s.withEntry m (.holdRelease v) .untaken
    let x : Zone := { s.zone z with
      release := .paused r, holdTimer := some (1000 * (s.zone z).settings.holdTime), holdUsed := true }
    have hrun : runRequest j (.holdRelease v) = (putZone j z x, okay (.releaseMs r)) := by
      have hz : j.zone z = s.zone z := rfl
      change reqHoldRelease j v = _
      simp only [reqHoldRelease, hv, hz, hr, hu, Bool.false_eq_true, if_false]
      rfl
    have hcore : (putZone j z x).core = j.core := putZone_core j z x
    obtain ⟨w, l, hframe⟩ := putZone_frame j z x
    refine ⟨_, T.finish (c := .holdRelease m v) rfl rfl hrun, T.queued hcore _, zone_putZone j z x, otherZones_putZone j z x,
      linkKept_row hcore _, ?_⟩
    rw [hframe]
    rfl
  · let x : Zone := { s.zone z with release := .running r, holdTimer := none }
    have hout : holdOut s z = putZone s z x := by
      simp only [holdOut, ht, if_true, hr]
      rfl
    have hcore := putZone_core s z x
    have hrow : exec (.holdTimerExpiry z) s = .next (finish s (putZone s z x)) := by
      rw [← hout]
      exact live_out h (fun s => finish s (holdOut s z))
    obtain ⟨w, l, hframe⟩ := putZone_frame s z x
    refine ⟨_, hrow, zone_putZone s z x, otherZones_putZone s z x, linkKept_of_core hcore, queue_of_core hcore, ?_⟩
    rw [hframe]
  · have T : Taken s m (.resetZone v) := taken_plain h rfl nofun
    refine T.same (c := .resetZone m v) rfl rfl ?_
    simp only [runRequest, reqResetZone, hv]
    rfl
  · have T : Taken s m (.holdRelease v) := taken_plain h rfl nofun
    refine T.same (c := .holdRelease m v) rfl rfl ?_
    simp only [runRequest, reqHoldRelease, hv]
    rfl

end Sys2Proof.Machine
end

section
/-! LOOP_TEST (O37). -/

namespace Sys2Proof.Machine

theorem any_waiting (x : Loop) (b : Broadcast) : x.waiting.any (· = b) = true ↔ b ∈ x.waiting := by
  simp [List.any_eq_true]

theorem await_new {x : Loop} {b : Broadcast} (h : b ∉ x.waiting) : x.await b = { x with waiting := x.waiting ++ [b] } :=
  if_neg fun e => h ((any_waiting x b).1 e)

theorem await_same {x : Loop} {b : Broadcast} (h : b ∈ x.waiting) : x.await b = x := if_pos ((any_waiting x b).2 h)

/-- The broadcast that a LOOP_TEST waits for (R82). -/
theorem testBroadcast_start {x : Loop} (h : Broadcast.testStart ∈ x.waiting) : x.testBroadcast = .testStart :=
  if_pos ((any_waiting x _).2 h)

theorem testBroadcast_end {x : Loop} (hs : Broadcast.testStart ∉ x.waiting) (he : Broadcast.testEnd ∈ x.waiting ∨ x.testing = true) :
    x.testBroadcast = .testEnd := by
  rw [Loop.testBroadcast, if_neg fun e => hs ((any_waiting x _).1 e), if_pos]
  rw [Bool.or_eq_true, any_waiting]
  exact he

theorem testBroadcast_closed {x : Loop} (hs : Broadcast.testStart ∉ x.waiting) (he : Broadcast.testEnd ∉ x.waiting)
    (ht : x.testing = false) : x.testBroadcast = .testStart := by
  rw [Loop.testBroadcast, if_neg fun e => hs ((any_waiting x _).1 e), if_neg]
  rw [Bool.or_eq_true, any_waiting, ht]
  exact fun e => e.elim he nofun

section LoopTest

variable {s : State} {m v : Byte} {l : LoopId} (h : s.takesNow = true) (hv : loopOf v = some l)
include h hv

/-- A LOOP_TEST accepted: its broadcast waits, and its reply with it. -/
theorem exec_loopTest (hs : (s.loop l).state ≠ .short) {b : Broadcast} {y : Loop} (hb : (s.loop l).testBroadcast = b)
    (hy : (s.loop l).await b = y) :
    exec (.loopTest m v) s = .next (linkPump ((s.setLoop l y).withEntry m (.loopTest v) (.waiting (.broadcast l (b = .testStart))))) := by
  have T : Taken s m (.loopTest v) := taken_plain h rfl nofun
  let j := s.withEntry m (.loopTest v) .untaken
  have hx : j.loop l = s.loop l := by cases l <;> rfl
  have hrun : runRequest j (.loopTest v) = (j.setLoop l y, .waiting (.broadcast l (b = .testStart))) := by
    change reqLoopTest j v = _
    simp only [reqLoopTest, hv, hx, hs, hb, hy, if_false]
  have hqueue : (j.setLoop l y).link.queue = s.link.queue ++ [⟨m, .known (.loopTest v), .untaken⟩] := by cases l <;> rfl
  rw [T.pump (c := .loopTest m v) rfl rfl hrun, withStage_eq h hqueue]
  cases l <;> rfl

theorem exec_loopTest_short (hs : (s.loop l).state = .short) :
    exec (.loopTest m v) s = .next (answered s m (.loopTest v) ⟨.wrongState, .none⟩) := by
  refine (taken_plain h rfl nofun : Taken s m (.loopTest v)).answered (c := .loopTest m v) rfl rfl ?_
  have hs' : ((s.withEntry m (.loopTest v) .untaken).loop l).state = .short := by
    rw [← hs]
    cases l <;> rfl
  change reqLoopTest _ v = _
  simp only [reqLoopTest, hv, hs', if_true]
  rfl

end LoopTest

theorem exec_testWindowExpiry {s : State} {l : LoopId} (h : s.inReset = false) (ht : (s.loop l).testTimer.isSome = true) {y : Loop}
    (hy : ({ s.loop l with testTimer := none } : Loop).await .testEnd = y) :
    exec (.testWindowExpiry l) s = .next (finish s (s.setLoop l y)) := by
  have hout : testExpired s l = s.setLoop l y := by
    simp only [testExpired, ht, if_true, hy]
  rw [← hout]
  exact live_out h (fun s => finish s (testExpired s l))

/-- Settles O37. -/
theorem loopTested : Obligations.LoopTested := by
  refine ⟨fun s m v l hv => ?_, fun s m v h hv => ?_⟩
  · intro x asked
    refine ⟨fun h hs => exec_loopTest_short h hv hs, fun h hs ha he ht => ?_, fun h hs ha he ht => ?_, fun h hs ha => ?_,
      fun h hs ha he => ?_, fun h ht he => ?_, fun h ht he => ?_⟩
    · exact exec_loopTest h hv hs (testBroadcast_closed ha he ht) (await_new ha)
    · exact exec_loopTest h hv hs (testBroadcast_end ha (.inr ht)) (await_new he)
    · exact exec_loopTest h hv hs (testBroadcast_start ha) (await_same ha)
    · exact exec_loopTest h hv hs (testBroadcast_end ha (.inl he)) (await_same he)
    · exact exec_testWindowExpiry h ht (await_new he)
    · exact exec_testWindowExpiry h ht (await_same he)
  · refine (taken_plain h rfl nofun : Taken s m (.loopTest v)).answered (c := .loopTest m v) rfl rfl ?_
    simp only [runRequest, reqLoopTest, hv]
    rfl

end Sys2Proof.Machine
end

section
/-! CONFIG_ZONE (O23). -/

namespace Sys2Proof.Machine

/-- Another zone holds the role (R87). -/
theorem roleTaken_iff (s : State) (z : ZoneId) (r : Role) :
    roleTaken s z r = true ↔ r ≠ .none ∧ ∃ w, w ≠ z ∧ (s.zone w).settings.role = r := by
  simp only [roleTaken, State.hasRole, Bool.and_eq_true, List.any_eq_true, decide_eq_true_eq]
  exact and_congr_right fun _ => ⟨fun ⟨w, _, h⟩ => ⟨w, h⟩, fun ⟨w, h⟩ => ⟨w, mem_allZones w, h⟩⟩

theorem preThreshold_zoneApplied (a : ZoneArgs) (c q : Bool) (r : Role) :
    (zoneApplied (zoneSent a c q r)).preThreshold ≤ (zoneApplied (zoneSent a c q r)).alarmThreshold := by
  have hp : (zoneSent a c q r).preThreshold ≤ 65535 := by
    have := a.preThreshold.isLt
    simp only [zoneSent]
    omega
  have ha : (zoneSent a c q r).alarmThreshold ≤ 65535 := by
    have := a.alarmThreshold.isLt
    simp only [zoneSent]
    omega
  rw [zoneApplied_eq _ hp ha]
  exact le_max_left _ _

/-- Settles O23. -/
theorem zoneConfigured : Obligations.ZoneConfigured := by
  intro s m a h
  have T : Taken s m (.configZone a) := taken_plain h rfl nofun
  let j := s.withEntry m (.configZone a) .untaken
  have hsame {st : Stage} (e : reqConfigZone j a = (j, st)) :
      exec (.configZone m a) s = .next (finish s (s.withEntry m (.configZone a) st)) := T.same (c := .configZone m a) rfl rfl e
  refine ⟨fun hbad => hsame ?_, fun z r c q hz hr hc hq => ?_⟩
  · unfold reqConfigZone
    split
    · next z r c q hz hr hc hq =>
      rw [hz, hr, hc, hq] at hbad
      simp at hbad
    · rfl
  · intro sent v x x'
    have hzone : j.zone z = s.zone z := rfl
    have hrole := roleTaken_iff j z r
    refine ⟨fun hm => hsame ?_, fun hm hr0 hw => hsame ?_, fun hm hfree => ⟨?_, preThreshold_zoneApplied a c q r⟩⟩
    · simp only [reqConfigZone, hz, hr, hc, hq, hzone]
      exact if_pos hm
    · simp only [reqConfigZone, hz, hr, hc, hq, hzone]
      rw [if_neg (not_not.2 hm), if_pos (hrole.2 ⟨hr0, hw⟩)]
      rfl
    · have hno : roleTaken j z r = false := Bool.of_not_eq_true fun e => by
        obtain ⟨hr0, w, hw, hwr⟩ := hrole.1 e
        obtain e | e := hfree
        · exact hr0 e
        · exact e w hw hwr
      have hrun : runRequest j (.configZone a) = (askRewrite (evaluateZone (putZone j z x') z .config false) .zone,
          rewriteReply .zone (v ≠ sent) (.zone v)) := by
        change reqConfigZone j a = _
        simp only [reqConfigZone, hz, hr, hc, hq, hzone]
        rw [if_neg (not_not.2 hm), hno, if_neg Bool.false_ne_true]
      rw [rewriteReply_eq] at hrun
      exact T.finish (c := .configZone m a) rfl rfl hrun

end Sys2Proof.Machine
end

section
/-! What an evaluation of a zone leaves alone, and what a zone that takes its inputs holds (R88, R89, R104). -/

namespace Sys2Proof.Machine

/-! ### Exposure (R104) -/

/-- Of the part only packs, the queue, the bays, events held, the records buffered, the line and the Link Port differ, and of the Journal
Writer neither the settings operations nor the incident parts. -/
structure ExposeFrame (s t : State) : Prop where
  frame : ∃ p q b h w n l, t = { s with packs := p, queue := q, bays := b, held := h, writer := w, line := n, link := l }
  settingsOps : t.writer.settingsOps = s.writer.settingsOps
  incidents : t.writer.incidents = s.writer.incidents ∧ t.writer.droppedOpen = s.writer.droppedOpen

theorem ExposeFrame.refl (s : State) : ExposeFrame s s := ⟨⟨_, _, _, _, _, _, _, rfl⟩, rfl, rfl, rfl⟩

theorem ExposeFrame.trans {s t u : State} (h₁ : ExposeFrame s t) (h₂ : ExposeFrame t u) : ExposeFrame s u := by
  refine ⟨?_, h₂.settingsOps.trans h₁.settingsOps, h₂.incidents.1.trans h₁.incidents.1, h₂.incidents.2.trans h₁.incidents.2⟩
  obtain ⟨_, _, _, _, _, _, _, rfl⟩ := h₁.frame
  obtain ⟨_, _, _, _, _, _, _, rfl⟩ := h₂.frame
  exact ⟨_, _, _, _, _, _, _, rfl⟩

theorem Accepts.writer_kept {s t : State} {ds : List Draft} (h : Accepts s t ds) : t.writer.settingsOps = s.writer.settingsOps
    ∧ t.writer.incidents = s.writer.incidents ∧ t.writer.droppedOpen = s.writer.droppedOpen := by
  obtain ⟨-, hw, -⟩ := h
  rw [hw]
  exact ⟨rfl, rfl, rfl⟩

theorem exposeFrame_putPack (s : State) (p : Pack) : ExposeFrame s (putPack s p) := ⟨⟨_, _, _, _, _, _, _, rfl⟩, rfl, rfl, rfl⟩

theorem exposeFrame_writePack {s : State} {p : Pack} (h : (s.pack p.tag).isSome) (k : RecordKind) (b : Option BayId) (d : Detail) :
    ExposeFrame s (writePack s p k b d) := by
  obtain ⟨-, -, haccepts, -, -, hframe⟩ := writePack_written h k b d
  obtain ⟨hops, hinc⟩ := haccepts.writer_kept
  exact ⟨⟨_, s.queue, s.bays, s.held, _, _, _, hframe⟩, hops, hinc⟩

theorem exposeFrame_quarantinePack {s : State} {p : Pack} (h : (s.pack p.tag).isSome) (r : QuarReason) :
    ExposeFrame s (quarantinePack s p r) := by
  have Q := quarantinePack_quarantined h r
  obtain ⟨hops, hinc⟩ := Q.accepts.writer_kept
  exact ⟨⟨_, _, _, s.held, _, _, _, Q.frame⟩, hops, hinc⟩

theorem exposeFrame_takeExpose (s : State) (n : Tag) (i : BitVec 16) : ExposeFrame s (takeExpose s n i).1 := by
  unfold takeExpose
  split
  · exact .refl s
  · next p hp =>
    have hsome : (s.pack p.tag).isSome := by
      have hp' : s.pack n = some p := (Option.filter_eq_some_iff.1 hp).1
      rw [tag_of_pack hp', hp']
      rfl
    dsimp only
    split_ifs
    · exact .refl s
    · exact exposeFrame_putPack s _
    · unfold otherRecord
      split
      · exact exposeFrame_quarantinePack hsome _
      · exact exposeFrame_writePack (p := { p with exposure := some ⟨i, false⟩ }) hsome _ _ _

theorem exposeFrame_submit (s : State) (n : Tag) (i : BitVec 16) : ExposeFrame s (submit s (.expose n i)).1 := by
  unfold submit
  dsimp only
  split
  · exact exposeFrame_takeExpose s n i
  · exact ⟨⟨s.packs, s.queue, s.bays, _, s.writer, s.line, s.link, rfl⟩, rfl, rfl, rfl⟩

theorem exposeFrame_exposeAll (s : State) (i : BitVec 16) (l : List Tag) : ExposeFrame s (exposeAll s i l) := by
  induction l generalizing s with
  | nil => exact .refl s
  | cons n l ih => exact (exposeFrame_submit s n i).trans (ih _)

/-! ### An evaluation (R93, R94) -/

/-- The zones but for what an evaluation of `z` changes of it, the lots and the settings operations are as they were. -/
structure Evaluated (z : ZoneId) (s t : State) : Prop where
  counts : (t.zone z).counts = (s.zone z).counts
  fault : (t.zone z).fault = (s.zone z).fault
  others : OtherZones z s t
  lots : t.lots = s.lots
  settingsOps : t.writer.settingsOps = s.writer.settingsOps

theorem Evaluated.refl (z : ZoneId) (s : State) : Evaluated z s s := ⟨rfl, rfl, fun _ _ => rfl, rfl, rfl⟩

theorem Evaluated.trans {z : ZoneId} {s t u : State} (h₁ : Evaluated z s t) (h₂ : Evaluated z t u) : Evaluated z s u :=
  ⟨h₂.counts.trans h₁.counts, h₂.fault.trans h₁.fault, fun w hw => (h₂.others w hw).trans (h₁.others w hw), h₂.lots.trans h₁.lots,
    h₂.settingsOps.trans h₁.settingsOps⟩

theorem evaluated_of_zones {s t : State} (z : ZoneId) (hz : t.zones = s.zones) (hl : t.lots = s.lots)
    (ho : t.writer.settingsOps = s.writer.settingsOps) : Evaluated z s t :=
  ⟨by rw [zone_of_zones hz], by rw [zone_of_zones hz], fun w _ => zone_of_zones hz w, hl, ho⟩

theorem evaluated_putZone {s : State} {z : ZoneId} {x : Zone} (hc : x.counts = (s.zone z).counts) (hf : x.fault = (s.zone z).fault) :
    Evaluated z s (putZone s z x) := by
  have hz := zone_putZone s z x
  have ho := otherZones_putZone s z x
  obtain ⟨v, l, e⟩ := putZone_frame s z x
  generalize putZone s z x = t at *
  exact ⟨by rw [hz, hc], by rw [hz, hf], ho, by rw [e], by rw [e]⟩

theorem evaluated_formEffects (z : ZoneId) (s : State) : Evaluated z s (formEffects s) := by
  obtain ⟨_, _, _, _, _, _, _, _, _, _, e⟩ := effectFrame_formEffects s
  generalize formEffects s = t at *
  exact evaluated_of_zones z (by rw [e]) (by rw [e]) (by rw [e])

theorem settingsOps_handPart (s : State) (p : IncidentPart) : (handPart s p).writer.settingsOps = s.writer.settingsOps := by
  unfold handPart
  dsimp only
  split_ifs <;> rfl

/-- The incident opened or joined leaves zones, lots and settings operations alone. -/
theorem incidentStep_kept (s : State) (z : ZoneId) : (incidentStep s z).zones = s.zones ∧ (incidentStep s z).lots = s.lots
    ∧ (incidentStep s z).writer.settingsOps = s.writer.settingsOps := by
  have hexpose (i : Incident) (n : BitVec 16) (l : List Tag) : (exposeAll { s with incident := i } n l).zones = s.zones
      ∧ (exposeAll { s with incident := i } n l).lots = s.lots
      ∧ (exposeAll { s with incident := i } n l).writer.settingsOps = s.writer.settingsOps := by
    have E := exposeFrame_exposeAll { s with incident := i } n l
    have ho := E.settingsOps
    obtain ⟨_, _, _, _, _, _, _, e⟩ := E.frame
    generalize exposeAll { s with incident := i } n l = t at *
    exact ⟨by rw [e], by rw [e], ho⟩
  unfold incidentStep
  dsimp only
  split
  · obtain ⟨hz, hl, ho⟩ := hexpose _ _ _
    exact ⟨by rw [handPart_eq]; exact hz, by rw [handPart_eq]; exact hl, (settingsOps_handPart _ _).trans ho⟩
  · exact hexpose _ _ _

theorem evaluated_enterAlarm (s : State) (z : ZoneId) (c : Option AlarmCause) : Evaluated z s (enterAlarm s z c) := by
  let x := s.zone z
  let u := putZone s z { x with
    main := .alarm, preClear := none, cause := c
    release := if x.settings.releaseDelay = 0 then x.release else .running (1000 * x.settings.releaseDelay) }
  have hdef : enterAlarm s z c = (formEffects (incidentStep u z)).mark .zone := rfl
  obtain ⟨hz, hl, ho⟩ := incidentStep_kept u z
  have h₁ : Evaluated z s u := evaluated_putZone rfl rfl
  have h₂ : Evaluated z u (incidentStep u z) := evaluated_of_zones z hz hl ho
  have h₃ := (h₁.trans h₂).trans (evaluated_formEffects z (incidentStep u z))
  rw [hdef]
  exact ⟨h₃.counts, h₃.fault, h₃.others, h₃.lots, h₃.settingsOps⟩

theorem evaluated_evaluateZone (s : State) (z : ZoneId) (i : ZoneInput) (f : Bool) : Evaluated z s (evaluateZone s z i f) := by
  unfold evaluateZone
  dsimp only
  split
  · exact .refl z s
  · exact .refl z s
  · split_ifs
    · exact evaluated_enterAlarm s z _
    · exact (evaluated_putZone (x := { s.zone z with main := .preAlarm }) rfl rfl).trans (evaluated_formEffects z _)
    · exact .refl z s
  · split_ifs
    · exact evaluated_enterAlarm s z _
    · exact evaluated_putZone rfl rfl
    · exact evaluated_putZone rfl rfl

/-! ### A zone takes its inputs (R88 to R90) -/

/-- Zone `z` has its counts and its fault mark from the Head Table. -/
structure ZoneRefreshed (z : ZoneId) (s t : State) : Prop where
  core : t.core = s.core
  counts : (t.zone z).counts = s.headCounts z
  fault : (t.zone z).fault = s.zoneFault z
  others : OtherZones z s t
  lots : t.lots = s.lots
  settingsOps : t.writer.settingsOps = s.writer.settingsOps

theorem refreshZone_refreshed (s : State) (z : ZoneId) (i : ZoneInput) : ZoneRefreshed z s (refreshZone s z i) := by
  let x : Zone := { s.zone z with counts := s.headCounts z, fault := s.zoneFault z, thermal := s.zoneThermal z }
  let u := putZone s z x
  let v := if (s.zone z).fault = s.zoneFault z then u else formEffects u
  have hcore := refreshZone_core s z i
  have hdef : refreshZone s z i = evaluateZone v z i (s.zoneFault z && !(s.zone z).fault) := rfl
  have hz : u.zone z = x := zone_putZone s z x
  have ho : OtherZones z s u := otherZones_putZone s z x
  have hv : Evaluated z u v := by
    change Evaluated z u (if (s.zone z).fault = s.zoneFault z then u else formEffects u)
    split
    · exact .refl z u
    · exact evaluated_formEffects z u
  obtain ⟨w, l, hu⟩ : ∃ w l, u = { s with zones := w, link := l } := putZone_frame s z x
  have hlots : u.lots = s.lots := by rw [hu]
  have hops : u.writer.settingsOps = s.writer.settingsOps := by rw [hu]
  rw [hdef] at hcore ⊢
  obtain ⟨hc, hf, hother, hl, hs⟩ := hv.trans (evaluated_evaluateZone v z i (s.zoneFault z && !(s.zone z).fault))
  exact ⟨hcore, hc.trans (by rw [hz]), hf.trans (by rw [hz]), fun w hw => (hother w hw).trans (ho w hw), hl.trans hlots, hs.trans hops⟩

/-! ### The Head Table -/

theorem head_of_loops {s t : State} (ha : t.loopA = s.loopA) (hb : t.loopB = s.loopB) (l : LoopId) : t.loop l = s.loop l := by
  cases l
  · exact ha
  · exact hb

theorem headCounts_congr {s t : State} (h : ∀ l, t.loop l = s.loop l) (z : ZoneId) : t.headCounts z = s.headCounts z := by
  simp only [State.headCounts, State.countedHeads, State.zoneHeads, State.zoneHeadsOn, State.head, h]

theorem zoneFault_congr {s t : State} (h : ∀ l, t.loop l = s.loop l) (z : ZoneId) : t.zoneFault z = s.zoneFault z := by
  simp only [State.zoneFault, headCounts_congr h, State.countedHeads, State.zoneHeads, State.zoneHeadsOn, State.head, h]

theorem putHead_frame (s : State) (l : LoopId) (a : HeadAddr) (h : Option Head) :
    ∃ x y k, putHead s l a h = { s with loopA := x, loopB := y, link := k } := by
  unfold putHead
  dsimp only
  rw [markIf_eq]
  cases l <;> exact ⟨_, _, _, rfl⟩

theorem loop_putHead (s : State) (l : LoopId) (a : HeadAddr) (h : Option Head) :
    (putHead s l a h).loop l = { s.loop l with heads := vput (s.loop l).heads a h } := by
  unfold putHead
  dsimp only
  rw [markIf_eq]
  cases l <;> rfl

theorem otherLoop_putHead (s : State) (l : LoopId) (a : HeadAddr) (h : Option Head) : OtherLoop l s (putHead s l a h) := by
  intro k hk
  unfold putHead
  dsimp only
  rw [markIf_eq]
  cases l with
  | a => cases k with
    | a => exact absurd rfl hk
    | b => rfl
  | b => cases k with
    | a => rfl
    | b => exact absurd rfl hk

theorem head_putHead_other (s : State) (l : LoopId) {a b : HeadAddr} (hb : b ≠ a) (h : Option Head) :
    (putHead s l a h).head l b = s.head l b := by
  rw [State.head, loop_putHead]
  exact vput_other _ _ _ _ hb

end Sys2Proof.Machine
end

section
/-! ISOLATE_HEAD, RESTORE_HEAD and CONFIG_HEAD (O36, O25). -/

namespace Sys2Proof.Machine

theorem loop_of_core {s t : State} (h : t.core = s.core) (l : LoopId) : t.loop l = s.loop l :=
  head_of_loops (congrArg Core.loopA h) (congrArg Core.loopB h) l

theorem head_of_loop {s t : State} {l : LoopId} (h : t.loop l = s.loop l) (a : HeadAddr) : t.head l a = s.head l a := by
  rw [State.head, State.head, h]

/-- Zone `z` once it has taken its inputs, read from the state reached. -/
theorem ZoneRefreshed.follows {z : ZoneId} {s t : State} (h : ZoneRefreshed z s t) :
    (t.zone z).counts = t.headCounts z ∧ (t.zone z).fault = t.zoneFault z :=
  ⟨h.counts.trans (headCounts_congr (loop_of_core h.core) z).symm, h.fault.trans (zoneFault_congr (loop_of_core h.core) z).symm⟩

theorem queue_putHead (s : State) (l : LoopId) (a : HeadAddr) (h : Option Head) : (putHead s l a h).link.queue = s.link.queue := by
  unfold putHead State.markIf
  dsimp only
  split
  · cases l <;> rfl
  · cases l <;> rfl

/-! ### ISOLATE_HEAD and RESTORE_HEAD (R79) -/

section Isolation

variable {s : State} {m v w : Byte} {on : Bool}

/-- ISOLATE_HEAD or RESTORE_HEAD. -/
def isolationRequest (on : Bool) (v w : Byte) : Request := if on then .isolateHead v w else .restoreHead v w

/-- Its row. -/
def isolationRow (on : Bool) (m v w : Byte) : Instr := if on then .isolateHead m v w else .restoreHead m v w

theorem exec_isolationRow (h : s.takesNow = true) {u : State} {st : Stage}
    (e : isolation (s.withEntry m (isolationRequest on v w) .untaken) v w on = (u, st)) :
    exec (isolationRow on m v w) s = .next (finish s (u.withStage st)) := by
  cases on
  · exact (taken_plain h rfl nofun : Taken s m (.restoreHead v w)).finish (c := .restoreHead m v w) rfl rfl e
  · exact (taken_plain h rfl nofun : Taken s m (.isolateHead v w)).finish (c := .isolateHead m v w) rfl rfl e

theorem exec_isolationRow_same (h : s.takesNow = true) {st : Stage}
    (e : isolation (s.withEntry m (isolationRequest on v w) .untaken) v w on
      = (s.withEntry m (isolationRequest on v w) .untaken, st)) :
    exec (isolationRow on m v w) s = .next (finish s (s.withEntry m (isolationRequest on v w) st)) := by
  rw [exec_isolationRow h e, withStage_withEntry h]

end Isolation

/-- The isolated flag changed, and taken by the head's zone. -/
theorem setIsolation_taken {s : State} {l : LoopId} {a : HeadAddr} {h : Head} {on : Bool} (hon : h.isolated ≠ on) :
    let t := setIsolation s l a h on
    t.head l a = some { h with isolated := on } ∧ (∀ b, b ≠ a → t.head l b = s.head l b) ∧ OtherLoop l s t
    ∧ ((t.zone h.zone).counts = t.headCounts h.zone ∧ (t.zone h.zone).fault = t.zoneFault h.zone)
    ∧ t.nv = s.nv ∧ t.writer.settingsOps = s.writer.settingsOps ∧ t.lots = s.lots ∧ t.cells = s.cells
    ∧ t.classes = s.classes ∧ t.clock = s.clock ∧ t.link.queue = s.link.queue := by
  intro t
  let u := putHead s l a (some { h with isolated := on })
  have R : ZoneRefreshed h.zone u t := by
    have ht : t = refreshZone u h.zone (if on then .other else .head l a) := if_neg hon
    rw [ht]
    exact refreshZone_refreshed u _ _
  have hhead : u.head l a = some { h with isolated := on } := head_putHead s l a _
  have hother (b : HeadAddr) (hb : b ≠ a) : u.head l b = s.head l b := head_putHead_other s l hb _
  have hloop : OtherLoop l s u := otherLoop_putHead s l a _
  have hqueue : u.link.queue = s.link.queue := queue_putHead s l a _
  obtain ⟨x, y, k, hu⟩ : ∃ x y k, u = { s with loopA := x, loopB := y, link := k } := putHead_frame s l a _
  clear_value t u
  have hc := R.core
  refine ⟨(head_of_loop (loop_of_core hc l) a).trans hhead, fun b hb => (head_of_loop (loop_of_core hc l) b).trans (hother b hb),
    fun k hk => (loop_of_core hc k).trans (hloop k hk), R.follows, ?_, ?_, ?_, ?_, ?_, ?_, (queue_of_core hc).trans hqueue⟩
  · exact (congrArg Core.nv hc).trans (by rw [hu]; rfl)
  · exact R.settingsOps.trans (by rw [hu])
  · exact R.lots.trans (by rw [hu])
  · exact (congrArg Core.cells hc).trans (by rw [hu]; rfl)
  · exact (congrArg Core.classes hc).trans (by rw [hu]; rfl)
  · exact (congrArg Core.clock hc).trans (by rw [hu]; rfl)

/-- Settles O36. -/
theorem headIsolated : Obligations.HeadIsolated := by
  refine ⟨fun s m v w l a on h hl ha => ?_, fun s m v w h hbad => ⟨?_, ?_⟩⟩
  · intro c k
    let j := s.withEntry m k .untaken
    have hj (e : Option Head) (he : s.head l a = e) : j.head l a = e := by
      rw [← he]
      cases l <;> rfl
    refine ⟨fun hh => exec_isolationRow_same h ?_, fun x hh hon => exec_isolationRow_same h ?_, fun x hh hon => ?_⟩
    · change isolation j v w on = _
      simp only [isolation, hl, ha, hj _ hh]
      rfl
    · change isolation j v w on = _
      simp only [isolation, hl, ha, hj _ hh, setIsolation, hon, if_true]
      rfl
    · have hrun : isolation j v w on = (setIsolation j l a x on, okay (.level x.level on)) := by
        simp only [isolation, hl, ha, hj _ hh]
      have hrow := exec_isolationRow h hrun
      obtain ⟨hhead, hother, hloop, hzone, hnv, hops, hlots, hcells, hclasses, hclock, hqueue⟩ := setIsolation_taken (s := j) (l := l) (a := a) hon
      refine ⟨_, hrow, queued_withStage h hqueue _, ?_⟩
      generalize setIsolation j l a x on = t at *
      have hloops (k : LoopId) : (t.withStage (okay (.level x.level on))).loop k = t.loop k := by cases k <;> rfl
      have hjl (k : LoopId) : j.loop k = s.loop k := by cases k <;> rfl
      refine ⟨(head_of_loop (hloops l) a).trans hhead,
        fun b hb => ((head_of_loop (hloops l) b).trans (hother b hb)).trans (head_of_loop (hjl l) b),
        fun k hk => ((hloops k).trans (hloop k hk)).trans (hjl k), ?_, ?_, hnv, hops, hlots, hcells, hclasses, hclock⟩
      · exact hzone.1.trans (headCounts_congr hloops _).symm
      · exact hzone.2.trans (zoneFault_congr hloops _).symm
  all_goals
    have hbad' (on : Bool) (j : State) : isolation j v w on = (j, refuse .outOfRange) := by
      unfold isolation
      split
      · next l a hl ha =>
        rw [hl, ha] at hbad
        simp at hbad
      · rfl
  · exact exec_isolationRow_same (on := true) h (hbad' true _)
  · exact exec_isolationRow_same (on := false) h (hbad' false _)

end Sys2Proof.Machine
end

section
/-! CONFIG_HEAD (O25). -/

namespace Sys2Proof.Machine

/-! ### A loop replaced -/

theorem putLoop_frame (s : State) (l : LoopId) (x : Loop) : ∃ y z k, putLoop s l x = { s with loopA := y, loopB := z, link := k } := by
  unfold putLoop
  dsimp only
  rw [markIf_eq]
  cases l with
  | a => exact ⟨_, _, _, rfl⟩
  | b => exact ⟨_, _, _, rfl⟩

theorem otherLoop_putLoop (s : State) (l : LoopId) (x : Loop) : OtherLoop l s (putLoop s l x) := by
  intro k hk
  unfold putLoop
  dsimp only
  rw [markIf_eq]
  cases l with
  | a => cases k with
    | a => exact absurd rfl hk
    | b => rfl
  | b => cases k with
    | a => rfl
    | b => exact absurd rfl hk

theorem queue_putLoop (s : State) (l : LoopId) (x : Loop) : (putLoop s l x).link.queue = s.link.queue := by
  unfold putLoop State.markIf
  dsimp only
  split
  · cases l <;> rfl
  · cases l <;> rfl

/-- Nothing but the two loops and the Link Port differs. -/
def LoopsOnly (s t : State) : Prop := ∃ x y k, t = { s with loopA := x, loopB := y, link := k }

theorem LoopsOnly.trans {s t u : State} (h₁ : LoopsOnly s t) (h₂ : LoopsOnly t u) : LoopsOnly s u := by
  obtain ⟨_, _, _, rfl⟩ := h₁
  obtain ⟨_, _, _, rfl⟩ := h₂
  exact ⟨_, _, _, rfl⟩

/-! ### The entry set (R68, R72, R78) -/

/-- The loop with its entry at `a` set to `h`, the stranger flag cleared and the cursor following. -/
structure EnrollmentSet (l : LoopId) (a : HeadAddr) (h : Option Head) (s t : State) : Prop where
  head : t.head l a = h
  otherHeads : ∀ b, b ≠ a → t.head l b = s.head l b
  otherLoop : OtherLoop l s t
  stranger : (t.loop l).stranger = false ∧ (t.loop l).lastStranger = none
  cursor : (t.loop l).cursor = if h.isSome then some ((s.loop l).cursor.getD a)
    else if (s.loop l).cursor = some a then (t.loop l).nextAfter a else (s.loop l).cursor
  queue : t.link.queue = s.link.queue
  frame : LoopsOnly s t

theorem setEnrollment_set (s : State) (l : LoopId) (a : HeadAddr) (h : Option Head) : EnrollmentSet l a h s (setEnrollment s l a h) := by
  let u := putHead s l a h
  let x : Loop := { u.loop l with stranger := false, lastStranger := none }
  let y : Loop := { x with
    cursor := x.cursorAfter a h.isSome
    orphan := x.orphan || (h.isNone && x.polled = some a) }
  have hdef : setEnrollment s l a h = putLoop u l y := rfl
  have hx : u.loop l = { s.loop l with heads := vput (s.loop l).heads a h } := loop_putHead s l a h
  have hy : (putLoop u l y).loop l = y := loop_putLoop u l y
  have hhead (b : HeadAddr) : (putLoop u l y).head l b = u.head l b := by
    rw [State.head, hy]
    rfl
  have hcursor : (u.loop l).cursor = (s.loop l).cursor := by rw [hx]
  rw [hdef]
  refine ⟨(hhead a).trans (head_putHead s l a h), fun b hb => (hhead b).trans (head_putHead_other s l hb h),
    fun k hk => (otherLoop_putLoop u l y k hk).trans (otherLoop_putHead s l a h k hk), ?_, ?_,
    (queue_putLoop u l y).trans (queue_putHead s l a h), LoopsOnly.trans (putHead_frame s l a h) (putLoop_frame u l y)⟩
  · rw [hy]
    exact ⟨rfl, rfl⟩
  · rw [hy, ← hcursor]
    rfl

/-! ### The zones take it (R84, R88) -/

/-- The zones `o` and `n` have taken their inputs. -/
structure HeadHanded (o n : Option ZoneId) (s t : State) : Prop where
  core : t.core = s.core
  zones : ∀ z, o = some z ∨ n = some z → (t.zone z).counts = t.headCounts z ∧ (t.zone z).fault = t.zoneFault z
  lots : t.lots = s.lots
  settingsOps : t.writer.settingsOps = s.writer.settingsOps

theorem ZoneRefreshed.handed {z : ZoneId} {s t : State} (h : ZoneRefreshed z s t) {o n : Option ZoneId}
    (hz : ∀ y, o = some y ∨ n = some y → y = z) : HeadHanded o n s t :=
  ⟨h.core, fun y hy => hz y hy ▸ h.follows, h.lots, h.settingsOps⟩

/-- Two zones, one after the other. -/
theorem ZoneRefreshed.handed_twice {y z : ZoneId} {s t u : State} (h₁ : ZoneRefreshed y s t) (h₂ : ZoneRefreshed z t u) {o n : Option ZoneId}
    (hz : ∀ w, o = some w ∨ n = some w → w = y ∨ w = z) : HeadHanded o n s u := by
  refine ⟨h₂.core.trans h₁.core, fun w hw => ?_, h₂.lots.trans h₁.lots, h₂.settingsOps.trans h₁.settingsOps⟩
  by_cases hwz : w = z
  · rw [hwz]
    exact h₂.follows
  · have hwy := (hz w hw).resolve_right hwz
    obtain ⟨hc, hf⟩ := h₁.follows
    rw [hwy] at hwz ⊢
    rw [h₂.others y hwz, headCounts_congr (loop_of_core h₂.core), zoneFault_congr (loop_of_core h₂.core)]
    exact ⟨hc, hf⟩

theorem handEnrollment_handed (s : State) (l : LoopId) (a : HeadAddr) (o n : Option ZoneId) :
    HeadHanded o n s (handEnrollment s l a o n) := by
  have R (s : State) (z : ZoneId) (i : ZoneInput) := refreshZone_refreshed s z i
  unfold handEnrollment
  split
  · exact ⟨rfl, fun z hz => by simp at hz, rfl, rfl⟩
  · next y => exact (R s y _).handed fun w hw => by simpa [eq_comm] using hw
  · next z => exact (R s z _).handed fun w hw => by simpa [eq_comm] using hw
  · next y z =>
    split_ifs with he
    · exact (R s z _).handed fun w hw => by simpa [he, eq_comm] using hw
    · exact (R s y _).handed_twice (R _ z _) fun w hw => by simpa [eq_comm] using hw
    · exact (R s z _).handed_twice (R _ y _) fun w hw => by simpa [eq_comm, or_comm] using hw

/-! ### CONFIG_HEAD (R68) -/

/-- A zone concerned is outside NORMAL. -/
def State.zoneOut (s : State) (z : Option ZoneId) : Prop := ∃ y, z = some y ∧ (s.zone y).main ≠ .normal

theorem any_zoneOut (s : State) (z : Option ZoneId) : z.any (fun z => (s.zone z).main ≠ .normal) = true ↔ s.zoneOut z := by
  cases z with
  | none => simp [State.zoneOut]
  | some z => simp [State.zoneOut]

section ConfigHead

variable {s : State} {l : LoopId} {a : HeadAddr} {e : Option Enrollment}

theorem configHeadAt_out (h : s.zoneOut ((s.head l a).map Head.zone) ∨ s.zoneOut (e.map Enrollment.zone)) :
    configHeadAt s l a e = (s, refuse .wrongState) := by
  unfold configHeadAt
  dsimp only
  rw [if_pos]
  rw [Bool.or_eq_true, any_zoneOut, any_zoneOut]
  exact h

/-- The entry that an enrollment sets (R68). -/
def enrolledHead (s : State) (l : LoopId) (e : Option Enrollment) : Option Head :=
  e.map (fun e => freshHead e.kind e.zone ((s.loop l).state = .short))

/-- The Head Table and the zones once CONFIG_HEAD has been taken. -/
def enrolled (s : State) (l : LoopId) (a : HeadAddr) (e : Option Enrollment) : State :=
  handEnrollment (setEnrollment s l a (enrolledHead s l e)) l a ((s.head l a).map Head.zone) (e.map Enrollment.zone)

theorem configHeadAt_taken (ho : ¬s.zoneOut ((s.head l a).map Head.zone)) (he : ¬s.zoneOut (e.map Enrollment.zone)) :
    configHeadAt s l a e = (askRewrite (enrolled s l a e) .head, rewriteReply .head false (.head l a ((enrolled s l a e).head l a))) := by
  unfold configHeadAt
  dsimp only
  rw [if_neg]
  · rfl
  · rw [Bool.or_eq_true, any_zoneOut, any_zoneOut]
    exact not_or.2 ⟨ho, he⟩

end ConfigHead

/-- A CONFIG_HEAD whose identifiers are read. -/
theorem reqConfigHead_at {s : State} {loop addr enrolled kind zone : Byte} {l : LoopId} {a : HeadAddr} {e : Option Enrollment}
    (hl : loopOf loop = some l) (ha : addrOf addr = some a)
    (he : (flagOf enrolled = some false ∧ e = none)
      ∨ (flagOf enrolled = some true ∧ ∃ k z, kindOf kind = some k ∧ zoneOf zone = some z ∧ e = some ⟨k, z⟩)) :
    reqConfigHead s loop addr enrolled kind zone = configHeadAt s l a e := by
  obtain ⟨hf, rfl⟩ | ⟨hf, k, z, hk, hz, rfl⟩ := he
  · simp only [reqConfigHead, hl, ha, hf]
  · simp only [reqConfigHead, hl, ha, hf, hk, hz]

theorem reqConfigHead_outOfRange {s : State} {loop addr enrolled kind zone : Byte}
    (h : loopOf loop = none ∨ addrOf addr = none ∨ flagOf enrolled = none
      ∨ (flagOf enrolled = some true ∧ (kindOf kind = none ∨ zoneOf zone = none))) :
    reqConfigHead s loop addr enrolled kind zone = (s, refuse .outOfRange) := by
  unfold reqConfigHead
  split
  · next l a hl ha hf =>
    rw [hl, ha, hf] at h
    simp at h
  · next l a hl ha hf =>
    split
    · next k z hk hz =>
      rw [hl, ha, hf, hk, hz] at h
      simp at h
    · rfl
  · rfl

/-- Settles O25. -/
theorem headConfigured : Obligations.HeadConfigured := by
  refine ⟨fun s m loop addr enr kind zone h hbad => ?_, fun s m loop addr enr kind zone l a e h hl ha hen => ?_⟩
  · have T : Taken s m (.configHead loop addr enr kind zone) := taken_plain h rfl nofun
    exact T.same (c := .configHead m loop addr enr kind zone) rfl rfl (reqConfigHead_outOfRange hbad)
  · have T : Taken s m (.configHead loop addr enr kind zone) := taken_plain h rfl nofun
    let j := s.withEntry m (.configHead loop addr enr kind zone) .untaken
    have hjl (k : LoopId) : j.loop k = s.loop k := by cases k <;> rfl
    have hjh : j.head l a = s.head l a := head_of_loop (hjl l) a
    intro out
    refine ⟨fun ho => T.same (c := .configHead m loop addr enr kind zone) rfl rfl ?_, fun ho he => ?_⟩
    · refine (reqConfigHead_at (s := j) hl ha hen).trans (configHeadAt_out ?_)
      rw [hjh]
      exact ho
    · have hrun : runRequest j (.configHead loop addr enr kind zone) = (askRewrite (enrolled j l a e) .head,
          .waiting (.rewrite .head false ⟨.ok, .head l a ((enrolled j l a e).head l a)⟩)) :=
        (reqConfigHead_at (s := j) hl ha hen).trans (configHeadAt_taken (by rw [hjh]; exact ho) he)
      obtain ⟨ops, hops, hrow⟩ := T.configured (c := .configHead m loop addr enr kind zone) rfl rfl hrun
      have E := setEnrollment_set j l a (enrolledHead j l e)
      have H : HeadHanded _ _ _ (enrolled j l a e) :=
        handEnrollment_handed (setEnrollment j l a (enrolledHead j l e)) l a ((j.head l a).map Head.zone) (e.map Enrollment.zone)
      have hfresh : enrolledHead j l e = e.map (fun e =>
          if (s.loop l).state = .short then ⟨e.kind, e.zone, false, .missing, 0, 3, false⟩
          else ⟨e.kind, e.zone, false, .normal, 0, 0, false⟩) := by
        unfold enrolledHead freshHead
        rw [hjl]
        congr 1
        funext e
        by_cases hs : (s.loop l).state = .short <;> simp [hs]
      have hsome : (enrolledHead j l e).isSome = e.isSome := Option.isSome_map
      rw [hjh] at H
      rw [hfresh] at E
      have hcursor := E.cursor
      rw [← hfresh, hsome, hjl, hfresh] at hcursor
      have hzones (x : State) (hx : ∀ k, x.loop k = (enrolled j l a e).loop k) (hz : ∀ z, x.zone z = (enrolled j l a e).zone z) (z : ZoneId)
          (hm : (s.head l a).map Head.zone = some z ∨ e.map Enrollment.zone = some z) :
          (x.zone z).counts = x.headCounts z ∧ (x.zone z).fault = x.zoneFault z := by
        rw [hz, headCounts_congr hx, zoneFault_congr hx]
        exact H.zones z hm
      have hcore := H.core
      have hlots := H.lots
      rw [hfresh] at hcore hlots
      generalize enrolled j l a e = t at *
      generalize setEnrollment j l a _ = u at *
      obtain ⟨x, y, k, hu⟩ := E.frame
      have hloop (k : LoopId) : t.loop k = u.loop k := loop_of_core hcore k
      let v := State.withStage { t with writer := { t.writer with settingsOps := ops } }
        (.waiting (.rewrite .head false ⟨.ok, .head l a (t.head l a)⟩))
      have hv (k : LoopId) : v.loop k = t.loop k := by cases k <;> rfl
      have hvu (k : LoopId) : v.loop k = u.loop k := (hv k).trans (hloop k)
      refine ⟨v, hrow, ?_, (head_of_loop (hvu l) a).trans E.head,
        fun b hb => ((head_of_loop (hvu l) b).trans (E.otherHeads b hb)).trans (head_of_loop (hjl l) b),
        fun k hk => ((hvu k).trans (E.otherLoop k hk)).trans (hjl k), ?_, ?_, ?_,
        fun f hf => hzones v hv (fun _ => rfl) f.zone (.inr (by rw [hf]; rfl)),
        fun h hh => hzones v hv (fun _ => rfl) h.zone (.inl (by rw [hh]; rfl)), hops, ?_, ?_, ?_, ?_, ?_⟩
      · rw [head_of_loop (hv l)]
        exact queued_withStage (u := { t with writer := { t.writer with settingsOps := ops } }) h
          ((queue_of_core (t := t) hcore).trans E.queue) _
      · rw [hvu]
        exact E.stranger.1
      · rw [hvu]
        exact E.stranger.2
      · rw [hvu]
        exact hcursor
      · exact (congrArg Core.nv hcore).trans (by rw [hu]; rfl)
      · exact (congrArg Core.cells hcore).trans (by rw [hu]; rfl)
      · exact (congrArg Core.classes hcore).trans (by rw [hu]; rfl)
      · exact (congrArg Core.clock hcore).trans (by rw [hu]; rfl)
      · exact hlots.trans (by rw [hu]; rfl)

end Sys2Proof.Machine
end

section
/-! The zone conditions, an evaluation, an entry into ALARM and its incident (O11). -/

namespace Sys2Proof.Machine

/-! ### The first of a sorted list -/

theorem find?_eq_some_of_first {α : Type} {R : α → α → Prop} {p : α → Bool} {l : List α} {x : α} (hl : l.Pairwise R) (hx : x ∈ l)
    (hp : p x = true) (hfirst : ∀ y ∈ l, p y = true → ¬R y x) : l.find? p = some x := by
  induction l with
  | nil => simp at hx
  | cons y l ih =>
    obtain ⟨hy, hl⟩ := List.pairwise_cons.1 hl
    obtain rfl | hx := List.mem_cons.1 hx
    · exact List.find?_cons_of_pos hp
    · have hpy : ¬p y = true := fun hpy => hfirst y List.mem_cons_self hpy (hy x hx)
      rw [List.find?_cons_of_neg hpy]
      exact ih hl hx fun z hz => hfirst z (List.mem_cons_of_mem y hz)

theorem find?_first {α : Type} {R : α → α → Prop} {p : α → Bool} {l : List α} {x : α} (hl : l.Pairwise R) (h : l.find? p = some x) :
    ∀ y ∈ l, p y = true → y = x ∨ R x y := by
  induction l with
  | nil => simp at h
  | cons z l ih =>
    obtain ⟨hz, hl⟩ := List.pairwise_cons.1 hl
    by_cases hp : p z = true
    · obtain rfl : z = x := Option.some.inj ((List.find?_cons_of_pos hp).symm.trans h)
      exact fun y hy _ => (List.mem_cons.1 hy).imp id (hz y)
    · rw [List.find?_cons_of_neg hp] at h
      intro y hy hpy
      obtain rfl | hy := List.mem_cons.1 hy
      · exact absurd hpy hp
      · exact ih hl h y hy hpy

/-! ### The heads of a zone (R88, R89) -/

theorem mem_allAddrs (a : HeadAddr) : a ∈ allAddrs := by
  revert a
  decide

theorem allAddrs_sorted : allAddrs.Pairwise (· < ·) := by decide

theorem allBays_sorted : allBays.Pairwise (· < ·) := by decide

theorem mem_zoneHeadsOn {s : State} {l k : LoopId} {z : ZoneId} {a : HeadAddr} {h : Head} :
    (k, a, h) ∈ s.zoneHeadsOn l z ↔ k = l ∧ s.head l a = some h ∧ h.zone = z := by
  rw [State.zoneHeadsOn, List.mem_filterMap]
  constructor
  · rintro ⟨c, -, hc⟩
    split at hc
    · next g hg =>
      split_ifs at hc with hz
      obtain ⟨rfl, rfl, rfl⟩ : l = k ∧ c = a ∧ g = h := by simpa using hc
      exact ⟨rfl, hg, hz⟩
    · simp at hc
  · rintro ⟨rfl, hh, hz⟩
    exact ⟨a, mem_allAddrs a, by simp only [hh, if_pos hz]⟩

theorem mem_zoneHeads {s : State} {k : LoopId} {z : ZoneId} {a : HeadAddr} {h : Head} :
    (k, a, h) ∈ s.zoneHeads z ↔ s.head k a = some h ∧ h.zone = z := by
  rw [State.zoneHeads, List.mem_append, mem_zoneHeadsOn, mem_zoneHeadsOn]
  cases k <;> simp

theorem mem_countedHeads {s : State} {k : LoopId} {z : ZoneId} {a : HeadAddr} {h : Head} :
    (k, a, h) ∈ s.countedHeads z ↔ s.head k a = some h ∧ h.zone = z ∧ h.isolated = false := by
  rw [State.countedHeads, List.mem_filter, mem_zoneHeads, Bool.not_eq_true', and_assoc]

/-- Loop A before loop B, and a lower address first. -/
def headBefore (x y : LoopId × HeadAddr × Head) : Prop := (x.1 = .a ∧ y.1 = .b) ∨ (x.1 = y.1 ∧ x.2.1 < y.2.1)

theorem zoneHeadsOn_sorted (s : State) (l : LoopId) (z : ZoneId) : (s.zoneHeadsOn l z).Pairwise headBefore := by
  refine List.Pairwise.filterMap _ (fun a c hac x hx y hy => ?_) allAddrs_sorted
  have hloop (c : HeadAddr) (y : LoopId × HeadAddr × Head)
      (hy : (match s.head l c with | some h => if h.zone = z then some (l, c, h) else none | none => none) = some y) :
      y.1 = l ∧ y.2.1 = c := by
    split at hy
    · split_ifs at hy
      obtain rfl := Option.some.inj hy
      exact ⟨rfl, rfl⟩
    · simp at hy
  obtain ⟨hx₁, hx₂⟩ := hloop a x hx
  obtain ⟨hy₁, hy₂⟩ := hloop c y hy
  exact .inr ⟨hx₁.trans hy₁.symm, by rw [hx₂, hy₂]; exact hac⟩

theorem zoneHeads_sorted (s : State) (z : ZoneId) : (s.zoneHeads z).Pairwise headBefore := by
  rw [State.zoneHeads, List.pairwise_append]
  refine ⟨zoneHeadsOn_sorted s .a z, zoneHeadsOn_sorted s .b z, fun x hx y hy => ?_⟩
  exact .inl ⟨(mem_zoneHeadsOn.1 hx).1, (mem_zoneHeadsOn.1 hy).1⟩

theorem countedHeads_sorted (s : State) (z : ZoneId) : (s.countedHeads z).Pairwise headBefore := (zoneHeads_sorted s z).filter _

/-- The heads of zone `z` on loop `l` that satisfy `p`. -/
def State.headsOn (s : State) (z : ZoneId) (l : LoopId) (p : Head → Bool) : Nat :=
  allAddrs.countP (fun a => (s.head l a).any (fun h => h.zone = z && p h))

/-- The heads of zone `z` that satisfy `p`. -/
def State.headsAmong (s : State) (z : ZoneId) (p : Head → Bool) : Nat := s.headsOn z .a p + s.headsOn z .b p

theorem countP_zoneHeadsOn (s : State) (l : LoopId) (z : ZoneId) (p : Head → Bool) :
    (s.zoneHeadsOn l z).countP (fun x => p x.2.2) = s.headsOn z l p := by
  rw [State.zoneHeadsOn, List.countP_filterMap, State.headsOn]
  congr 1
  funext a
  cases hh : s.head l a with
  | none => rfl
  | some h => by_cases hz : h.zone = z <;> simp [hz]

theorem countP_zoneHeads (s : State) (z : ZoneId) (p : Head → Bool) : (s.zoneHeads z).countP (fun x => p x.2.2) = s.headsAmong z p := by
  rw [State.zoneHeads, List.countP_append, countP_zoneHeadsOn, countP_zoneHeadsOn, State.headsAmong]

theorem length_filter_countedHeads (s : State) (z : ZoneId) (p : Head → Bool) :
    ((s.countedHeads z).filter (fun x => p x.2.2)).length = s.headsAmong z (fun h => !h.isolated && p h) := by
  rw [← countP_zoneHeads, State.countedHeads, List.filter_filter, ← List.countP_eq_length_filter]
  congr 1
  funext x
  exact Bool.and_comm _ _

theorem headCounts_eq (s : State) (z : ZoneId) : s.headCounts z =
    { counted := s.headsAmong z (fun h => !h.isolated), isolated := s.headsAmong z (fun h => h.isolated)
      pre := s.headsAmong z (fun h => !h.isolated && h.level = .pre), alarm := s.headsAmong z (fun h => !h.isolated && h.level = .alarm)
      flameAlarm := s.headsAmong z (fun h => !h.isolated && h.level = .alarm && h.kind = .flame)
      bad := s.headsAmong z (fun h => !h.isolated && (h.level = .missing || h.level = .fault)) } := by
  have hcounted : (s.countedHeads z).length = s.headsAmong z (fun h => !h.isolated) := by
    rw [← countP_zoneHeads, State.countedHeads, ← List.countP_eq_length_filter]
  have hisolated : ((s.zoneHeads z).filter (fun x => x.2.2.isolated)).length = s.headsAmong z (fun h => h.isolated) := by
    rw [← countP_zoneHeads, ← List.countP_eq_length_filter]
  have hflame : ((s.countedHeads z).filter (fun x => x.2.2.level = .alarm && x.2.2.kind = .flame)).length
      = s.headsAmong z (fun h => !h.isolated && h.level = .alarm && h.kind = .flame) := by
    rw [length_filter_countedHeads s z (fun h => h.level = .alarm && h.kind = .flame)]
    simp only [Bool.and_assoc]
  have hpre := length_filter_countedHeads s z (fun h => decide (h.level = .pre))
  have halarm := length_filter_countedHeads s z (fun h => decide (h.level = .alarm))
  have hbad := length_filter_countedHeads s z (fun h => decide (h.level = .missing) || decide (h.level = .fault))
  simp only [State.headCounts, hcounted, hisolated, hpre, halarm, hflame, hbad]

theorem bad_pos_iff (s : State) (z : ZoneId) : 0 < (s.headCounts z).bad ↔
    ∃ l a h, (s.head l a = some h ∧ h.zone = z ∧ h.isolated = false) ∧ (h.level = .missing ∨ h.level = .fault) := by
  rw [State.headCounts, List.length_pos_iff_exists_mem]
  simp [mem_countedHeads]

theorem isolated_pos_iff (s : State) (z : ZoneId) : 0 < (s.headCounts z).isolated ↔
    ∃ l a h, s.head l a = some h ∧ h.zone = z ∧ h.isolated = true := by
  rw [State.headCounts, List.length_pos_iff_exists_mem]
  simp [mem_zoneHeads, and_assoc]

theorem counted_zero_iff (s : State) (z : ZoneId) : (s.headCounts z).counted = 0 ↔
    ∀ l a h, s.head l a = some h → h.zone = z → h.isolated = true := by
  rw [State.headCounts, List.length_eq_zero_iff, List.eq_nil_iff_forall_not_mem]
  simp [mem_countedHeads]

theorem zoneFault_iff (s : State) (z : ZoneId) : s.zoneFault z = true ↔
    (∃ l a h, (s.head l a = some h ∧ h.zone = z ∧ h.isolated = false) ∧ (h.level = .missing ∨ h.level = .fault))
    ∨ (∃ l a h, (s.head l a = some h ∧ h.zone = z ∧ h.isolated = false) ∧ (s.loop l).state = .short)
    ∨ ((∃ l a h, s.head l a = some h ∧ h.zone = z) ∧ ∀ l a h, s.head l a = some h → h.zone = z → h.isolated = true) := by
  have hshort : (s.countedHeads z).any (fun x => (s.loop x.1).state = .short) = true ↔
      ∃ l a h, (s.head l a = some h ∧ h.zone = z ∧ h.isolated = false) ∧ (s.loop l).state = .short := by
    simp [List.any_eq_true, mem_countedHeads]
  have hall : (0 < (s.headCounts z).isolated ∧ (s.headCounts z).counted = 0) ↔
      (∃ l a h, s.head l a = some h ∧ h.zone = z) ∧ ∀ l a h, s.head l a = some h → h.zone = z → h.isolated = true := by
    rw [isolated_pos_iff, counted_zero_iff]
    exact ⟨fun ⟨⟨l, a, h, hh, hz, _⟩, hi⟩ => ⟨⟨l, a, h, hh, hz⟩, hi⟩, fun ⟨⟨l, a, h, hh, hz⟩, hi⟩ => ⟨⟨l, a, h, hh, hz, hi l a h hh hz⟩, hi⟩⟩
  rw [State.zoneFault, Bool.or_eq_true, Bool.or_eq_true, Bool.and_eq_true, decide_eq_true_eq, decide_eq_true_eq, decide_eq_true_eq, bad_pos_iff, hshort, hall,
    or_assoc]

/-! ### The bay-thermal input (R90) -/

/-- Bay `b` asserts its pack-over-limit report into zone `z`. -/
def State.hotIn (s : State) (z : ZoneId) (b : BayId) : Prop :=
  (s.bay b).overLimit = true ∧ ∃ v, (s.bay b).settings = some v ∧ v.zone = z

theorem bayInZone_iff (s : State) (z : ZoneId) (b : BayId) : s.bayInZone z b = true ↔ ∃ v, (s.bay b).settings = some v ∧ v.zone = z := by
  unfold State.bayInZone
  split
  · next v hv => simp [hv]
  · next hv => simp [hv]

theorem thermal_iff (s : State) (z : ZoneId) (b : BayId) : (s.bayInZone z b && (s.bay b).overLimit) = true ↔ s.hotIn z b := by
  rw [Bool.and_eq_true, bayInZone_iff, and_comm, State.hotIn]

theorem thermalBay_iff (s : State) (z : ZoneId) (b : BayId) : s.thermalBay z = some b ↔ s.hotIn z b ∧ ∀ c, c < b → ¬s.hotIn z c := by
  unfold State.thermalBay
  constructor
  · intro h
    refine ⟨(thermal_iff s z b).1 (List.find?_some (p := fun b => s.bayInZone z b && (s.bay b).overLimit) h), fun c hc hhot => ?_⟩
    obtain rfl | hbc := find?_first allBays_sorted h c (mem_allBays c) ((thermal_iff s z c).2 hhot)
    · exact lt_irrefl c hc
    · exact lt_asymm hc hbc
  · rintro ⟨hb, hmin⟩
    exact find?_eq_some_of_first allBays_sorted (mem_allBays b) ((thermal_iff s z b).2 hb) fun c _ hc hlt =>
      hmin c hlt ((thermal_iff s z c).1 hc)

theorem zoneThermal_iff (s : State) (z : ZoneId) : s.zoneThermal z = true ↔ ∃ b, s.hotIn z b := by
  rw [State.zoneThermal, State.thermalBay, List.find?_isSome]
  simp only [mem_allBays, true_and, thermal_iff]

/-! ### The clauses (R91, R92) -/

/-- The three clauses of the ALARM condition that heads alone decide (R91). -/
def Zone.byHead (x : Zone) : Prop :=
  1 ≤ x.counts.flameAlarm ∨ (x.coincidence = false ∧ 1 ≤ x.counts.alarm) ∨ (x.coincidence = true ∧ 2 ≤ x.counts.alarm)

theorem Zone.headClauses_iff (x : Zone) : (x.alarmClauses.take 3).any id = true ↔ x.byHead := by
  simp [Zone.alarmClauses, Zone.byHead]

theorem Zone.coincidence_iff (x : Zone) : x.coincidence = true ↔ x.settings.coincidence = true ∧ x.fault = false := by
  rw [Zone.coincidence, Bool.and_eq_true, Bool.not_eq_true']

theorem Zone.alarmHolds_iff (x : Zone) : x.alarmHolds = true ↔
    1 ≤ x.counts.flameAlarm ∨ (x.coincidence = false ∧ 1 ≤ x.counts.alarm) ∨ (x.coincidence = true ∧ 2 ≤ x.counts.alarm)
    ∨ x.settings.alarmThreshold ≤ x.sparks ∨ x.sparks = 65535 ∨ x.settings.windowsForAlarm ≤ x.consecutive
    ∨ (x.thermal = true ∧ 1 ≤ x.counts.pre + x.counts.alarm) := by
  simp only [Zone.alarmHolds, Zone.alarmClauses, List.any_cons, List.any_nil, Bool.or_eq_true, Bool.and_eq_true, Bool.not_eq_true',
    decide_eq_true_eq, id, Bool.false_eq_true, or_false]

theorem Zone.preHolds_iff (x : Zone) : x.preHolds = true ↔
    1 ≤ x.counts.pre ∨ (x.counts.alarm = 1 ∧ x.coincidence = true) ∨ x.settings.preThreshold ≤ x.sparks ∨ x.thermal = true := by
  simp only [Zone.preHolds, Zone.preClauses, List.any_cons, List.any_nil, Bool.or_eq_true, Bool.and_eq_true, decide_eq_true_eq, id,
    Bool.false_eq_true, or_false]

/-! ### The alarm cause (R94) -/

/-- `h`, at `a` on loop `l`, is a counted head of zone `z` at ALARM. -/
def State.headAtAlarm (s : State) (z : ZoneId) (l : LoopId) (a : HeadAddr) (h : Head) : Prop :=
  s.head l a = some h ∧ h.zone = z ∧ h.isolated = false ∧ h.level = .alarm

/-- The first such head. -/
def State.firstAtAlarm (s : State) (z : ZoneId) (l : LoopId) (a : HeadAddr) (h : Head) : Prop :=
  s.headAtAlarm z l a h ∧ ∀ k c g, s.headAtAlarm z k c g → (k = .a → l = .a) ∧ (k = l → a ≤ c)

theorem alarmHead_first {s : State} {z : ZoneId} {l : LoopId} {a : HeadAddr} {h : Head} (hf : s.firstAtAlarm z l a h) :
    alarmHead s z = some (.head l a h.kind h.level h.value) := by
  obtain ⟨⟨hh, hz, hi, hl⟩, hmin⟩ := hf
  have hfind : (s.countedHeads z).find? (fun x => x.2.2.level = .alarm) = some (l, a, h) := by
    refine find?_eq_some_of_first (countedHeads_sorted s z) (mem_countedHeads.2 ⟨hh, hz, hi⟩) (decide_eq_true hl) ?_
    rintro ⟨k, c, g⟩ hy hp hbefore
    obtain ⟨hg, hgz, hgi⟩ := mem_countedHeads.1 hy
    obtain ⟨hloop, haddr⟩ := hmin k c g ⟨hg, hgz, hgi, of_decide_eq_true hp⟩
    obtain ⟨hk, hl⟩ | ⟨hk, hc⟩ := hbefore
    · exact absurd ((hloop hk).symm.trans hl) (by decide)
    · exact absurd hc (not_lt.2 (haddr hk))
  rw [alarmHead, hfind, Option.map_some]

theorem alarmCause_head {s : State} {z : ZoneId} {l : LoopId} {a : HeadAddr} {h : Head} {f : Bool} (hh : s.head l a = some h)
    (hf : f = true → h.level ≠ .missing ∧ h.level ≠ .fault) :
    alarmCause s z (.head l a) f = some (.head l a h.kind h.level h.value) := by
  unfold alarmCause
  dsimp only
  rw [if_neg, headCause, hh, Option.map_some]
  cases f with
  | false => simp
  | true =>
    obtain ⟨hm, hg⟩ := hf rfl
    simp [hh, hm, hg]

theorem alarmCause_restored {s : State} {z : ZoneId} {l k : LoopId} {a c : HeadAddr} {h g : Head} (hf : s.firstAtAlarm z l a h)
    (hg : s.head k c = some g) (hl : g.level = .missing ∨ g.level = .fault) :
    alarmCause s z (.head k c) true = some (.head l a h.kind h.level h.value) := by
  unfold alarmCause
  dsimp only
  rw [if_pos, alarmHead_first hf]
  simpa [hg] using hl

theorem alarmCause_thermal {s : State} {z : ZoneId} {b : BayId} {u : Sample} {f : Bool} (hb : s.hotIn z b) (hmin : ∀ c, c < b → ¬s.hotIn z c)
    (hu : (s.bay b).lastValid = some u) : alarmCause s z .thermal f = some (.bayThermal b u.packTemp) := by
  have hbay := (thermalBay_iff s z b).2 ⟨hb, hmin⟩
  change thermalCause s z = _
  rw [thermalCause, hbay, Option.map_some, hu, Option.map_some, Option.getD_some]

/-- The inputs outside the table of R94. -/
theorem alarmCause_rest {s : State} {z : ZoneId} {i : ZoneInput} (hi : i = .config ∨ i = .other) (f : Bool) : alarmCause s z i f
    = if ((s.zone z).alarmClauses.take 3).any id then alarmHead s z
      else some (.spark (s.zone z).lastSpark (s.zone z).sparks (s.zone z).consecutive) := by
  obtain rfl | rfl := hi
  · rfl
  · rfl

/-! ### An entry into ALARM (R94, R101 to R104) -/

theorem located_inBay {p : Pack} (hp : p.state = .inBay ∨ p.state = .released ∨ p.state = .quarantined) (s : State) (z : ZoneId) :
    located s z p = true ↔ ∃ b v, p.bay = some b ∧ (s.bay b).settings = some v ∧ v.zone = z ∧ (s.bay b).pack = some p.tag := by
  have hloc : located s z p = p.bay.any (fun b => s.bayInZone z b && (s.bay b).pack = some p.tag) := by
    unfold located
    rcases hp with hp | hp | hp
    all_goals
      rw [hp]
      cases p.bay <;> rfl
  rw [hloc, Option.any_eq_true]
  refine exists_congr fun b => ?_
  rw [Bool.and_eq_true, bayInZone_iff, decide_eq_true_eq]
  exact ⟨fun ⟨hb, ⟨v, hv, hz⟩, hp⟩ => ⟨v, hb, hv, hz, hp⟩, fun ⟨v, hb, hv, hz, hp⟩ => ⟨hb, ⟨v, hv, hz⟩, hp⟩⟩

theorem located_iff (s : State) (z : ZoneId) (p : Pack) : located s z p = true ↔
    (p.state = .staged ∧ (s.zone z).settings.role = .staging) ∨ (p.state = .feeding ∧ (s.zone z).settings.role = .infeed)
    ∨ ((p.state = .inBay ∨ p.state = .released ∨ p.state = .quarantined)
        ∧ ∃ b v, p.bay = some b ∧ (s.bay b).settings = some v ∧ v.zone = z ∧ (s.bay b).pack = some p.tag) := by
  cases hp : p.state with
  | staged => simp [located, hp, State.hasRole]
  | feeding => simp [located, hp, State.hasRole]
  | inBay => simpa using located_inBay (.inl hp) s z
  | released => simpa using located_inBay (.inr (.inl hp)) s z
  | quarantined => simpa using located_inBay (.inr (.inr hp)) s z
  | intake => simp [located, hp]

theorem zone_enterAlarm (s : State) (z : ZoneId) (c : Option AlarmCause) : (enterAlarm s z c).zone z = { s.zone z with
    main := .alarm, preClear := none, cause := c
    release := if (s.zone z).settings.releaseDelay = 0 then (s.zone z).release else .running (1000 * (s.zone z).settings.releaseDelay) } := by
  let x := s.zone z
  let u := putZone s z { x with
    main := .alarm, preClear := none, cause := c
    release := if x.settings.releaseDelay = 0 then x.release else .running (1000 * x.settings.releaseDelay) }
  have hdef : enterAlarm s z c = (formEffects (incidentStep u z)).mark .zone := rfl
  obtain ⟨hz, -, -⟩ := incidentStep_kept u z
  have hform : (formEffects (incidentStep u z)).zones = (incidentStep u z).zones := by
    obtain ⟨_, _, _, _, _, _, _, _, _, _, e⟩ := effectFrame_formEffects (incidentStep u z)
    generalize formEffects (incidentStep u z) = t at *
    rw [e]
  rw [hdef]
  exact (zone_of_zones (hform.trans hz) z).trans (zone_putZone s z _)

/-! ### The obligation -/

theorem incidentStep_opens {s : State} (h : s.incident.progress = none) (z : ZoneId) :
    let here := s.packs.filter (located s z)
    let ex := (here.filter (fun p => p.state ≠ .quarantined)).map Pack.tag
    let q := (here.filter (fun p => p.state = .quarantined)).length
    let n := s.incident.number + 1#16
    incidentStep s z = handPart (exposeAll { s with incident := ⟨n, some ⟨s.now, vput (Vector.replicate 12 false) z true, 0, ex.length, q⟩⟩ } n ex)
      (.opened { openSnapshot s z n with exposed := ex.length, quarantined := q }) := by
  unfold incidentStep
  dsimp only
  rw [h]

theorem incidentStep_joins {s : State} {p : Progress} (h : s.incident.progress = some p) (z : ZoneId) :
    let here := s.packs.filter (located s z)
    let ex := (here.filter (fun p => p.state ≠ .quarantined)).map Pack.tag
    let q := (here.filter (fun p => p.state = .quarantined)).length
    incidentStep s z = exposeAll { s with incident := ⟨s.incident.number, some { p with
      zones := vput p.zones z true, exposed := min 65535 (p.exposed + ex.length)
      quarantined := min 65535 (p.quarantined + q) }⟩ } s.incident.number ex := by
  unfold incidentStep
  dsimp only
  rw [h]
  rfl

theorem headFeeding_iff (s : State) (z : ZoneId) (n : BitVec 16) : (openSnapshot s z n).headFeeding = true ↔
    ∃ t p, s.queue.head? = some t ∧ s.pack t = some p ∧ p.state = .feeding := by
  change ((s.queue.head?.bind s.pack).map (fun p => decide (p.state = .feeding))).getD false = true ↔ _
  cases ht : s.queue.head? with
  | none => simp
  | some t => cases hp : s.pack t <;> simp [hp]

theorem refreshZone_cases (s : State) (z : ZoneId) (i : ZoneInput) :
    let f := s.zoneFault z
    let y := putZone s z { s.zone z with counts := s.headCounts z, fault := f, thermal := s.zoneThermal z }
    ((s.zone z).fault = f → refreshZone s z i = evaluateZone y z i false)
    ∧ ((s.zone z).fault ≠ f → refreshZone s z i = evaluateZone (formEffects y) z i f) := by
  intro f y
  have hdef : refreshZone s z i = evaluateZone (if (s.zone z).fault = f then y else formEffects y) z i (f && !(s.zone z).fault) := rfl
  rw [hdef]
  refine ⟨fun h => ?_, fun h => ?_⟩
  · rw [if_pos h, h, Bool.and_not_self]
  · have hf : (f && !(s.zone z).fault) = f := by
      cases hf : f
      · rfl
      · rw [hf] at h
        simpa using h
    rw [if_neg h, hf]

/-- Settles O11. -/
theorem zoneConditions : Obligations.ZoneConditions := by
  refine ⟨fun x => ⟨x.coincidence_iff, x.alarmHolds_iff, x.preHolds_iff, ?_⟩, fun s z i f => ?_, fun s z => ?_, fun s z f => ?_,
    fun s z i => ?_, fun s z => ?_⟩
  · rintro s z i f rfl ha (hm | hm)
    · simp only [evaluateZone, hm, ha, if_true]
    · simp only [evaluateZone, hm, ha, if_true]
  · refine ⟨fun hm ha hp => ?_, fun hm ha hp => evaluateZone_clear hm ha hp i f, fun hm ha hp => ?_, fun hm ha hp => ?_, ?_,
      fun c => ⟨rfl, zone_enterAlarm s z c⟩⟩
    · simp only [evaluateZone, hm, ha, hp, Bool.false_eq_true, if_false, if_true]
    · simp only [evaluateZone, hm, ha, hp, Bool.false_eq_true, if_false, if_true]
    · simp only [evaluateZone, hm, ha, hp, Bool.false_eq_true, if_false]
    · rintro (hm | hm)
      · simp only [evaluateZone, hm]
      · simp only [evaluateZone, hm]
  · exact ⟨fun h => incidentStep_opens h z, fun p h => incidentStep_joins h z, fun _ => rfl, fun _ _ _ => rfl, located_iff s z,
      rfl, rfl, rfl, rfl, rfl, rfl, fun w => Vector.getElem_ofFn _, fun b => Vector.getElem_ofFn _, rfl, rfl, rfl, rfl,
      headFeeding_iff s z _, rfl, rfl⟩
  · exact ⟨fun _ _ _ => alarmCause_head, fun _ _ _ _ _ _ => alarmCause_restored, fun _ _ _ => alarmHead_first, fun _ _ => rfl, fun _ => rfl,
      fun _ _ => alarmCause_thermal,
      fun i hi hb => (alarmCause_rest hi f).trans (if_neg fun h => hb ((Zone.headClauses_iff _).1 h)),
      fun i _ _ _ hi hb hf => (alarmCause_rest hi f).trans ((if_pos ((Zone.headClauses_iff _).2 hb)).trans (alarmHead_first hf))⟩
  · obtain ⟨hsame, hchanged⟩ := refreshZone_cases s z i
    refine ⟨hsame, hchanged, rfl, fun _ _ => rfl, fun b v hv => ?_, fun b hv => ?_⟩
    · simp only [thermalChange, hv]
    · simp only [thermalChange, hv]
  · have hcounts := headCounts_eq s z
    refine ⟨zoneThermal_iff s z, thermalBay_iff s z, ?_, ?_, ?_, ?_, ?_, ?_, zoneFault_iff s z⟩
    all_goals
      rw [hcounts]
      rfl

end Sys2Proof.Machine
end

section
/-! Notice classes that stay pending through the parts of an input's conditioning (O55). -/

namespace Sys2Proof.Machine

/-- Each notice class pending in `s` is pending in `t`. -/
def StaysPending (s t : State) : Prop := ∀ i, s.link.noticePending.getLsbD i = true → t.link.noticePending.getLsbD i = true

theorem StaysPending.refl (s : State) : StaysPending s s := fun _ h => h

theorem StaysPending.trans {s t u : State} (h₁ : StaysPending s t) (h₂ : StaysPending t u) : StaysPending s u := fun i h => h₂ i (h₁ i h)

/-- A state with the Link Port of `s`. -/
theorem staysPending_of_link {s t : State} (h : t.link = s.link) : StaysPending s t := fun _ hi => h ▸ hi

/-- What each operation of a list leaves pending, all of them one after the other do. -/
theorem staysPending_foldl {α : Type} {f : State → α → State} (hf : ∀ s a, StaysPending s (f s a)) (l : List α) (s : State) :
    StaysPending s (l.foldl f s) := by
  induction l generalizing s with
  | nil => exact .refl s
  | cons a l ih => exact (hf s a).trans (ih _)

theorem staysPending_mark (s : State) (c : NoticeClass) : StaysPending s (s.mark c) := fun i h => by
  change (s.link.noticePending ||| (noticeBit c &&& s.link.subscribed)).getLsbD i = true
  rw [BitVec.getLsbD_or, h, Bool.true_or]

theorem staysPending_markIf (s : State) (d : Bool) (c : NoticeClass) : StaysPending s (s.markIf d c) := by
  unfold State.markIf
  split
  · exact staysPending_mark s c
  · exact .refl s

theorem staysPending_listPack (s : State) (n : Tag) (e : Option ExitKind) : StaysPending s (s.listPack n e) := by
  have h (x : Link) (hx : x.noticePending = s.link.noticePending) : StaysPending s { s with link := x.mark .pack } :=
    StaysPending.trans (t := { s with link := x }) (fun i hi => hx ▸ hi) (staysPending_mark _ .pack)
  refine h _ ?_
  unfold Link.listPack
  split_ifs <;> rfl

/-! ### Bays and grants -/

theorem staysPending_putBay (s : State) (b : BayId) (x : Bay) : StaysPending s (putBay s b x) := by
  unfold putBay
  dsimp only
  refine StaysPending.trans ?_ (staysPending_markIf _ _ _)
  split
  · exact staysPending_of_link rfl
  · exact fun _ h => h

theorem staysPending_regrant (s : State) : StaysPending s (regrant s) := by
  refine staysPending_foldl (fun s g => ?_) _ s
  unfold takeGrant
  dsimp only
  split
  · exact .refl s
  · exact staysPending_putBay s _ _

theorem staysPending_putApart (s : State) (b : BayId) (x : Bay) : StaysPending s (putApart s b x) := by
  unfold putApart
  dsimp only
  split
  · exact (staysPending_putBay s b _).trans (staysPending_regrant _)
  · exact staysPending_putBay s b _

theorem staysPending_enterDischarging (s : State) (b : BayId) : StaysPending s (enterDischarging s b) := by
  rw [enterDischarging_eq]
  exact ((staysPending_putBay s b _).trans (staysPending_regrant _)).trans (staysPending_putBay _ b _)

theorem staysPending_setHolds (s : State) (b : BayId) (h : Holds) : StaysPending s (setHolds s b h) := by
  obtain ⟨-, e⟩ | ⟨-, -, -, -, e⟩ | ⟨-, -, -, -, -, e⟩ | ⟨-, -, e⟩ := setHolds_cases s b h
  · rw [e]
    exact .refl s
  · rw [e]
    exact staysPending_putApart s b _
  · rw [e]
    exact (staysPending_putBay s b _).trans (staysPending_enterDischarging _ b)
  · rw [e]
    exact staysPending_putBay s b _

theorem staysPending_syncHolds (s : State) : StaysPending s (syncHolds s) := staysPending_foldl (fun s b => staysPending_setHolds s b _) _ s

/-! ### Records and exits -/

theorem staysPending_accept (s : State) (d : Draft) : StaysPending s (accept s d) := by
  obtain ⟨w, -, e | e⟩ := accept_good s d
  · rw [e]
    exact staysPending_of_link rfl
  · rw [e]
    exact StaysPending.trans (t := { s with writer := w, line := { s.line with flushDone := false } }) (staysPending_of_link rfl)
      (staysPending_mark _ .line)

theorem staysPending_putPack (s : State) (p : Pack) : StaysPending s (putPack s p) := staysPending_listPack (s.setPack p) _ _

theorem staysPending_exitPack (s : State) (p : Pack) (k : ExitKind) (late : Bool) : StaysPending s (exitPack s p k late) := by
  have hfinal (s : State) (n : Tag) : StaysPending s (finalizeLot s n) := by
    unfold finalizeLot
    split
    · split
      · exact StaysPending.trans (staysPending_accept s _) (staysPending_mark _ .pack)
      · exact .refl s
    · exact .refl s
  have hlot (u : State) : (match u.lot p.lot with | some l => u.setLot (l.exit p k) | none => u).link = u.link := by
    split <;> rfl
  have hexit (d : Draft) (u : State) (hu : u.link = (accept s d).link) :
      StaysPending s (finalizeLot ((leaveQueue { u with packs := u.packs.filter (fun q => q.tag ≠ p.tag) } p.tag).listPack p.tag (some k)) p.lot) :=
    (StaysPending.trans (t := leaveQueue { u with packs := u.packs.filter (fun q => q.tag ≠ p.tag) } p.tag)
      ((staysPending_accept s d).trans (staysPending_of_link hu)) (staysPending_listPack _ _ _)).trans (hfinal _ _)
  unfold exitPack
  dsimp only
  cases k with
  | fed => exact hexit _ _ (hlot _)
  | removed => exact hexit _ _ (hlot _)

/-! ### Feeder, interlock and line mode -/

theorem staysPending_putFeeder (s : State) (x : Feeder) : StaysPending s (putFeeder s x) := staysPending_markIf { s with feeder := x } _ _

theorem staysPending_tryFeed (s : State) : StaysPending s (tryFeed s) := by
  have hsubmit (n : Tag) : StaysPending s (submit s (.feeding n)).1 := by
    obtain e | ⟨p, e⟩ | e := submit_feeding_cases s n
    · rw [e]
      exact .refl s
    · rw [e]
      exact staysPending_putPack s p
    · rw [e]
      exact staysPending_of_link rfl
  obtain e | ⟨n, e | e⟩ := tryFeed_cases s
  · rw [e]
    exact .refl s
  · rw [e]
    exact hsubmit n
  · rw [e]
    exact (hsubmit n).trans (staysPending_putFeeder _ _)

theorem staysPending_updateFeeder (s : State) : StaysPending s (updateFeeder s) := by
  obtain ⟨st, e | e⟩ := updateFeeder_cases s
  · rw [e]
    exact staysPending_putFeeder s _
  · rw [e]
    exact (staysPending_putFeeder s _).trans (staysPending_tryFeed _)

theorem staysPending_moveInterlock (s : State) (x : Interlock) : StaysPending s (moveInterlock s x) :=
  StaysPending.trans (staysPending_markIf { s with interlock := x } _ _) (staysPending_updateFeeder _)

theorem staysPending_updatePermission (s : State) : StaysPending s (updatePermission s) := by
  unfold updatePermission
  dsimp only
  split
  · exact staysPending_moveInterlock s _
  · exact staysPending_markIf { s with interlock := { s.interlock with permission := s.runConditions.met } } _ _

theorem staysPending_setLineMode (s : State) (m : LineMode) (c : Option HoldCause) : StaysPending s (setLineMode s m c) := by
  rw [setLineMode_eq]
  exact (((staysPending_markIf { s with line := { s.line with mode := m, cause := c } } _ _).trans (staysPending_syncHolds _)).trans
    (staysPending_updatePermission _)).trans (staysPending_updateFeeder _)

theorem staysPending_enterSafeHold (s : State) (c : HoldCause) : StaysPending s (enterSafeHold s c) := by
  unfold enterSafeHold
  split
  · exact .refl s
  · exact staysPending_setLineMode s _ _

theorem staysPending_putAtm (s : State) (x : Atmosphere) : StaysPending s (putAtm s x) :=
  (StaysPending.trans (staysPending_markIf { s with atm := withValve s x } _ _) (staysPending_updatePermission _)).trans
    (staysPending_updateFeeder _)

theorem staysPending_finishFed (s : State) (n : Tag) (late : Bool) : StaysPending s (finishFeed s (.fed n late)) := by
  have hsubmit (s : State) : StaysPending s (submit s (.fed n late)).1 := by
    unfold submit
    dsimp only [applyEvent]
    split
    · unfold takeFed
      split
      · exact .refl s
      · exact staysPending_exitPack s _ _ _
    · exact staysPending_of_link rfl
  have hend (s₀ s : State) : StaysPending s (afterFeedEvent s₀ s) := by
    have h := (staysPending_putFeeder s s.feeder.ended).trans (staysPending_updateFeeder _)
    rw [← endFeed_eq] at h
    unfold afterFeedEvent reportEmpty
    split
    · exact h.trans (staysPending_setLineMode _ _ _)
    · exact h
  unfold finishFeed
  dsimp only
  have hs := hsubmit (putFeeder s { s.feeder with gate := false, feedTimer := none })
  split
  · next u _ hu =>
    rw [hu] at hs
    exact ((staysPending_putFeeder s _).trans hs).trans (hend s u)
  · next u hu =>
    rw [hu] at hs
    exact (staysPending_putFeeder s _).trans hs

theorem staysPending_passEvent (s : State) : StaysPending s (passEvent s) := by
  have hend (n : Tag) (late : Bool) : StaysPending s (if s.feederWaits then s else finishFeed s (.fed n late)) := by
    split
    · exact .refl s
    · exact staysPending_finishFed s n late
  have hstray : StaysPending s (State.mark { s with feeder := { s.feeder with strays := satAdd 65535 s.feeder.strays 1 } } .feed) :=
    StaysPending.trans (staysPending_of_link rfl) (staysPending_mark _ .feed)
  cases hx : s.feeder.state with
  | blocked => simpa only [passEvent, hx] using hstray
  | ready => simpa only [passEvent, hx] using hstray
  | feeding =>
    cases ht : s.feeder.tag with
    | none => simpa only [passEvent, hx, ht] using .refl s
    | some n => simpa only [passEvent, hx, ht] using hend n false
  | jammed =>
    cases ht : s.feeder.tag with
    | none => simpa only [passEvent, hx, ht] using .refl s
    | some n => simpa only [passEvent, hx, ht] using hend n true

/-- A conditioned level at its receivers (R150). -/
theorem staysPending_inputTaken (s : State) (i : InputId) (v changed : Bool) : StaysPending s (inputTaken s i v changed) := by
  cases i with
  | estop =>
    change StaysPending s (estopTaken s v changed)
    unfold estopTaken
    split_ifs
    · exact (staysPending_enterSafeHold s _).trans (staysPending_updatePermission _)
    · exact staysPending_enterSafeHold s _
    · exact staysPending_updatePermission s
    · exact .refl s
  | doorClosed =>
    change StaysPending s (doorTaken s v changed)
    unfold doorTaken doorChange
    split_ifs
    · exact ((staysPending_enterSafeHold s _).trans (staysPending_putAtm _ _)).trans (staysPending_updatePermission _)
    · exact ((staysPending_enterSafeHold s _).trans (staysPending_putAtm _ _)).trans (staysPending_updatePermission _)
    · exact staysPending_enterSafeHold s _
    · exact (staysPending_putAtm s _).trans (staysPending_updatePermission _)
    · exact (staysPending_putAtm s _).trans (staysPending_updatePermission _)
    · exact .refl s
  | coolingOk =>
    change StaysPending s (if changed then syncHolds s else s)
    split
    · exact staysPending_syncHolds s
    · exact .refl s
  | shredRunning =>
    change StaysPending s (if changed then feedbackChange s v else s)
    unfold feedbackChange
    dsimp only
    split
    · split
      · exact staysPending_moveInterlock s _
      · exact staysPending_moveInterlock s _
      · exact staysPending_moveInterlock s _
      · exact .refl s
    · exact .refl s
  | packPassed =>
    change StaysPending s (if changed && v then passEvent s else s)
    split
    · exact staysPending_passEvent s
    · exact .refl s

end Sys2Proof.Machine
end

section
/-! The discrete inputs (O55). -/

namespace Sys2Proof.Machine

/-! ### Run permission formed again (R133) -/

theorem permitted_again (x : Interlock) (met : Bool) : (x.permitted met).permitted met = x.permitted met := by
  have hp := permitted_permission x met
  generalize x.permitted met = y at hp
  have e : y.permitted met = { y with permission := met } := if_neg fun ⟨h₁, h₂, _⟩ => by
    rw [hp, h₂] at h₁
    cases h₁
  rw [e, ← hp]

/-- Run permission has followed the conditions of `t`, and the bays, the line and the effect set are as they were. -/
structure PermissionFollowed (s t : State) : Prop where
  bays : t.bays = s.bays
  line : t.line = s.line
  effect : t.effect = s.effect
  core : t.core = s.core
  reasons : s.FeederReasons → t.FeederReasons
  interlock : t.interlock = s.interlock.permitted t.runConditions.met

theorem permissionFollowed_updatePermission (s : State) : PermissionFollowed s (updatePermission s) := by
  have hc := updatePermission_core s
  have hr := @feederReasons_updatePermission s
  have hi := interlock_updatePermission_permitted s
  rw [← runConditions_updatePermission] at hi
  obtain ⟨_, _, _, _, _, e⟩ := updatePermission_frame s
  generalize updatePermission s = t at *
  exact ⟨by rw [e], by rw [e], by rw [e], hc, hr, hi⟩

theorem permissionFollowed_putAtm (s : State) (x : Atmosphere) : PermissionFollowed s (putAtm s x) := by
  have P := putAtm_put s x
  have hi : (putAtm s x).interlock = (putChamber s x).interlock.permitted (putAtm s x).runConditions.met := interlock_followed _
  rw [interlock_putChamber] at hi
  obtain ⟨-, -, hreasons, hcore, e⟩ := P
  generalize putAtm s x = t at *
  exact ⟨by rw [e], by rw [e], by rw [e], hcore, fun _ => hreasons, hi⟩

theorem PermissionFollowed.trans {s t u : State} (h₁ : PermissionFollowed s t) (h₂ : PermissionFollowed t u)
    (hr : u.runConditions = t.runConditions) : PermissionFollowed s u :=
  ⟨h₂.bays.trans h₁.bays, h₂.line.trans h₁.line, h₂.effect.trans h₁.effect, h₂.core.trans h₁.core, h₂.reasons ∘ h₁.reasons, by
    rw [h₂.interlock, h₁.interlock, hr, permitted_again]⟩

theorem PermissionFollowed.runFollows {s t : State} (h : PermissionFollowed s t) : RunFollows s t := runFollows_of_permitted h.interlock

/-! ### A level that may enter SAFE_HOLD (R147, R150) -/

/-- SAFE_HOLD entered by `h` where `holds`; `changed`: run permission has followed as well. -/
structure StopLevel (s t : State) (h : HoldCause) (holds changed : Bool) : Prop where
  mode : holds = true → t.line.mode = .safeHold
  kept : s.line.mode = .safeHold → t.line.cause = s.line.cause
  entered : holds = true → s.line.mode ≠ .safeHold → t.line.cause = some h ∧ BaysFollow s t ∧ RunFollows s t ∧ t.FeederReasons
  run : changed = true → RunFollows s t

theorem runFollows_of_entered {s u t : State} {h : HoldCause} (T : ModeSet s u .safeHold (some h)) (F : PermissionFollowed u t) :
    RunFollows s t := by
  have hu := T.unmet nofun nofun
  have ht : t.runConditions.met = false := by
    have hmode : t.runConditions.mode = false := by
      rw [Bool.eq_false_iff, Ne, runConditions_mode_iff, F.line, T.line]
      exact not_or.2 ⟨nofun, nofun⟩
    rw [RunConditions.met, hmode]
    simp
  refine runFollows_of_permitted ?_
  rw [F.interlock, T.interlock, hu, ht, permitted_again]

/-- SAFE_HOLD entered or not, and what follows from it. -/
theorem stopLevel_of {s u t : State} {h : HoldCause} {holds changed : Bool} (hu : u = if holds then enterSafeHold s h else s)
    (hsame : changed = false → t = u) (F : changed = true → PermissionFollowed u t) : StopLevel s t h holds changed := by
  have hline : t.line = u.line := by
    cases changed with
    | false => rw [hsame rfl]
    | true => exact (F rfl).line
  by_cases hy : holds = true ∧ s.line.mode ≠ .safeHold
  · obtain ⟨hh, hm⟩ := hy
    rw [if_pos hh, enterSafeHold, if_neg hm] at hu
    have T := setLineMode_set s .safeHold (some h)
    rw [← hu] at T
    have hrun : changed = true → RunFollows s t := fun hc => runFollows_of_entered T (F hc)
    refine ⟨fun _ => by rw [hline, T.line], fun he => absurd he hm, fun _ _ => ?_, hrun⟩
    refine ⟨by rw [hline, T.line], ?_⟩
    cases changed with
    | false =>
      rw [hsame rfl]
      exact ⟨T.baysFollow, T.reached.run, T.reasons⟩
    | true =>
      have G := F rfl
      exact ⟨T.baysFollow.congr rfl rfl G.bays (by rw [hline]) G.effect (by rw [hline]), hrun rfl, G.reasons T.reasons⟩
  · have hs : u = s := by
      rw [hu]
      split_ifs with hh
      · exact if_pos (not_not.1 fun hm => hy ⟨hh, hm⟩)
      · rfl
    subst hs
    exact ⟨fun hh => by rw [hline]; exact not_not.1 fun hm => hy ⟨hh, hm⟩, fun _ => by rw [hline], fun hh hm => absurd ⟨hh, hm⟩ hy,
      fun hc => (F hc).runFollows⟩

theorem estopTaken_stops (s : State) (active changed : Bool) : StopLevel s (estopTaken s active changed) .estop active changed := by
  refine stopLevel_of (u := if active then enterSafeHold s .estop else s) rfl ?_ ?_
  · rintro rfl
    rfl
  · rintro rfl
    exact permissionFollowed_updatePermission _

/-- The door's level holds the line where it is open outside MAINTENANCE (R147). -/
def State.doorHolds (s : State) (closed : Bool) : Bool := !closed && s.line.mode ≠ .maintenance

/-- What the door's level leaves. -/
structure DoorLevel (s t : State) (closed changed : Bool) : Prop where
  stops : StopLevel s t .door (s.doorHolds closed) changed
  reasons : changed = true → t.FeederReasons
  atm : changed = true → t.atm = withValve s (if closed then s.atm else s.atm.doorOpens)

theorem doorTaken_stops (s : State) (closed changed : Bool) : DoorLevel s (doorTaken s closed changed) closed changed := by
  let u := if s.doorHolds closed then enterSafeHold s .door else s
  have hdef : doorTaken s closed changed = if changed then updatePermission (doorChange u closed) else u := rfl
  have hu : SameSources s u := by
    change SameSources s (if s.doorHolds closed then enterSafeHold s .door else s)
    split
    · exact sameSources_enterSafeHold s .door
    · exact ⟨rfl, rfl, rfl⟩
  rw [hdef]
  refine ⟨stopLevel_of (u := u) rfl ?_ ?_, ?_, ?_⟩
  · rintro rfl
    rfl
  · rintro rfl
    exact (permissionFollowed_putAtm u _).trans (permissionFollowed_updatePermission _) (runConditions_updatePermission _)
  · rintro rfl
    exact feederReasons_updatePermission (putAtm_put u _).reasons
  · rintro rfl
    have hatm : (updatePermission (doorChange u closed)).atm = (doorChange u closed).atm := (sameSources_updatePermission _).atm
    have hdoor : u.doorClosed = s.doorClosed := by simp only [State.doorClosed, State.level, hu.inputs]
    refine hatm.trans ((putAtm_put u _).atm.trans ?_)
    simp only [withValve, hu.atm, hu.effect, hdoor]

/-! ### The chamber at the door (R128) -/

theorem valveFor_open (st : AtmState) (boost : Bool) : valveFor st false boost = .closed := rfl

theorem doorOpens_kept {x : Atmosphere} (h : x.state = .air ∨ x.state = .fault) : x.doorOpens = x := by
  obtain h | h := h
  · simp only [Atmosphere.doorOpens, h]
  · simp only [Atmosphere.doorOpens, h]

theorem doorOpens_air {x : Atmosphere} (ha : x.state ≠ .air) (hf : x.state ≠ .fault) :
    x.doorOpens = { x with state := .air, settled := false, maxPurge := none, settle := none } := by
  cases hs : x.state with
  | air => exact absurd hs ha
  | fault => exact absurd hs hf
  | purging => simp only [Atmosphere.doorOpens, hs]
  | inert => simp only [Atmosphere.doorOpens, hs]
  | drift => simp only [Atmosphere.doorOpens, hs]
  | breach => simp only [Atmosphere.doorOpens, hs]

/-! ### COOLING at the bays (R150) -/

theorem baysFollow_syncHolds (s : State) : BaysFollow s (syncHolds s) := by
  have S := synced_syncHolds s
  obtain ⟨_, _, e⟩ := baysLinkOnly_syncHolds s
  generalize syncHolds s = t at *
  have hline : t.line = s.line := by rw [e]
  have heff : t.effect = s.effect := by rw [e]
  have hcool : t.coolingOk = s.coolingOk := by simp only [State.coolingOk, State.level, hline]
  refine baysFollow_of fun b => ⟨(S b).follows, ?_⟩
  rw [(S b).holds, hline, heff, hcool, holdsFrom_eq]
  rfl

/-! ### A pass (R139 to R141) -/

/-- A pass that finds the event of its pack free ends the feed (R139, R155). -/
theorem finishFed_taken {s : State} {n : Tag} {p : Pack} (late : Bool) (hp : s.pack n = some p) (hf : p.state = .feeding)
    (ht : s.takesEvents 2) : finishFeed s (.fed n late)
      = reportEmpty s (endFeed (exitPack (putFeeder s { s.feeder with gate := false, feedTimer := none }) p .fed late)) := by
  obtain ⟨hr, hh, hb⟩ := ht
  let k := putFeeder s { s.feeder with gate := false, feedTimer := none }
  obtain ⟨x, l, hk⟩ : ∃ x l, k = { s with feeder := x, link := l } := ⟨_, _, putFeeder_eq s _⟩
  have hkp : k.pack n = some p := by
    rw [hk]
    exact hp
  have he : applyEvent k (.fed n late) = (exitPack k p .fed late, .continued) := by
    simp only [applyEvent, takeFed, hkp, hf, Option.filter_some, decide_true, if_true]
  have hfits : (applyEvent k (.fed n late)).1.fits = true := by
    have hlen := length_exitPack k p .fed late
    have hkb : k.writer.buffer = s.writer.buffer := by rw [hk]
    rw [he, fits_iff]
    rw [hkb] at hlen
    exact hlen.trans hb
  have hs := submit_taken (s := k) (by rw [hk]; exact hr) (by rw [hk]; exact hh) hfits
  rw [he] at hs
  unfold finishFeed
  dsimp only
  change (match submit k (.fed n late) with
    | (s₂, some _) => afterFeedEvent s s₂
    | (s₂, none) => s₂) = _
  rw [hs]
  rfl

theorem passEvent_feeding {s : State} {n : Tag} (hs : s.feeder.state = .feeding) (hn : s.feeder.tag = some n) (hw : s.feederWaits = false) :
    passEvent s = finishFeed s (.fed n false) := by
  unfold passEvent
  dsimp only
  rw [hs, hn]
  exact if_neg (by simp [hw])

theorem passEvent_jammed {s : State} {n : Tag} (hs : s.feeder.state = .jammed) (hn : s.feeder.tag = some n) (hw : s.feederWaits = false) :
    passEvent s = finishFeed s (.fed n true) := by
  unfold passEvent
  dsimp only
  rw [hs, hn]
  exact if_neg (by simp [hw])

theorem passEvent_fed {s : State} {n : Tag} {p : Pack} (hs : s.feeder.state = .feeding ∨ s.feeder.state = .jammed)
    (hn : s.feeder.tag = some n) (hw : s.feederWaits = false) (hp : s.pack n = some p) (hf : p.state = .feeding) (ht : s.takesEvents 2) :
    passEvent s = reportEmpty s (endFeed (exitPack (putFeeder s { s.feeder with gate := false, feedTimer := none }) p .fed
      (s.feeder.state = .jammed))) := by
  obtain hs | hs := hs
  · have hlate : decide (s.feeder.state = .jammed) = false := by rw [hs]; rfl
    rw [passEvent_feeding hs hn hw, finishFed_taken false hp hf ht, hlate]
  · have hlate : decide (s.feeder.state = .jammed) = true := by rw [hs]; rfl
    rw [passEvent_jammed hs hn hw, finishFed_taken true hp hf ht, hlate]

theorem feeder_stray {s : State} (hs : s.feeder.state = .blocked ∨ s.feeder.state = .ready) :
    (passEvent s).feeder = { s.feeder with strays := min 65535 (s.feeder.strays + 1) } := by
  obtain hs | hs := hs
  · simp only [passEvent, hs]
    rfl
  · simp only [passEvent, hs]
    rfl

end Sys2Proof.Machine
end

section
/-! The discrete inputs (O55), continued. -/

namespace Sys2Proof.Machine

/-! ### A raw level (R149) -/

theorem put_get (x : Inputs) (i : InputId) : x.put i (x.get i) = x := by cases i <;> rfl

theorem rawChange_same {s : State} {i : InputId} {v : Bool} (h : (s.line.inputs.get i).raw = v) : rawChange s i v = s := by
  have hc : (s.line.inputs.get i).change v = s.line.inputs.get i := if_pos h
  unfold rawChange
  dsimp only
  rw [hc, put_get]

theorem rawChange_new {s : State} {i : InputId} {v : Bool} (h : (s.line.inputs.get i).raw ≠ v) : rawChange s i v = { s with
    line := { s.line with inputs := s.line.inputs.put i { s.line.inputs.get i with
      raw := v, debounce := if (s.line.inputs.get i).cond = some v then none else some 20 } } } := by
  have hc : (s.line.inputs.get i).change v = { s.line.inputs.get i with
      raw := v, debounce := if (s.line.inputs.get i).cond = some v then none else some 20 } := if_neg h
  unfold rawChange
  dsimp only
  rw [hc]

/-! ### A conditioning (R149, R150) -/

theorem conditioned_runs {s : State} {i : InputId} (h : (s.line.inputs.get i).debounce.isSome = true) : conditioned s i
    = inputTaken (s.conditionedAt i) i (s.line.inputs.get i).raw (decide (s.level i ≠ (s.line.inputs.get i).raw)) := by
  unfold conditioned
  dsimp only
  rw [if_pos h]
  rfl

/-- The input at its raw level, nothing else. -/
def State.withConditioned (s : State) (i : InputId) : State := { s with
  line := { s.line with inputs := s.line.inputs.put i { s.line.inputs.get i with
    cond := some (s.line.inputs.get i).raw, debounce := none } } }

theorem conditionedAt_same {s : State} {i : InputId} (h : s.level i = (s.line.inputs.get i).raw) :
    s.conditionedAt i = s.withConditioned i := by
  unfold State.conditionedAt State.markIf
  dsimp only
  rw [if_neg (by simpa using h)]
  rfl

theorem conditionedAt_changed {s : State} {i : InputId} (h : s.level i ≠ (s.line.inputs.get i).raw) :
    s.conditionedAt i = (s.withConditioned i).mark .line := by
  unfold State.conditionedAt State.markIf
  dsimp only
  rw [if_pos (decide_eq_true h)]
  rfl

@[simp] theorem inputTaken_core (s : State) (i : InputId) (v changed : Bool) : (inputTaken s i v changed).core = s.core := by
  cases i with
  | estop =>
    change (estopTaken s v changed).core = _
    unfold estopTaken
    split_ifs <;> simp
  | doorClosed =>
    change (doorTaken s v changed).core = _
    unfold doorTaken
    split_ifs <;> simp
  | coolingOk => cases changed <;> simp [inputTaken]
  | shredRunning => cases changed <;> simp [inputTaken]
  | packPassed => cases changed <;> cases v <;> simp [inputTaken]

theorem pending_mark_line {x : Link} (h : x.subscribed.getLsbD 5 = true) : (x.mark .line).noticePending.getLsbD 5 = true := by
  change (x.noticePending ||| (0x20#7 &&& x.subscribed)).getLsbD 5 = true
  rw [BitVec.getLsbD_or, BitVec.getLsbD_and, h]
  exact Bool.or_true _

theorem awaiting_conditionedAt (s : State) (i : InputId) (b : BayId) : (s.conditionedAt i).awaiting b = s.awaiting b := by
  obtain ⟨l, e⟩ := conditionedAt_eq s i
  rw [e]
  rfl

/-- Settles O55. -/
theorem inputsConditioned : Obligations.InputsConditioned := by
  intro s i v x put
  refine ⟨fun h => congrArg _ (rawChange_same h), fun h hc => congrArg _ ((rawChange_new h).trans ?_),
    fun h hc => congrArg _ ((rawChange_new h).trans ?_), fun hr hd hl he hdoor => ?_, fun hr hd => ?_⟩
  · rw [if_pos hc]
  · rw [if_neg hc]
  · have hsame : conditioned s i = s.withConditioned i := by
      rw [conditioned_runs hd, conditionedAt_same hl, decide_eq_false (not_not.2 hl)]
      cases i with
      | estop => exact absurd rfl he
      | doorClosed => exact absurd rfl hdoor
      | coolingOk => rfl
      | shredRunning => rfl
      | packPassed => rfl
    have hout := live_out hr (fun s => finish s (conditioned s i))
    rw [hsame] at hout
    exact hout
  · let c := s.conditionedAt i
    let changed := decide (s.level i ≠ x.raw)
    let t := inputTaken c i x.raw changed
    have hout : exec (.inputConditioned i) s = .next (finish s t) := by
      rw [show t = conditioned s i from (conditioned_runs hd).symm]
      exact live_out hr (fun s => finish s (conditioned s i))
    have hcore : t.core = c.core := inputTaken_core c i x.raw changed
    have hpending : StaysPending c t := staysPending_inputTaken c i x.raw changed
    have hlevel : t.level i = x.raw := by
      have hi : t.line.inputs = c.line.inputs := congrArg Core.inputs hcore
      rw [State.level, hi]
      exact level_conditionedAt s i
    obtain ⟨l, hc⟩ : ∃ l, c = { s with line := { s.line with inputs := s.line.inputs.put i { x with cond := some x.raw, debounce := none } }
                                       link := l } := conditionedAt_eq s i
    have hbays : s.bays = c.bays := by rw [hc]
    have hheld : s.held = c.held := by rw [hc]
    have hinterlock : s.interlock = c.interlock := by rw [hc]
    have hmode : s.line.mode = c.line.mode := by rw [hc]
    have hcause : s.line.cause = c.line.cause := by rw [hc]
    have hatm : s.atm = c.atm := by rw [hc]
    have heffect : s.effect = c.effect := by rw [hc]
    have hbaysFollow (h : BaysFollow c t) : BaysFollow s t := h.congr hbays hheld rfl rfl rfl rfl
    have hrunFollows (h : RunFollows c t) : RunFollows s t := h.congr hinterlock rfl rfl
    have hchanged (h : s.level i ≠ x.raw) : changed = true := decide_eq_true h
    have hestop (hi : i = .estop) : StopLevel c t .estop x.raw changed := by
      subst hi
      exact estopTaken_stops c x.raw changed
    have hdoor (hi : i = .doorClosed) : DoorLevel c t x.raw changed := by
      subst hi
      exact doorTaken_stops c x.raw changed
    have hdoorLevel {o : Bool} (hi : i = .doorClosed) (ho : x.raw = o) : c.doorClosed = o := by
      have h : c.level i = x.raw := level_conditionedAt s i
      rw [hi] at h
      exact h.trans ho
    have hdoorHolds (ho : x.raw = false) (hm : s.line.mode ≠ .maintenance) : c.doorHolds x.raw = true := by
      rw [hmode] at hm
      simp [State.doorHolds, ho, hm]
    refine ⟨t, hout, hlevel, fun hne hsub => hpending 5 ?_, fun hi ha => (hestop hi).mode ha,
      fun hi ho hm => (hdoor hi).stops.mode (hdoorHolds ho hm), ?_, ?_, fun hi hne => (hdoor hi).reasons (hchanged hne), ?_, ?_, ?_, ?_, ?_,
      ?_, ?_, ?_, ?_⟩
    · change (s.conditionedAt i).link.noticePending.getLsbD 5 = true
      rw [conditionedAt_changed hne]
      exact pending_mark_line hsub
    · intro h hh
      have L : StopLevel c t h true changed := by
        obtain ⟨hi, ha, rfl⟩ | ⟨hi, ho, hm, rfl⟩ := hh
        · exact ha ▸ hestop hi
        · have D := (hdoor hi).stops
          rwa [hdoorHolds ho hm] at D
      rw [hmode, hcause]
      refine ⟨L.kept, fun hm => ?_⟩
      obtain ⟨hcause, hb, hr, hf⟩ := L.entered rfl hm
      exact ⟨hcause, hbaysFollow hb, hrunFollows hr, hf⟩
    · rintro (hi | hi) hne
      · exact hrunFollows ((hestop hi).run (hchanged hne))
      · exact hrunFollows ((hdoor hi).stops.run (hchanged hne))
    · intro hi hne ho
      have hraw : c.doorClosed = false := hdoorLevel hi ho
      have ha := (hdoor hi).atm (hchanged hne)
      rw [ho, if_neg Bool.false_ne_true, withValve, hraw, valveFor_open] at ha
      rw [hatm]
      exact ⟨fun hs => by rw [ha, doorOpens_kept hs], fun h₁ h₂ => by rw [ha, doorOpens_air h₁ h₂]⟩
    · intro hi hne ho
      have hraw : c.doorClosed = true := hdoorLevel hi ho
      have ha := (hdoor hi).atm (hchanged hne)
      rw [ho, if_pos rfl, withValve, hraw] at ha
      rw [hatm, heffect]
      exact ha
    · intro hi hne
      have ht : t = syncHolds c := by
        change inputTaken c i x.raw changed = _
        rw [hchanged hne, hi]
        rfl
      refine hbaysFollow ?_
      rw [ht]
      exact baysFollow_syncHolds c
    · intro hi ho hl hs
      have hfeeder : s.feeder = c.feeder := by rw [hc]
      have ht : t = passEvent c := by
        change inputTaken c i x.raw changed = _
        rw [hchanged (by rw [hl, ho]; exact Bool.false_ne_true), ho, hi]
        rfl
      rw [ht, hfeeder]
      rw [hfeeder] at hs
      exact feeder_stray hs
    · intro n p hi ho hl hs hn hw hp hf hev j k
      have hne : s.level i ≠ x.raw := by
        rw [hl, ho]
        exact Bool.false_ne_true
      have hj : c = j := by
        change s.conditionedAt i = State.mark (put { x with cond := some true, debounce := none }) .line
        rw [conditionedAt_changed hne, ← ho]
        rfl
      have ht : t = passEvent j := by
        change inputTaken c i x.raw changed = _
        rw [hchanged hne, ho, hj, hi]
        rfl
      rw [ht]
      exact passEvent_fed (s := j) hs hn hw hp hf hev
    · exact (congrArg Core.nv hcore).trans (by rw [hc]; rfl)
    · exact (congrArg Core.clock hcore).trans (by rw [hc]; rfl)
    · exact (congrArg Core.cells hcore).trans (by rw [hc]; rfl)
    · exact (congrArg Core.classes hcore).trans (by rw [hc]; rfl)

end Sys2Proof.Machine
end

section
/-! What a loop sends (O48). -/

namespace Sys2Proof.Machine

theorem linkKept_putLoop (s : State) (l : LoopId) (x : Loop) : LinkKept s (putLoop s l x) := by
  unfold putLoop
  dsimp only
  rw [markIf_eq]
  unfold State.markIf
  cases l <;> split <;> rfl

theorem linkKept_answerTests (s : State) (l : LoopId) (start : Bool) (r : Reply) : LinkKept s (answerTests s l start r) := rfl

/-! ### The first frame due (R70, R81) -/

section GapExpiry

variable {s : State} {l : LoopId} (h : s.inReset = false) (hx : (s.loop l).state = .idle ∧ (s.loop l).sending = none)
include h hx

theorem exec_loopGapExpiry (free : Bool) : exec (.loopGapExpiry l free) s
    = .next (finish s (putLoop s l (if free then (s.loop l).begin else { s.loop l with gap := none }))) := by
  have hdef : gapExpired s l free = putLoop s l (if free then (s.loop l).begin else { s.loop l with gap := none }) := by
    unfold gapExpired
    dsimp only
    rw [hx.1, hx.2]
    rfl
  rw [← hdef]
  exact live_out h (fun s => finish s (gapExpired s l free))

end GapExpiry

theorem begin_broadcast {x : Loop} {b : Broadcast} {r : List Broadcast} (h : x.waiting = b :: r) :
    x.begin = { x with sending := some (.broadcast b), gap := none } := by
  unfold Loop.begin
  rw [h]

theorem begin_poll {x : Loop} {a : HeadAddr} (h : x.waiting = []) (ha : x.cursor = some a) :
    x.begin = { x with state := .polling, sending := some (.poll a), polled := some a, gap := none } := by
  unfold Loop.begin
  rw [h, ha]

theorem begin_none {x : Loop} (h : x.waiting = []) (ha : x.cursor = none) : x.begin = { x with gap := none } := by
  unfold Loop.begin
  rw [h, ha]

/-! ### A broadcast sent (R72, R81 to R83) -/

/-- A broadcast's reply: what the LOOP_TESTs that waited for it are answered (R82). -/
def broadcastAnswered (l : LoopId) (b : Broadcast) (e : Entry) : Entry :=
  match b with
  | .resync => e
  | .testStart => if e.stage = .waiting (.broadcast l true) then e.form ⟨.ok, .window true⟩ else e
  | .testEnd => if e.stage = .waiting (.broadcast l false) then e.form ⟨.ok, .window false⟩ else e

theorem broadcastDone_eq (s : State) (l : LoopId) (b : Broadcast) :
    let u := putLoop s l ((s.loop l).broadcast b)
    broadcastDone s l b = { u with link := { u.link with queue := u.link.queue.map (broadcastAnswered l b) } } := by
  intro u
  cases b with
  | resync =>
    have hmap : u.link.queue.map (broadcastAnswered l .resync) = u.link.queue := List.map_id _
    rw [hmap]
    rfl
  | testStart => rfl
  | testEnd => rfl

theorem lowest_congr {x y : Loop} (h : y.heads = x.heads) : y.lowest = x.lowest := by simp only [Loop.lowest, Loop.enrolled, h]

/-- Settles O48. -/
theorem loopSends : Obligations.LoopSends := by
  intro s l h x moved idle
  refine ⟨fun b r hi hw => ?_, fun a hi hw ha => ?_, fun hi hw ha => ?_, fun hi => exec_loopGapExpiry h hi false, fun hx => ?_,
    fun a ha => ?_, fun b hb => ?_⟩
  · refine (exec_loopGapExpiry h hi true).trans ?_
    rw [if_pos rfl, begin_broadcast hw]
  · refine (exec_loopGapExpiry h hi true).trans ?_
    rw [if_pos rfl, begin_poll hw ha]
  · refine (exec_loopGapExpiry h hi true).trans ?_
    rw [if_pos rfl, begin_none hw ha]
  · have hdef : headSeizes s l = putLoop s l x.seized := if_pos (by simpa using hx)
    have hout := live_out h (fun s => finish s (headSeizes s l))
    rw [hdef] at hout
    exact hout
  · have hdef : pollDone s l = putLoop s l { x with sending := none, answer := some 25 } := by
      unfold pollDone
      dsimp only
      rw [ha]
    have hout := live_out h (fun s => finish s (pollDone s l))
    rw [hdef] at hout
    exact hout
  · have hdef : broadcastOut s l = broadcastDone s l b := by
      unfold broadcastOut
      rw [hb]
    have hout := live_out h (fun s => finish s (broadcastOut s l))
    rw [hdef, broadcastDone_eq] at hout
    dsimp only at hout
    have hloop := loop_putLoop s l (x.broadcast b)
    have hother := otherLoop_putLoop s l (x.broadcast b)
    have hqueue := queue_putLoop s l (x.broadcast b)
    have hlink := linkKept_putLoop s l (x.broadcast b)
    obtain ⟨y, z, k, hu⟩ := putLoop_frame s l (x.broadcast b)
    change exec (.broadcastSent l) s = .next (finish s { putLoop s l (x.broadcast b) with link := _ }) at hout
    generalize putLoop s l (x.broadcast b) = u at *
    let t : State := { u with link := { u.link with queue := u.link.queue.map (broadcastAnswered l b) } }
    have htu (k : LoopId) : t.loop k = u.loop k := by cases k <;> rfl
    have ht : t.loop l = x.broadcast b := (htu l).trans hloop
    refine ⟨t, hout, fun k hk => (htu k).trans (hother k hk), ?_, ?_, ?_, ?_, fun a h hs ha => ?_, fun hn => ?_, ?_, ?_, ?_⟩
    · rw [ht]
      cases b <;> rfl
    · rw [ht]
      cases b <;> rfl
    · rw [ht]
      cases b <;> rfl
    · rw [ht]
      cases b with
      | resync => exact lowest_congr rfl
      | testStart => rfl
      | testEnd => rfl
    · subst hs
      have hheads : (t.loop l).heads = untested x.heads := by rw [ht]; rfl
      rw [hheads]
      exact (Vector.getElem_ofFn _).trans (congrArg _ ha)
    · rw [ht]
      cases b with
      | resync => rfl
      | testStart => exact absurd rfl hn
      | testEnd => rfl
    · change u.link.queue.map (broadcastAnswered l b) = _
      rw [hqueue]
      cases b <;> rfl
    · exact LinkKept.trans hlink rfl
    · subst hu
      rfl

end Sys2Proof.Machine
end

section
/-! The frames of a polled head (O49). -/

namespace Sys2Proof.Machine

/-! ### What an escalation leaves of a zone (R93, R94) -/

/-- Each zone's settings, sparks, quench, suppression and alarms are as they were. -/
def EscalatedOnly (s t : State) : Prop := ∀ w, ∃ m p c r n f h, t.zone w = { s.zone w with
  main := m, preClear := p, cause := c, release := r, counts := n, fault := f, thermal := h }

theorem EscalatedOnly.refl (s : State) : EscalatedOnly s s := fun _ => ⟨_, _, _, _, _, _, _, rfl⟩

theorem EscalatedOnly.trans {s t u : State} (h₁ : EscalatedOnly s t) (h₂ : EscalatedOnly t u) : EscalatedOnly s u := fun w => by
  obtain ⟨_, _, _, _, _, _, _, e₁⟩ := h₁ w
  obtain ⟨_, _, _, _, _, _, _, e₂⟩ := h₂ w
  rw [e₁] at e₂
  exact ⟨_, _, _, _, _, _, _, e₂⟩

theorem escalatedOnly_of_zones {s t : State} (h : t.zones = s.zones) : EscalatedOnly s t := fun w => by
  rw [zone_of_zones h w]
  exact ⟨_, _, _, _, _, _, _, rfl⟩

theorem escalatedOnly_putZone {s : State} {z : ZoneId} {x : Zone} (h : ∃ m p c r n f h, x = { s.zone z with
    main := m, preClear := p, cause := c, release := r, counts := n, fault := f, thermal := h }) : EscalatedOnly s (putZone s z x) := by
  intro w
  by_cases hw : w = z
  · subst hw
    rw [zone_putZone]
    exact h
  · rw [otherZones_putZone s z x w hw]
    exact ⟨_, _, _, _, _, _, _, rfl⟩

theorem escalatedOnly_formEffects (s : State) : EscalatedOnly s (formEffects s) := escalatedOnly_of_zones (cells_formEffects s).2

theorem escalatedOnly_enterAlarm (s : State) (z : ZoneId) (c : Option AlarmCause) : EscalatedOnly s (enterAlarm s z c) := by
  let x := s.zone z
  let u := putZone s z { x with
    main := .alarm, preClear := none, cause := c
    release := if x.settings.releaseDelay = 0 then x.release else .running (1000 * x.settings.releaseDelay) }
  have hdef : enterAlarm s z c = (formEffects (incidentStep u z)).mark .zone := rfl
  have h : EscalatedOnly s (formEffects (incidentStep u z)) :=
    ((escalatedOnly_putZone ⟨_, _, _, _, _, _, _, rfl⟩).trans (escalatedOnly_of_zones (incidentStep_kept u z).1)).trans
      (escalatedOnly_formEffects _)
  rw [hdef]
  exact h

theorem escalatedOnly_evaluateZone (s : State) (z : ZoneId) (i : ZoneInput) (f : Bool) : EscalatedOnly s (evaluateZone s z i f) := by
  unfold evaluateZone
  dsimp only
  split
  · exact .refl s
  · exact .refl s
  · split_ifs
    · exact escalatedOnly_enterAlarm s z _
    · exact (escalatedOnly_putZone ⟨_, _, _, _, _, _, _, rfl⟩).trans (escalatedOnly_formEffects _)
    · exact .refl s
  · split_ifs
    · exact escalatedOnly_enterAlarm s z _
    · exact escalatedOnly_putZone ⟨_, _, _, _, _, _, _, rfl⟩
    · exact escalatedOnly_putZone ⟨_, _, _, _, _, _, _, rfl⟩

theorem escalatedOnly_refreshZone (s : State) (z : ZoneId) (i : ZoneInput) : EscalatedOnly s (refreshZone s z i) := by
  let u := putZone s z { s.zone z with counts := s.headCounts z, fault := s.zoneFault z, thermal := s.zoneThermal z }
  have hu : EscalatedOnly s u := escalatedOnly_putZone ⟨_, _, _, _, _, _, _, rfl⟩
  obtain ⟨hsame, hchanged⟩ := refreshZone_cases s z i
  by_cases h : (s.zone z).fault = s.zoneFault z
  · rw [hsame h]
    exact hu.trans (escalatedOnly_evaluateZone u z i false)
  · rw [hchanged h]
    exact (hu.trans (escalatedOnly_formEffects u)).trans (escalatedOnly_evaluateZone _ z i _)

/-! ### The counts and the fault mark, by the heads and the loops' shorts (R88, R89) -/

theorem headCounts_of_heads {s t : State} (h : ∀ l, (t.loop l).heads = (s.loop l).heads) (z : ZoneId) : t.headCounts z = s.headCounts z := by
  simp only [State.headCounts, State.countedHeads, State.zoneHeads, State.zoneHeadsOn, State.head, h]

theorem zoneFault_of_heads {s t : State} (h : ∀ l, (t.loop l).heads = (s.loop l).heads)
    (hs : ∀ l, (t.loop l).state = .short ↔ (s.loop l).state = .short) (z : ZoneId) : t.zoneFault z = s.zoneFault z := by
  simp only [State.zoneFault, headCounts_of_heads h, State.countedHeads, State.zoneHeads, State.zoneHeadsOn, State.head, h, hs]

/-- Zone `z` has the counts and the fault mark that the Head Table gives. -/
def State.zoneFollows (s : State) (z : ZoneId) : Prop := (s.zone z).counts = s.headCounts z ∧ (s.zone z).fault = s.zoneFault z

theorem zoneFollows_of_heads {s t : State} {z : ZoneId} (hz : t.zone z = s.zone z) (h : ∀ l, (t.loop l).heads = (s.loop l).heads)
    (hs : ∀ l, (t.loop l).state = .short ↔ (s.loop l).state = .short) (hf : s.zoneFollows z) : t.zoneFollows z := by
  unfold State.zoneFollows
  rw [hz, headCounts_of_heads h, zoneFault_of_heads h hs]
  exact hf

/-! ### The poll cursor (R72) -/

theorem nextAfter_congr {x y : Loop} (h : ∀ a : HeadAddr, (y.heads[a]).isSome = (x.heads[a]).isSome) (a : HeadAddr) :
    y.nextAfter a = x.nextAfter a := by
  simp only [Loop.nextAfter, Loop.lowest, Loop.enrolled, h]

theorem heads_vput_same (v : Vector (Option Head) 32) (a : HeadAddr) (x : Option Head) : (vput v a x)[a] = x := vput_same v a x

theorem heads_vput_other {v : Vector (Option Head) 32} {a b : HeadAddr} (h : b ≠ a) (x : Option Head) : (vput v a x)[b] = v[b] :=
  vput_other v a b x h

theorem isSome_vput_head {v : Vector (Option Head) 32} {a : HeadAddr} (h : (v[a]).isSome) (g : Head) (b : HeadAddr) :
    ((vput v a (some g))[b]).isSome = (v[b]).isSome := by
  by_cases hb : b = a
  · subst hb
    rw [heads_vput_same, h]
    rfl
  · rw [heads_vput_other hb]

/-! ### A changed entry goes to its zone (R84) -/

/-- The entry at `a` on loop `l`, which was `o`, has become `h`, and its zone has taken a changed level. -/
structure EntryTaken (l : LoopId) (a : HeadAddr) (o h : Head) (s t : State) : Prop where
  loop : t.loop l = { s.loop l with heads := vput (s.loop l).heads a (some h) }
  other : OtherLoop l s t
  follows : o.level ≠ h.level → h.isolated = false → t.zoneFollows h.zone
  same : o.level = h.level ∨ h.isolated = true → t.zones = s.zones ∧ t.packs = s.packs
  zones : EscalatedOnly s t

theorem handHead_taken (s : State) (l : LoopId) (a : HeadAddr) (o h : Head) : EntryTaken l a o h s (handHead s l a o h) := by
  let u := putHead s l a (some h)
  have hloop := loop_putHead s l a (some h)
  have hother := otherLoop_putHead s l a (some h)
  obtain ⟨x, y, k, hu⟩ : ∃ x y k, u = { s with loopA := x, loopB := y, link := k } := putHead_frame s l a (some h)
  have hz : u.zones = s.zones := by rw [hu]
  have hp : u.packs = s.packs := by rw [hu]
  have hdef : handHead s l a o h = if o.level ≠ h.level && !h.isolated then refreshZone u h.zone (.head l a) else u := rfl
  by_cases hc : o.level ≠ h.level ∧ h.isolated = false
  · have R := refreshZone_refreshed u h.zone (.head l a)
    rw [hdef, if_pos (by simpa using hc)]
    exact ⟨(loop_of_core R.core l).trans hloop, fun k hk => (loop_of_core R.core k).trans (hother k hk), fun _ _ => R.follows,
      fun hn => absurd hc (by rintro ⟨h₁, h₂⟩; exact hn.elim h₁ (by simp [h₂])),
      (escalatedOnly_of_zones hz).trans (escalatedOnly_refreshZone u h.zone _)⟩
  · rw [hdef, if_neg (by simpa using hc)]
    exact ⟨hloop, hother, fun h₁ h₂ => absurd ⟨h₁, h₂⟩ hc, fun _ => ⟨hz, hp⟩, escalatedOnly_of_zones hz⟩

/-! ### The end of an exchange (R72 to R74) -/

/-- The entry taken, the controller ends the exchange as `x`. -/
theorem EntryTaken.ended {l : LoopId} {a : HeadAddr} {o h : Head} {s t : State} (T : EntryTaken l a o h s t) {x : Loop}
    (hx : x.heads = (t.loop l).heads) :
    (putLoop t l x).head l a = some h ∧ (∀ b, b ≠ a → (putLoop t l x).head l b = s.head l b) ∧ OtherLoop l s (putLoop t l x)
    ∧ (putLoop t l x).loop l = x := by
  have hl := loop_putLoop t l x
  have hheads : ((putLoop t l x).loop l).heads = vput (s.loop l).heads a (some h) := by
    rw [hl, hx, T.loop]
  refine ⟨?_, fun b hb => ?_, fun k hk => (otherLoop_putLoop t l x k hk).trans (T.other k hk), hl⟩
  · rw [State.head, hheads, heads_vput_same]
  · rw [State.head, hheads, heads_vput_other hb]
    rfl

/-- A zone that followed does so still, where no loop has gone SHORT or come back. -/
theorem zoneFollows_putLoop {t : State} {l : LoopId} {x : Loop} {z : ZoneId} (hx : x.heads = (t.loop l).heads)
    (hs : x.state = .short ↔ (t.loop l).state = .short) (h : t.zoneFollows z) : (putLoop t l x).zoneFollows z := by
  have hl := loop_putLoop t l x
  have ho := otherLoop_putLoop t l x
  obtain ⟨y, w, k, e⟩ := putLoop_frame t l x
  generalize putLoop t l x = u at *
  refine zoneFollows_of_heads (zone_of_zones (by rw [e]) z) (fun k => ?_) (fun k => ?_) h
  · by_cases hk : k = l
    · rw [hk, hl, hx]
    · rw [ho k hk]
  · by_cases hk : k = l
    · rw [hk, hl, hs]
    · rw [ho k hk]

/-- The polled head's exchange ends: the cursor moves on (R72 to R74). -/
theorem polledDone_eq {x : Loop} (ho : x.orphan = false) {a : HeadAddr} (hh : (x.heads[a]).isSome) (g : Head) :
    let y : Loop := { x with heads := vput x.heads a (some g) }
    y.polledDone a = { x with
      state := .idle, gap := some 5, sending := none, polled := none, answer := none, cursor := x.nextAfter a
      heads := vput x.heads a (some g) } := by
  intro y
  have hn : y.nextAfter a = x.nextAfter a := nextAfter_congr (isSome_vput_head hh g) a
  have hc : (if y.orphan then y.cursor else y.nextAfter a) = x.nextAfter a := by
    rw [if_neg (by simp [y, ho]), hn]
  unfold Loop.polledDone
  dsimp only
  rw [hc]
  simp only [Loop.toGap, y, ho]

end Sys2Proof.Machine
end

section
/-! The frames of a polled head (O49), continued. -/

namespace Sys2Proof.Machine

/-! ### A frame that is not taken (R69, R70, R76) -/

theorem badFrame_counted {x : Loop} (h : x.state = .idle ∨ x.state = .polling) :
    x.badFrame = { x with frameErrors := min 65535 (x.frameErrors + 1) } := by
  obtain h | h := h
  · simp only [Loop.badFrame, h]
    rw [← h]
    rfl
  · simp only [Loop.badFrame, h]
    rw [← h]
    rfl

theorem badFrame_receiving {x : Loop} (h : x.state = .receiving) : x.badFrame = { x with
    frameErrors := min 65535 (x.frameErrors + 1), state := .idle, gap := some 5, sending := none, polled := none, answer := none
    orphan := false, ack := some false } := by
  simp only [Loop.badFrame, h]
  rfl

theorem badFrame_short {x : Loop} (h : x.state = .short) : x.badFrame = x := by
  simp only [Loop.badFrame, h]

theorem polledDone_quiet (x : Loop) (a : HeadAddr) : x.polledDone a = { x with
    state := .idle, gap := some 5, sending := none, polled := none, answer := none, orphan := false
    cursor := if x.orphan = true then x.cursor else x.nextAfter a } := rfl

/-! ### An ANSWER and a window that runs out (R72 to R74) -/

section Window

variable {s : State} {l : LoopId} {a : HeadAddr} {lv : FrameLevel} {v : Int} {test : Bool}

theorem expects_iff {x : Loop} : x.expects a = true ↔ x.state = .polling ∧ x.answer.isSome = true ∧ x.polled = some a := by
  rw [Loop.expects, Bool.and_eq_true, Bool.and_eq_true, decide_eq_true_eq, decide_eq_true_eq, and_assoc]

theorem answerIn_lost (h : ¬(s.loop l).expects a = true) : answerIn s l a lv v test = frameLost s l := if_neg h

theorem answerIn_done (h : (s.loop l).expects a = true) (ho : (s.loop l).orphan = true ∨ (s.loop l).heads[a] = none) :
    answerIn s l a lv v test = putLoop s l ((s.loop l).polledDone a) := by
  unfold answerIn
  dsimp only
  rw [if_pos h]
  split
  · next g hg =>
    have horphan : (s.loop l).orphan = true := ho.resolve_right fun hn => nomatch hg.symm.trans hn
    rw [if_pos horphan]
  · rfl

theorem answerIn_taken {h : Head} (he : (s.loop l).expects a = true) (ho : (s.loop l).orphan = false) (hh : s.head l a = some h)
    (hv : valueOk h.kind v = true) :
    let g := h.heard ((s.loop l).marked test) lv v
    answerIn s l a lv v test = putLoop (handHead s l a h g) l (((handHead s l a h g).loop l).polledDone a) := by
  intro g
  unfold answerIn
  dsimp only
  rw [if_pos he, hh]
  dsimp only
  rw [if_neg (by simp [ho]), if_pos hv]
  rfl

theorem answerIn_range {h : Head} (he : (s.loop l).expects a = true) (ho : (s.loop l).orphan = false) (hh : s.head l a = some h)
    (hv : valueOk h.kind v = false) : answerIn s l a lv v test = frameLost s l := by
  unfold answerIn
  dsimp only
  rw [if_pos he, hh]
  dsimp only
  rw [if_neg (by simp [ho]), if_neg (by simp [hv])]

theorem windowOut_done (h : (s.loop l).expects a = true) (ho : (s.loop l).orphan = true ∨ (s.loop l).heads[a] = none) :
    windowOut s l = putLoop s l ((s.loop l).polledDone a) := by
  unfold windowOut
  dsimp only
  rw [(expects_iff.1 h).2.2]
  dsimp only
  rw [if_pos h]
  split
  · next g hg =>
    have horphan : (s.loop l).orphan = true := ho.resolve_right fun hn => nomatch hg.symm.trans hn
    rw [if_pos horphan]
  · rfl

theorem windowOut_missed {h : Head} (he : (s.loop l).expects a = true) (ho : (s.loop l).orphan = false) (hh : s.head l a = some h) :
    windowOut s l = putLoop (handHead s l a h h.miss) l (((handHead s l a h h.miss).loop l).polledDone a) := by
  unfold windowOut
  dsimp only
  rw [(expects_iff.1 he).2.2]
  dsimp only
  rw [if_pos he, hh]
  dsimp only
  rw [if_neg (by simp [ho])]

end Window

theorem miss_eq (h : Head) :
    h.miss = if 2 ≤ h.missed then { h with missed := 3, level := .missing } else { h with missed := h.missed + 1 } := by
  unfold Head.miss
  dsimp only
  by_cases hm : 2 ≤ h.missed
  · have hn : satAdd 3 h.missed 1 = 3 := Nat.min_eq_left (by omega)
    rw [if_pos hm, hn, if_pos rfl]
  · have hn : satAdd 3 h.missed 1 = h.missed + 1 := Nat.min_eq_right (by omega)
    rw [if_neg hm, hn, if_neg (by omega)]

theorem heard_eq (h : Head) (x : Loop) (test : Bool) (lv : FrameLevel) (v : Int) : h.heard (x.marked test) lv v
    = if test && x.testing then { h with tested := true, missed := 0 } else { h with level := frameLevel lv, value := v, missed := 0 } := rfl

theorem heard_zone (h : Head) (m : Bool) (lv : FrameLevel) (v : Int) : (h.heard m lv v).zone = h.zone ∧ (h.heard m lv v).isolated = h.isolated := by
  cases m <;> exact ⟨rfl, rfl⟩

theorem heard_level (h : Head) (m : Bool) (lv : FrameLevel) (v : Int) :
    (h.heard m lv v).level = if m = true then h.level else frameLevel lv := by
  cases m <;> rfl

/-- The frame of a head, or its miss, ends the exchange (R72 to R74). -/
structure PollEnded (l : LoopId) (a : HeadAddr) (o h : Head) (s t : State) : Prop where
  head : t.head l a = some h
  otherHeads : ∀ b, b ≠ a → t.head l b = s.head l b
  otherLoop : OtherLoop l s t
  loop : t.loop l = { s.loop l with
    state := .idle, gap := some 5, sending := none, polled := none, answer := none, cursor := (s.loop l).nextAfter a
    heads := (t.loop l).heads }
  follows : o.level ≠ h.level → h.isolated = false → t.zoneFollows h.zone
  same : o.level = h.level ∨ h.isolated = true → t.zones = s.zones ∧ t.packs = s.packs

theorem pollEnded_handHead {s : State} {l : LoopId} {a : HeadAddr} {o : Head} (h : Head) (he : (s.loop l).state = .polling)
    (ho : (s.loop l).orphan = false) (hh : s.head l a = some o) :
    PollEnded l a o h s (putLoop (handHead s l a o h) l (((handHead s l a o h).loop l).polledDone a)) := by
  have T := handHead_taken s l a o h
  generalize handHead s l a o h = t at *
  have hx : ((t.loop l).polledDone a).heads = (t.loop l).heads := rfl
  have hdone : (t.loop l).polledDone a = { s.loop l with
      state := .idle, gap := some 5, sending := none, polled := none, answer := none, cursor := (s.loop l).nextAfter a
      heads := vput (s.loop l).heads a (some h) } := by
    rw [T.loop]
    exact polledDone_eq ho (Option.isSome_of_eq_some hh) h
  have hshort : ((t.loop l).polledDone a).state = .short ↔ (t.loop l).state = .short := by
    rw [T.loop, he, polledDone_quiet]
    exact ⟨nofun, nofun⟩
  obtain ⟨hhead, hothers, hloop, hl⟩ := T.ended hx
  refine ⟨hhead, hothers, hloop, ?_, fun h₁ h₂ => zoneFollows_putLoop hx hshort (T.follows h₁ h₂), fun hs => ?_⟩
  · rw [hl, hdone]
  · obtain ⟨hz, hp⟩ := T.same hs
    obtain ⟨_, _, _, e⟩ := putLoop_frame t l ((t.loop l).polledDone a)
    rw [e]
    exact ⟨hz, hp⟩

/-- Settles O49. -/
theorem pollAnswered : Obligations.PollAnswered := by
  refine ⟨fun s l a h lv v test hr => ?_, fun s l a lv v test hr => ?_, fun v => ?_⟩
  · intro x hpoll hans hp ho hh
    have he : x.expects a = true := expects_iff.2 ⟨hpoll, hans, hp⟩
    have houtA := live_out hr (fun s => finish s (answerIn s l a lv v test))
    have houtW := live_out hr (fun s => finish s (windowOut s l))
    refine ⟨fun hv => ?_, ?_, fun hv => ?_⟩
    · let g := h.heard (x.marked test) lv v
      have P := pollEnded_handHead g hpoll ho hh
      obtain ⟨hz, hi⟩ := heard_zone h (x.marked test) lv v
      have hlevel := heard_level h (x.marked test) lv v
      rw [answerIn_taken he ho hh hv] at houtA
      refine ⟨_, houtA, P.head, P.otherHeads, P.otherLoop, P.loop, fun h₁ h₂ hm => ?_, fun hn => P.same ?_⟩
      · have hf := P.follows (by rw [hlevel, if_neg (show ¬x.marked test = true from Bool.eq_false_iff.1 hm)]; exact h₁) (hi.trans h₂)
        rwa [hz] at hf
      · obtain h₁ | h₂ | hm := hn
        · refine .inl ?_
          rw [hlevel]
          split_ifs
          · rfl
          · exact h₁
        · exact .inr (hi.trans h₂)
        · exact .inl (hlevel.trans (if_pos hm)).symm
    · have P := pollEnded_handHead h.miss hpoll ho hh
      have hz : h.miss.zone = h.zone := rfl
      have hi : h.miss.isolated = h.isolated := rfl
      rw [windowOut_missed he ho hh] at houtW
      refine ⟨_, houtW, P.head.trans (congrArg _ (miss_eq h)), P.otherHeads, P.otherLoop, P.loop, fun h₁ h₂ h₃ => ?_⟩
      have hlevel : h.miss.level = .missing := by rw [miss_eq, if_pos h₂]
      exact P.follows (by rw [hlevel]; exact h₁) h₃
    · rw [answerIn_range he ho hh hv, frameLost, badFrame_counted (.inr hpoll)] at houtA
      exact houtA
  · intro x n quiet expected moved
    have houtA := live_out hr (fun s => finish s (answerIn s l a lv v test))
    have houtW := live_out hr (fun s => finish s (windowOut s l))
    refine ⟨fun c hc he ho => ?_, fun he hs => ?_, fun he hs => ?_, fun he hs => ?_⟩
    · have he' : x.expects a = true := expects_iff.2 he
      rw [answerIn_done he' ho, polledDone_quiet] at houtA
      rw [windowOut_done he' ho, polledDone_quiet] at houtW
      obtain rfl | rfl := hc
      · exact houtA
      · exact houtW
    all_goals rw [answerIn_lost fun h => he (expects_iff.1 h), frameLost] at houtA
    · rw [badFrame_counted hs] at houtA
      exact houtA
    · rw [badFrame_receiving hs] at houtA
      exact houtA
    · rw [badFrame_short hs] at houtA
      exact houtA
  · simp [valueOk]

end Sys2Proof.Machine
end

section
/-! The REPORT of a head, and a frame that is not taken (O50). -/

namespace Sys2Proof.Machine

/-! ### Sparks (R95, R97) -/

/-- Each zone's counts and fault mark are as they were. -/
def CountsKept (s t : State) : Prop := ∀ w, (t.zone w).counts = (s.zone w).counts ∧ (t.zone w).fault = (s.zone w).fault

theorem Evaluated.countsKept {z : ZoneId} {s t : State} (h : Evaluated z s t) : CountsKept s t := fun w => by
  by_cases hw : w = z
  · rw [hw]
    exact ⟨h.counts, h.fault⟩
  · rw [h.others w hw]
    exact ⟨rfl, rfl⟩

/-- The zone's spark counter, its last spark head, its window and its quench are as they were. -/
def SparksKept (x y : Zone) : Prop :=
  y.sparks = x.sparks ∧ y.lastSpark = x.lastSpark ∧ y.window = x.window ∧ y.quench = x.quench ∧ y.quenchTimer = x.quenchTimer
  ∧ y.quenchCount = x.quenchCount

theorem EscalatedOnly.sparksKept {s t : State} (h : EscalatedOnly s t) (w : ZoneId) : SparksKept (s.zone w) (t.zone w) := by
  obtain ⟨_, _, _, _, _, _, _, e⟩ := h w
  rw [e]
  exact ⟨rfl, rfl, rfl, rfl, rfl, rfl⟩

/-- Zone `y` is `x` with `n` sparks more, from the head at `a` on loop `l`. -/
structure Sparked (l : LoopId) (a : HeadAddr) (n : Nat) (x y : Zone) : Prop where
  sparks : y.sparks = min 65535 (x.sparks + n)
  lastSpark : y.lastSpark = some (l, a)
  window : y.window = some (x.window.getD x.settings.window)
  quench : x.settings.quenchEnable = true →
    y.quench = true ∧ y.quenchTimer = some x.settings.quenchPulse ∧ y.quenchCount = min 65535 (x.quenchCount + 1)
  unquenched : x.settings.quenchEnable = false → y.quench = x.quench ∧ y.quenchTimer = x.quenchTimer ∧ y.quenchCount = x.quenchCount

theorem Sparked.kept {l : LoopId} {a : HeadAddr} {n : Nat} {x y z : Zone} (h : Sparked l a n x y) (k : SparksKept y z) : Sparked l a n x z := by
  obtain ⟨hs, hl, hw, hq, ht, hc⟩ := k
  refine ⟨hs.trans h.sparks, hl.trans h.lastSpark, hw.trans h.window, fun he => ?_, fun he => ?_⟩
  · rw [hq, ht, hc]
    exact h.quench he
  · rw [hq, ht, hc]
    exact h.unquenched he

/-- The zone once a spark report has been counted (R95, R97). -/
def sparkedZone (x : Zone) (l : LoopId) (a : HeadAddr) (n : Nat) : Zone :=
  Zone.pulse { x with sparks := satAdd 65535 x.sparks n, lastSpark := some (l, a), window := some (x.window.getD x.settings.window) }

theorem sparked_sparkedZone (x : Zone) (l : LoopId) (a : HeadAddr) (n : Nat) : Sparked l a n x (sparkedZone x l a n) := by
  unfold sparkedZone Zone.pulse
  dsimp only
  by_cases hq : x.settings.quenchEnable = true
  · rw [if_pos hq]
    exact ⟨rfl, rfl, rfl, fun _ => ⟨rfl, rfl, rfl⟩, fun h => absurd hq (Bool.eq_false_iff.1 h)⟩
  · rw [if_neg hq]
    exact ⟨rfl, rfl, rfl, fun h => absurd h hq, fun _ => ⟨rfl, rfl, rfl⟩⟩

theorem sparkedZone_counts (x : Zone) (l : LoopId) (a : HeadAddr) (n : Nat) :
    (sparkedZone x l a n).counts = x.counts ∧ (sparkedZone x l a n).fault = x.fault := by
  unfold sparkedZone Zone.pulse
  dsimp only
  split_ifs <;> exact ⟨rfl, rfl⟩

/-- A spark report leaves the counts alone and counts its sparks. -/
theorem sparkReport_sparked (s : State) (z : ZoneId) (l : LoopId) (a : HeadAddr) (n : Nat) :
    CountsKept s (sparkReport s z l a n) ∧ Sparked l a n (s.zone z) ((sparkReport s z l a n).zone z) := by
  let u := putZone s z (sparkedZone (s.zone z) l a n)
  have hdef : sparkReport s z l a n = evaluateZone u z (.spark l a) false := rfl
  obtain ⟨hc, hf⟩ := sparkedZone_counts (s.zone z) l a n
  have E : Evaluated z s (evaluateZone u z (.spark l a) false) := (evaluated_putZone hc hf).trans (evaluated_evaluateZone u z _ false)
  have hz : u.zone z = sparkedZone (s.zone z) l a n := zone_putZone s z _
  have K := (escalatedOnly_evaluateZone u z (.spark l a) false).sparksKept z
  rw [hz] at K
  rw [hdef]
  exact ⟨E.countsKept, (sparked_sparkedZone (s.zone z) l a n).kept K⟩

/-! ### A head's frame (R73, R77, R83, R84) -/

/-- The sparks of a REPORT count for the zone (R95). -/
def reportsSparks (h : Head) (v : Int) (marked : Bool) : Prop := h.kind = .spark ∧ 1 ≤ v ∧ h.isolated = false ∧ marked = false

theorem reportsSparks_iff (h : Head) (v : Int) (m : Bool) :
    (true && !m && h.kind = .spark && decide (1 ≤ v) && !h.isolated) = true ↔ reportsSparks h v m := by
  simp only [reportsSparks, Bool.true_and, Bool.and_eq_true, Bool.not_eq_true', decide_eq_true_eq]
  tauto

/-- The REPORT of the head `o` has been taken. -/
structure ReportHeard (l : LoopId) (a : HeadAddr) (o g : Head) (v : Int) (marked : Bool) (s t : State) : Prop where
  loop : t.loop l = { s.loop l with heads := vput (s.loop l).heads a (some g) }
  other : OtherLoop l s t
  follows : o.level ≠ g.level → o.isolated = false → t.zoneFollows o.zone
  same : o.level = g.level ∨ o.isolated = true → CountsKept s t
  sparked : reportsSparks o v marked → Sparked l a v.toNat (s.zone o.zone) (t.zone o.zone)
  kept : ¬reportsSparks o v marked → SparksKept (s.zone o.zone) (t.zone o.zone)

theorem hearHead_heard (s : State) (l : LoopId) (a : HeadAddr) (o : Head) (lv : FrameLevel) (v : Int) (test : Bool) :
    let m := (s.loop l).marked test
    ReportHeard l a o (o.heard m lv v) v m s (hearHead s l a o lv v test true) := by
  intro m
  let g := o.heard m lv v
  let u := handHead s l a o g
  have T : EntryTaken l a o g s u := handHead_taken s l a o g
  obtain ⟨hz, hi⟩ := heard_zone o m lv v
  have hfollows : o.level ≠ g.level → o.isolated = false → u.zoneFollows o.zone := fun h₁ h₂ => hz ▸ T.follows h₁ (hi.trans h₂)
  have hsame : o.level = g.level ∨ o.isolated = true → CountsKept s u := fun h => by
    obtain ⟨hzones, -⟩ := T.same (h.imp_right hi.trans)
    exact fun w => by rw [zone_of_zones hzones]; exact ⟨rfl, rfl⟩
  have hdef : hearHead s l a o lv v test true
      = if true && !m && o.kind = .spark && decide (1 ≤ v) && !o.isolated then sparkReport u o.zone l a v.toNat else u := rfl
  by_cases hs : reportsSparks o v m
  · rw [hdef, if_pos ((reportsSparks_iff o v m).2 hs)]
    obtain ⟨hkept, hsparked⟩ := sparkReport_sparked u o.zone l a v.toNat
    have hloops := loop_of_core (sparkReport_core u o.zone l a v.toNat)
    refine ⟨(hloops l).trans T.loop, fun k hk => (hloops k).trans (T.other k hk), fun h₁ h₂ => ?_, fun h w => ?_, fun _ => ?_,
      fun hn => absurd hs hn⟩
    · obtain ⟨hc, hf⟩ := hkept o.zone
      unfold State.zoneFollows
      rw [hc, hf, headCounts_congr hloops, zoneFault_congr hloops]
      exact hfollows h₁ h₂
    · obtain ⟨hc, hf⟩ := hkept w
      rw [hc, hf]
      exact hsame h w
    · have hx := T.zones o.zone
      obtain ⟨_, _, _, _, _, _, _, e⟩ := hx
      obtain ⟨h₁, h₂, h₃, h₄, h₅⟩ := hsparked
      rw [e] at h₁ h₃ h₄ h₅
      exact ⟨h₁, h₂, h₃, h₄, h₅⟩
  · rw [hdef, if_neg fun h => hs ((reportsSparks_iff o v m).1 h)]
    exact ⟨T.loop, T.other, hfollows, hsame, fun h => absurd h hs, fun _ => T.zones.sparksKept o.zone⟩

theorem zones_putLoop (s : State) (l : LoopId) (x : Loop) : (putLoop s l x).zones = s.zones := by
  obtain ⟨_, _, _, e⟩ := putLoop_frame s l x
  rw [e]

/-! ### The REPORT's end (R76 to R78) -/

section Report

variable {s : State} {l : LoopId} {a : HeadAddr} {lv : FrameLevel} {v : Int} {test : Bool} {h : Head}

theorem reportIn_taken (hs : (s.loop l).state = .receiving) (hh : s.head l a = some h) (hv : valueOk h.kind v = true) :
    let u := hearHead s l a h lv v test true
    reportIn s l a lv v test = putLoop u l ((u.loop l).acked true) := by
  intro u
  unfold reportIn
  dsimp only
  rw [if_pos hs, hh]
  dsimp only
  rw [if_pos hv]

theorem reportIn_range (hs : (s.loop l).state = .receiving) (hh : s.head l a = some h) (hv : valueOk h.kind v = false) :
    reportIn s l a lv v test = frameLost s l := by
  unfold reportIn
  dsimp only
  rw [if_pos hs, hh]
  dsimp only
  rw [if_neg (by simp [hv])]

theorem reportIn_stranger (hs : (s.loop l).state = .receiving) (hh : s.head l a = none) :
    reportIn s l a lv v test = putLoop s l (((s.loop l).strange a).acked false) := by
  unfold reportIn
  dsimp only
  rw [if_pos hs, hh]

end Report

theorem exec_frameLost {s : State} {l : LoopId} {a : HeadAddr} {c : Instr} (hr : s.inReset = false)
    (hc : c = .loopFrameError l ∨ c = .goodAnswerNotTaken l a) : exec c s = .next (finish s (putLoop s l (s.loop l).badFrame)) := by
  have hout := live_out hr (fun s => finish s (frameLost s l))
  obtain rfl | rfl := hc
  · exact hout
  · exact hout

/-- Settles O50. -/
theorem reportTaken : Obligations.ReportTaken := by
  refine ⟨fun s l a lv v test hr => ?_, fun s l a c hr hc => ?_⟩
  · intro x quenchKept hrec
    have hout := live_out hr (fun s => finish s (reportIn s l a lv v test))
    refine ⟨fun h hh hv => ?_, fun h hh hv => ?_, fun hh => ?_⟩
    · rw [reportIn_taken hrec hh hv] at hout
      have R := hearHead_heard s l a h lv v test
      let m := x.marked test
      let g := h.heard m lv v
      have hlevel : g.level = if m = true then h.level else frameLevel lv := heard_level h m lv v
      generalize hearHead s l a h lv v test true = u at *
      change ReportHeard l a h g v m s u at R
      let y := (u.loop l).acked true
      have hy : y = { x with
          state := .idle, gap := some 5, sending := none, polled := none, answer := none, orphan := false, ack := some true
          heads := vput x.heads a (some g) } := by
        change (u.loop l).acked true = _
        rw [R.loop]
        rfl
      have hheads : y.heads = (u.loop l).heads := rfl
      have hshort : y.state = .short ↔ (u.loop l).state = .short := by
        rw [hy, R.loop]
        exact ⟨nofun, fun h => nomatch (hrec.symm.trans h)⟩
      have hl : (putLoop u l y).loop l = y := loop_putLoop u l y
      have hhead (b : HeadAddr) : (putLoop u l y).head l b = (vput x.heads a (some g))[b] := by
        rw [State.head, hl, hy]
      have hzone (w : ZoneId) : (putLoop u l y).zone w = u.zone w := zone_of_zones (zones_putLoop u l y) w
      have hsparks : (h.kind = .spark → 1 ≤ v → h.isolated = false → (test && x.testing) = false →
          Sparked l a v.toNat (s.zone h.zone) ((putLoop u l y).zone h.zone)) := fun h₁ h₂ h₃ h₄ => by
        rw [hzone]
        exact R.sparked ⟨h₁, h₂, h₃, h₄⟩
      refine ⟨_, hout, (hhead a).trans (heads_vput_same _ a _), fun b hb => (hhead b).trans (heads_vput_other hb _),
        fun k hk => (otherLoop_putLoop u l y k hk).trans (R.other k hk), ?_, fun h₁ h₂ hm => ?_, fun hn => ?_, fun h₁ h₂ h₃ h₄ => ?_,
        fun hn => ?_⟩
      · rw [hl, hy]
      · refine zoneFollows_putLoop hheads hshort (R.follows ?_ h₂)
        rw [hlevel, if_neg (show ¬m = true from Bool.eq_false_iff.1 hm)]
        exact h₁
      · intro w
        rw [hzone]
        refine R.same ?_ w
        obtain h₁ | h₂ | hm := hn
        · refine .inl ?_
          rw [hlevel]
          split_ifs
          · rfl
          · exact h₁
        · exact .inr h₂
        · exact .inl (hlevel.trans (if_pos hm)).symm
      · have S := hsparks h₁ h₂ h₃ h₄
        exact ⟨S.sparks, S.lastSpark, S.window, S.quench, S.unquenched⟩
      · have K := R.kept ?_
        · obtain ⟨k₁, k₂, k₃, k₄⟩ := K
          rw [hzone]
          refine ⟨k₁, k₂, k₃, ?_⟩
          change ((putLoop u l y).zone h.zone).quench = _ ∧ _ ∧ _
          rw [hzone]
          exact k₄
        · rintro ⟨h₁, h₂, h₃, h₄⟩
          obtain h | h | h | h := hn
          · exact h h₁
          · omega
          · exact nomatch h₃.symm.trans h
          · exact nomatch h₄.symm.trans h
    · rw [reportIn_range hrec hh hv, frameLost, badFrame_receiving hrec] at hout
      exact hout
    · rw [reportIn_stranger hrec hh] at hout
      obtain ⟨y, z, k, e⟩ := putLoop_frame s l ((x.strange a).acked false)
      have hl := loop_putLoop s l ((x.strange a).acked false)
      have ho := otherLoop_putLoop s l ((x.strange a).acked false)
      refine ⟨_, hout, hl, ho, ?_⟩
      generalize putLoop s l ((x.strange a).acked false) = t at *
      subst e
      rfl
  · intro x n
    have hout := exec_frameLost hr hc
    refine ⟨fun hs => ?_, fun hs => ?_, fun hs => ?_⟩
    · rw [badFrame_counted hs] at hout
      exact hout
    · rw [badFrame_receiving hs] at hout
      exact hout
    · rw [badFrame_short hs] at hout
      exact hout

end Sys2Proof.Machine
end

section
/-! A loop that goes SHORT and comes back (O51). -/

namespace Sys2Proof.Machine

/-! ### The zones of a loop take their inputs (R84, R88) -/

/-- The zones of the list have taken their inputs, one after the other. -/
structure ZonesRefreshed (zs : List ZoneId) (s t : State) : Prop where
  core : t.core = s.core
  follows : ∀ z ∈ zs, t.zoneFollows z
  others : ∀ z, z ∉ zs → t.zone z = s.zone z

theorem refreshZones_refreshed (zs : List ZoneId) (s : State) (i : ZoneInput) : ZonesRefreshed zs s (refreshZones s zs i) := by
  induction zs generalizing s with
  | nil => exact ⟨rfl, fun z hz => by simp at hz, fun _ _ => rfl⟩
  | cons y zs ih =>
    have R := refreshZone_refreshed s y i
    have T := ih (refreshZone s y i)
    change ZonesRefreshed (y :: zs) s (refreshZones (refreshZone s y i) zs i)
    refine ⟨T.core.trans R.core, fun z hz => ?_, fun z hz => ?_⟩
    · by_cases hzs : z ∈ zs
      · exact T.follows z hzs
      · obtain rfl : z = y := (List.mem_cons.1 hz).resolve_right hzs
        have hloops := loop_of_core T.core
        unfold State.zoneFollows
        rw [T.others z hzs, headCounts_congr hloops, zoneFault_congr hloops]
        exact R.follows
    · obtain ⟨hy, hzs⟩ := not_or.1 (mt List.mem_cons.2 hz)
      rw [T.others z hzs, R.others z hy]

theorem mem_zonesOn (s : State) (l : LoopId) (z : ZoneId) : z ∈ s.zonesOn l ↔ ∃ a h, s.head l a = some h ∧ h.zone = z := by
  rw [State.zonesOn, List.mem_filter, Bool.not_eq_true', Bool.eq_false_iff, Ne, List.isEmpty_iff, ← Ne, List.ne_nil_iff_exists_cons]
  constructor
  · rintro ⟨-, ⟨k, a, h⟩, t, e⟩
    obtain ⟨rfl, hh, hz⟩ := mem_zoneHeadsOn.1 (e ▸ List.mem_cons_self : (k, a, h) ∈ s.zoneHeadsOn l z)
    exact ⟨a, h, hh, hz⟩
  · rintro ⟨a, h, hh, hz⟩
    refine ⟨mem_allZones z, ?_⟩
    rw [← List.ne_nil_iff_exists_cons]
    exact List.ne_nil_of_mem (mem_zoneHeadsOn.2 ⟨rfl, hh, hz⟩)

/-! ### The replies of the LOOP_TESTs that a short discards (R82) -/

/-- What becomes of an entry as the broadcasts that waited are discarded. -/
def discardedAnswer (l : LoopId) (e : Entry) : Entry :=
  if e.stage = .waiting (.broadcast l true) then { e with stage := .formed ⟨.wrongState, .none⟩ }
  else if e.stage = .waiting (.broadcast l false) then { e with stage := .formed ⟨.ok, .window false⟩ } else e

theorem queue_answerDiscarded (s : State) (l : LoopId) : (answerDiscarded s l).link.queue = s.link.queue.map (discardedAnswer l) := by
  change (s.link.queue.map _).map _ = _
  rw [List.map_map]
  refine List.map_congr_left fun e _ => ?_
  unfold discardedAnswer
  by_cases h : e.stage = .waiting (.broadcast l true)
  · simp [h, Entry.form]
  · simp [h, Entry.form]

/-- Settles O51. -/
theorem loopShorts : Obligations.LoopShorts := by
  intro s l hr x
  refine ⟨fun hs => ?_, fun hs => ?_⟩
  · let u := putLoop s l x.shorted
    have hdef : loopShorted s l = refreshZones u (u.zonesOn l) .lost := if_neg hs
    have hout := live_out hr (fun s => finish s (loopShorted s l))
    rw [hdef] at hout
    have R := refreshZones_refreshed (u.zonesOn l) u .lost
    have hloop : u.loop l = x.shorted := loop_putLoop s l x.shorted
    have hheads (a : HeadAddr) : (u.loop l).heads[a] = (x.heads[a]).map (fun h => { h with level := .missing, missed := 3 }) := by
      rw [hloop]
      exact Vector.getElem_ofFn _
    have hl := loop_of_core R.core l
    refine ⟨_, hout, ?_, fun a => by rw [hl]; exact hheads a, fun a h hh => ?_,
      fun k hk => (loop_of_core R.core k).trans (otherLoop_putLoop s l x.shorted k hk)⟩
    · rw [hl, hloop]
      rfl
    · refine R.follows h.zone ((mem_zonesOn u l h.zone).2 ⟨a, { h with level := .missing, missed := 3 }, ?_, rfl⟩)
      refine (hheads a).trans ?_
      rw [hh]
      rfl
  · let p := putLoop s l x.recessive
    let u := answerDiscarded p l
    have hdef : loopReleased s l = refreshZones u (u.zonesOn l) .other := if_pos hs
    have hout := live_out hr (fun s => finish s (loopReleased s l))
    rw [hdef] at hout
    have R := refreshZones_refreshed (u.zonesOn l) u .other
    have hup (k : LoopId) : u.loop k = p.loop k := by cases k <;> rfl
    have hloop : u.loop l = x.recessive := (hup l).trans (loop_putLoop s l x.recessive)
    refine ⟨_, hout, ?_, ?_, fun a h hh => ?_,
      fun k hk => (loop_of_core R.core k).trans ((hup k).trans (otherLoop_putLoop s l x.recessive k hk))⟩
    · rw [loop_of_core R.core l, hloop]
      rfl
    · rw [queue_of_core R.core, queue_answerDiscarded]
      exact congrArg (List.map (discardedAnswer l)) (queue_putLoop s l x.recessive)
    · refine (R.follows h.zone ((mem_zonesOn u l h.zone).2 ⟨a, h, ?_, rfl⟩)).2
      rw [State.head, hloop]
      exact hh

end Sys2Proof.Machine
end

section
/-! The host link's frames and the catalogue of requests (O9, O43). -/

namespace Sys2Proof.Machine

/-! ### Multi-byte fields (R172) -/

@[simp] theorem word16_bytes16 (v : BitVec 16) : word16 (v.extractLsb' 8 8) (v.extractLsb' 0 8) = v := by
  unfold word16
  ext i hi
  simp only [BitVec.getElem_append, BitVec.getElem_extractLsb']
  split
  · simp [BitVec.getLsbD_eq_getElem hi]
  · have h : 8 + (i - 8) = i := by omega
    rw [h, BitVec.getLsbD_eq_getElem hi]

@[simp] theorem word32_bytes32 (v : BitVec 32) :
    word32 (v.extractLsb' 24 8) (v.extractLsb' 16 8) (v.extractLsb' 8 8) (v.extractLsb' 0 8) = v := by
  unfold word32
  ext i hi
  simp only [BitVec.getElem_append, BitVec.getElem_extractLsb']
  rw [← BitVec.getLsbD_eq_getElem hi]
  split_ifs with h₁ h₂ h₃
  all_goals
    congr 1
    omega

theorem getLsbD_append_of_lt {m n : Nat} (x : BitVec m) (y : BitVec n) {i : Nat} (h : i < n) : (x ++ y).getLsbD i = y.getLsbD i := by
  rw [BitVec.getLsbD_append, if_pos h]

theorem getLsbD_append_add {m n : Nat} (x : BitVec m) (y : BitVec n) (i : Nat) : (x ++ y).getLsbD (n + i) = x.getLsbD i := by
  rw [BitVec.getLsbD_append, if_neg (by omega), Nat.add_sub_cancel_left]

/-- A byte taken from the low part of two parts joined. -/
theorem extract_append_low {m n : Nat} (x : BitVec m) (y : BitVec n) {i : Nat} (h : i + 8 ≤ n) :
    (x ++ y).extractLsb' i 8 = y.extractLsb' i 8 := by
  refine BitVec.eq_of_getLsbD_eq fun j hj => ?_
  rw [BitVec.getLsbD_extractLsb', BitVec.getLsbD_extractLsb', getLsbD_append_of_lt x y (by omega)]

/-- A byte taken from the high part of two parts joined. -/
theorem extract_append_high {m n : Nat} (x : BitVec m) (y : BitVec n) (i : Nat) :
    (x ++ y).extractLsb' (n + i) 8 = x.extractLsb' i 8 := by
  refine BitVec.eq_of_getLsbD_eq fun j hj => ?_
  rw [BitVec.getLsbD_extractLsb', BitVec.getLsbD_extractLsb', Nat.add_assoc, getLsbD_append_add]

theorem extract_byte (x : Byte) : x.extractLsb' 0 8 = x := BitVec.extractLsb'_eq_self

theorem bytes16_word16 (h l : Byte) : bytes16 (word16 h l) = [h, l] := by
  have hh : (word16 h l).extractLsb' 8 8 = h := (extract_append_high h l 0).trans (extract_byte h)
  have hl : (word16 h l).extractLsb' 0 8 = l := (extract_append_low h l (Nat.le_refl 8)).trans (extract_byte l)
  rw [bytes16, hh, hl]

theorem bytes32_word32 (a b c d : Byte) : bytes32 (word32 a b c d) = [a, b, c, d] := by
  have ha : (word32 a b c d).extractLsb' 24 8 = a :=
    (extract_append_high (a ++ b) (c ++ d) 8).trans ((extract_append_high a b 0).trans (extract_byte a))
  have hb : (word32 a b c d).extractLsb' 16 8 = b :=
    (extract_append_high (a ++ b) (c ++ d) 0).trans ((extract_append_low a b (Nat.le_refl 8)).trans (extract_byte b))
  have hc : (word32 a b c d).extractLsb' 8 8 = c :=
    (extract_append_low (a ++ b) (c ++ d) (i := 8) (by decide)).trans ((extract_append_high c d 0).trans (extract_byte c))
  have hd : (word32 a b c d).extractLsb' 0 8 = d :=
    (extract_append_low (a ++ b) (c ++ d) (i := 0) (by decide)).trans ((extract_append_low c d (Nat.le_refl 8)).trans (extract_byte d))
  rw [bytes32, ha, hb, hc, hd]

/-! ### The catalogue (R180) -/

/-- The kinds of the catalogue with the lengths of their payloads (R180). -/
def payloadLengths : List (Byte × Nat) := knownKinds.zip (
  [0, 4, 0, 1, 0, 1, 11, 23, 3, 15, 4, 5, 18, 2, 1] ++ [4, 4, 14, 5, 4, 4, 4, 4, 4, 4, 0, 1, 1, 1, 1]
  ++ [1, 1, 1, 1, 2, 2, 1, 1, 2, 0, 0, 0, 0, 1, 0] ++ [0, 5, 4, 2])

theorem lookup_payloadLengths (r : Request) : payloadLengths.lookup r.kind = some r.payload.length := by
  cases r <;> rfl

theorem kind_mem_knownKinds (r : Request) : r.kind ∈ knownKinds := by
  cases r <;> simp [Request.kind, knownKinds]

theorem length_payload_le (r : Request) : r.payload.length ≤ 23 := by
  cases r <;> simp [Request.payload, bytes16, bytes32]

/-- The kind alone gives the length of the payload. -/
theorem length_payload_of_kind {r q : Request} (h : r.kind = q.kind) : r.payload.length = q.payload.length := by
  have hr := lookup_payloadLengths r
  rw [h, lookup_payloadLengths q] at hr
  exact (Option.some.inj hr).symm

/-! ### Parsing (R174, R180) -/

theorem byte_low : ∀ k : Byte, k.toNat / 16 = 0 → (k = 0x01#8 ∨ k = 0x02#8 ∨ k = 0x03#8 ∨ k = 0x04#8 ∨ k = 0x05#8 ∨ k = 0x06#8)
    ∨ (k = 0x00#8 ∨ k = 0x07#8 ∨ k = 0x08#8 ∨ k = 0x09#8 ∨ k = 0x0a#8 ∨ k = 0x0b#8 ∨ k = 0x0c#8 ∨ k = 0x0d#8 ∨ k = 0x0e#8 ∨ k = 0x0f#8) := by
  decide

theorem parseLine_length {k : Byte} {p : List Byte} {r : Request} (hk : k.toNat / 16 = 0) (h : parseLine k p = some r) :
    payloadLengths.lookup k = some p.length := by
  obtain (rfl | rfl | rfl | rfl | rfl | rfl) | hno := byte_low k hk
  · exact match p, h with | [], _ => rfl
  · exact match p, h with | [_, _, _, _], _ => rfl
  · exact match p, h with | [], _ => rfl
  · exact match p, h with | [_], _ => rfl
  · exact match p, h with | [], _ => rfl
  · exact match p, h with | [_], _ => rfl
  · obtain rfl | rfl | rfl | rfl | rfl | rfl | rfl | rfl | rfl | rfl := hno
    all_goals exact nomatch h

theorem parseConfig_length {k : Byte} {p : List Byte} {r : Request} (h : parseConfig k p = some r) :
    payloadLengths.lookup k = some p.length := by
  unfold parseConfig at h
  split at h
  case h_10 => exact nomatch h
  all_goals rfl

theorem byte_custody : ∀ k : Byte, k.toNat / 16 = 2 →
    (k = 0x20#8 ∨ k = 0x21#8 ∨ k = 0x24#8 ∨ k = 0x25#8 ∨ k = 0x26#8 ∨ k = 0x27#8 ∨ k = 0x28#8 ∨ k = 0x29#8)
    ∨ (k = 0x22#8 ∨ k = 0x23#8 ∨ k = 0x2a#8) ∨ (k = 0x2b#8 ∨ k = 0x2c#8 ∨ k = 0x2d#8 ∨ k = 0x2e#8 ∨ k = 0x2f#8) := by
  decide

theorem parseCustody_length {k : Byte} {p : List Byte} {r : Request} (hk : k.toNat / 16 = 2) (h : parseCustody k p = some r) :
    payloadLengths.lookup k = some p.length := by
  obtain hfour | (rfl | rfl | rfl) | hno := byte_custody k hk
  · obtain rfl | rfl | rfl | rfl | rfl | rfl | rfl | rfl := hfour
    all_goals exact match p, h with | [_, _, _, _], _ => rfl
  · exact match p, h with | [_, _, _, _, _, _, _, _, _, _, _, _, _, _], _ => rfl
  · exact match p, h with | [_, _, _, _, _], _ => rfl
  · exact match p, h with | [], _ => rfl
  · obtain rfl | rfl | rfl | rfl | rfl := hno
    all_goals exact nomatch h

theorem parseField_length {k : Byte} {p : List Byte} {r : Request} (h : parseField k p = some r) :
    payloadLengths.lookup k = some p.length := by
  unfold parseField at h
  split at h
  case h_14 => exact nomatch h
  all_goals rfl

theorem parsePlant_length {k : Byte} {p : List Byte} {r : Request} (h : parsePlant k p = some r) :
    payloadLengths.lookup k = some p.length := by
  unfold parsePlant at h
  split at h
  case h_11 => exact nomatch h
  all_goals rfl

/-- What is parsed has the length of its kind. -/
theorem parseRequest_length {k : Byte} {p : List Byte} {r : Request} (h : parseRequest k p = some r) :
    payloadLengths.lookup k = some p.length := by
  unfold parseRequest at h
  dsimp only at h
  split_ifs at h with h₀ h₁ h₂
  · exact parseLine_length h₀ h
  · exact parseConfig_length h
  · exact parseCustody_length h₂ h
  · exact parseField_length h
  · exact parsePlant_length h

theorem parse_payload (r : Request) : parseRequest r.kind r.payload = some r := by
  cases r
  all_goals
    dsimp only [Request.kind, Request.payload, bytes16, bytes32, List.cons_append, List.nil_append]
    refine congrArg some ?_
    simp only [word16_bytes16, word32_bytes32]

/-- The first `n` values of `f`, as a list. -/
def bytesOf : Nat → (Nat → Byte) → List Byte
  | 0, _ => []
  | n + 1, f => f 0 :: bytesOf n (fun i => f (i + 1))

theorem bytesOf_getD (p : List Byte) : bytesOf p.length (fun i => p.getD i 0#8) = p := by
  induction p with
  | nil => rfl
  | cons b p ih => exact congrArg (List.cons b) ih

section Bytes

variable (a b c d : Byte)

theorem word16_high : (word16 a b).extractLsb' 8 8 = a := (List.cons.inj (bytes16_word16 a b)).1

theorem word16_low : (word16 a b).extractLsb' 0 8 = b := (List.cons.inj (List.cons.inj (bytes16_word16 a b)).2).1

theorem word32_bytes : (word32 a b c d).extractLsb' 24 8 = a ∧ (word32 a b c d).extractLsb' 16 8 = b
    ∧ (word32 a b c d).extractLsb' 8 8 = c ∧ (word32 a b c d).extractLsb' 0 8 = d := by
  have h := bytes32_word32 a b c d
  simpa only [bytes32, List.cons.injEq, and_true] using h

end Bytes

theorem parse_bytesOf (r : Request) (f : Nat → Byte) : ∃ q, parseRequest r.kind (bytesOf r.payload.length f) = some q ∧ q.kind = r.kind
    ∧ q.payload = bytesOf r.payload.length f := by
  cases r
  all_goals
    dsimp only [Request.kind, Request.payload, bytes16, bytes32, List.cons_append, List.nil_append, List.length, bytesOf, Nat.zero_add,
      Nat.reduceAdd]
    refine ⟨_, rfl, rfl, ?_⟩
    simp only [word16_high, word16_low, word32_bytes]

/-- A payload of the length of its kind is parsed, as a request of that kind with that payload. -/
theorem parse_of_length {r : Request} {p : List Byte} (h : r.payload.length = p.length) :
    ∃ q, parseRequest r.kind p = some q ∧ q.kind = r.kind ∧ q.payload = p := by
  have hp := parse_bytesOf r (fun i => p.getD i 0#8)
  rwa [h, bytesOf_getD] at hp

/-! ### What a frame asks (R174) -/

theorem askedOf_payload (r : Request) : askedOf r.kind r.payload = .known r := by
  rw [askedOf, parse_payload]

theorem askedOf_of_length {r : Request} {p : List Byte} (h : r.payload.length = p.length) :
    ∃ q, askedOf r.kind p = .known q ∧ q.kind = r.kind ∧ q.payload = p := by
  obtain ⟨q, hq, hk⟩ := parse_of_length h
  exact ⟨q, by rw [askedOf, hq], hk⟩

theorem askedOf_badLength {r : Request} {p : List Byte} (h : r.payload.length ≠ p.length) : askedOf r.kind p = .badLength r.kind := by
  have hnone : parseRequest r.kind p = none := by
    rw [Option.eq_none_iff_forall_ne_some]
    intro q hq
    have hlen := (lookup_payloadLengths r).symm.trans (parseRequest_length hq)
    exact h (Option.some.inj hlen)
  rw [askedOf, hnone]
  exact if_pos (List.any_eq_true.2 ⟨r.kind, kind_mem_knownKinds r, decide_eq_true rfl⟩)

theorem askedOf_unknownKind {k : Byte} (h : k ∉ knownKinds) (p : List Byte) : askedOf k p = .unknownKind k := by
  have hnone : parseRequest k p = none := by
    rw [Option.eq_none_iff_forall_ne_some]
    intro q hq
    have hmem : (k, p.length) ∈ payloadLengths := by
      obtain ⟨l₁, l₂, hl, -⟩ := List.lookup_eq_some_iff.1 (parseRequest_length hq)
      rw [hl]
      exact List.mem_append_right l₁ List.mem_cons_self
    exact h (List.of_mem_zip hmem).1
  rw [askedOf, hnone]
  refine if_neg fun hany => h ?_
  obtain ⟨c, hc, hck⟩ := List.any_eq_true.1 hany
  exact of_decide_eq_true hck ▸ hc

end Sys2Proof.Machine
end

section
/-! Frames received and sent (O9). -/

namespace Sys2Proof.Machine

/-! ### A frame received (R173) -/

/-- The receiver has collected `l` of a frame of length `n`. -/
def State.collecting (s : State) (n : Nat) (l : List Byte) : State :=
  { s with link := { s.link with rx := .collecting n l, gap := some 2 } }

theorem receiveByte_collecting {s : State} {n : Nat} {l : List Byte} {b : Byte} (h : s.link.rx = .collecting n l)
    (hl : l.length + 1 < n + 2) : receiveByte s b = s.collecting n (l ++ [b]) := by
  unfold receiveByte
  dsimp only
  rw [h]
  dsimp only
  rw [if_pos (by rw [List.length_append, List.length_singleton]; exact hl)]
  rfl

theorem receiveByte_last {s : State} {n : Nat} {l : List Byte} {b : Byte} (h : s.link.rx = .collecting n l) (hl : l.length = n + 1) :
    receiveByte s b = checkFrame s (BitVec.ofNat 8 n :: l.take n) (word16 (l.getD n 0#8) b) := by
  have htake : (l ++ [b]).take n = l.take n := List.take_append_of_le_length (by omega)
  have hn : (l ++ [b]).getD n 0#8 = l.getD n 0#8 := by
    rw [List.getD_append _ _ _ _ (by omega)]
  have hb : (l ++ [b]).getD (n + 1) 0#8 = b := by
    rw [List.getD_append_right _ _ _ _ (by omega), hl, Nat.sub_self]
    rfl
  unfold receiveByte
  dsimp only
  rw [h]
  dsimp only
  rw [if_neg (by rw [List.length_append, List.length_singleton]; omega), htake, hn, hb]

/-- The bytes of a frame short of its last. -/
theorem foldl_receiveByte (bs : List Byte) (s : State) (n : Nat) (l : List Byte) (h : l.length + bs.length < n + 2) :
    bs.foldl receiveByte (s.collecting n l) = s.collecting n (l ++ bs) := by
  induction bs generalizing l with
  | nil => rw [List.append_nil]; rfl
  | cons b bs ih =>
    rw [List.length_cons] at h
    have hb : receiveByte (s.collecting n l) b = s.collecting n (l ++ [b]) := receiveByte_collecting rfl (by omega)
    rw [List.foldl_cons, hb, ih _ (by rw [List.length_append, List.length_singleton]; omega), List.append_assoc]
    rfl

theorem receiveByte_sync {s : State} (h : s.link.rx = .hunting) :
    receiveByte s 0xc3#8 = { s with link := { s.link with rx := .length, gap := some 2 } } := by
  unfold receiveByte
  dsimp only
  rw [h]
  rfl

theorem receiveByte_length {s : State} (h : s.link.rx = .length) {b : Byte} (hb : 2 ≤ b.toNat ∧ b.toNat ≤ 252) :
    receiveByte s b = s.collecting b.toNat [] := by
  unfold receiveByte
  dsimp only
  rw [h]
  exact if_pos hb

/-- The frame of kind `k` with payload `p`, received by a hunting receiver. -/
theorem foldl_receiveByte_frame {s : State} (h : s.link.rx = .hunting) (k m : Byte) {p : List Byte} (hp : p.length ≤ 250) :
    (frameOf k m p).foldl receiveByte s = joinQueue { s with link := { s.link with rx := .hunting, gap := none } } m (askedOf k p) := by
  let n := p.length + 2
  let b : Byte := BitVec.ofNat 8 n
  let body := b :: k :: m :: p
  have hn : b.toNat = n := by
    change (BitVec.ofNat 8 n).toNat = n
    rw [BitVec.toNat_ofNat]
    exact Nat.mod_eq_of_lt (by omega)
  let high := (crc16 body).extractLsb' 8 8
  let low := (crc16 body).extractLsb' 0 8
  let l := k :: m :: p ++ [high]
  have hl : l.length = n + 1 := by
    change (k :: m :: p ++ [high]).length = p.length + 2 + 1
    simp
  have hbytes : frameOf k m p = 0xc3#8 :: b :: l ++ [low] := by
    change _ = 0xc3#8 :: b :: (k :: m :: p ++ [high]) ++ [low]
    simp [frameOf, bytes16, high, low, body, b, n]
  have hsync := receiveByte_sync h
  let u : State := { s with link := { s.link with rx := .length, gap := some 2 } }
  have hlen : receiveByte u b = u.collecting n [] := by
    rw [receiveByte_length (s := u) rfl (by rw [hn]; omega), hn]
  have htake : l.take n = k :: m :: p := by
    change (k :: m :: p ++ [high]).take (p.length + 2) = k :: m :: p
    exact List.take_left' rfl
  have hhigh : l.getD n 0#8 = high := by
    change (k :: m :: p ++ [high]).getD (p.length + 2) 0#8 = high
    rw [List.getD_append_right _ _ _ _ (by simp)]
    simp
  calc (frameOf k m p).foldl receiveByte s
      = receiveByte (l.foldl receiveByte (receiveByte (receiveByte s 0xc3#8) b)) low := by
        rw [hbytes, List.foldl_append]
        rfl
    _ = receiveByte (u.collecting n l) low := by
        rw [hsync, hlen, foldl_receiveByte l u n [] (by rw [hl]; simp)]
        rfl
    _ = checkFrame (u.collecting n l) body (crc16 body) := by
        rw [receiveByte_last (s := u.collecting n l) rfl hl, htake, hhigh, word16_bytes16]
    _ = joinQueue { s with link := { s.link with rx := .hunting, gap := none } } m (askedOf k p) := by
        rw [checkFrame, if_pos rfl]
        rfl

/-! ### The lengths of the incident parts (R183) -/

theorem length_causeBytes (c : Option AlarmCause) : (causeBytes c).length = 9 := by
  cases c with
  | none => rfl
  | some c => cases c <;> rfl

theorem length_bayBytes (l : List BayShot) :
    (l.flatMap (fun b => b.state.code :: tagBytes b.pack ++ [flagByte b.overLimit])).length = 6 * l.length := by
  induction l with
  | nil => rfl
  | cons b l ih =>
    rw [List.flatMap_cons, List.length_append, ih, List.length_cons]
    simp [tagBytes, bytes32]
    omega

theorem length_openPart (o : OpenPart) : o.bytes.length = 94 := by
  have hcause := length_causeBytes o.cause
  have hbays := length_bayBytes o.bays.toList
  unfold OpenPart.bytes
  simp only [List.length_append, List.length_map, hcause, hbays, Vector.length_toList]
  simp [bytes16, bytes32, nat16, nat8, tagBytes]

theorem length_closePart (c : ClosePart) : c.bytes.length = 19 := by
  simp [ClosePart.bytes, bytes16, bytes32, nat16, nat32]

/-- Settles O9. -/
theorem frameQueuesRequest : Obligations.FrameQueuesRequest := by
  refine ⟨fun s m r h => ?_, fun k m p => rfl, fun k m r => rfl, fun s c => ?_, length_openPart, length_closePart⟩
  · have hp := length_payload_le r
    rw [requestFrame, foldl_receiveByte_frame h r.kind m (by omega), askedOf_payload]
  · cases c <;> rfl

end Sys2Proof.Machine
end

section
/-! The host link's own events (O43). -/

namespace Sys2Proof.Machine

/-! ### A byte (R173, R174) -/

section Byte

variable {s : State} {b : Byte}

theorem exec_hostByte_pump (hr : s.inReset = false) {t : State} (ht : receiveByte s b = t)
    (hq : t.link.queue.length = s.link.queue.length) : exec (.hostByteReceived b) s = .next (linkPump t) := by
  have hdef : byteTaken s b = linkPump t := by
    rw [← ht] at hq ⊢
    exact if_pos hq
  rw [← hdef]
  exact live_out hr (fun s => byteTaken s b)

theorem exec_hostByte_request (hr : s.inReset = false) {t : State} (ht : receiveByte s b = t)
    (hq : t.link.queue.length ≠ s.link.queue.length) : exec (.hostByteReceived b) s = .next (finish s (takeAll 4 t)) := by
  have hdef : byteTaken s b = finish s (takeAll 4 t) := by
    rw [← ht] at hq ⊢
    exact if_neg hq
  rw [← hdef]
  exact live_out hr (fun s => byteTaken s b)

theorem receiveByte_hunting (h : s.link.rx = .hunting) (hb : b ≠ 0xc3#8) : receiveByte s b = s := by
  unfold receiveByte
  dsimp only
  rw [h]
  exact if_neg hb

theorem receiveByte_badLength (h : s.link.rx = .length) (hb : b.toNat < 2 ∨ 252 < b.toNat) :
    receiveByte s b = { s with link := s.link.discard } := by
  unfold receiveByte
  dsimp only
  rw [h]
  exact if_neg (by omega)

end Byte

/-! ### The taking of what waits (R174, R179) -/

theorem takeAll_stops {s : State} (n : Nat) (h : ∀ k, s.link.untaken = some k → s.takeable k = false) : takeAll n s = s := by
  cases hu : s.link.untaken with
  | none => exact takeAll_none hu n
  | some k => exact takeAll_waits hu (h k hu) n

/-! ### A request's row (R174) -/

section Row

variable {s : State} {m : Byte} {r : Request}

theorem restart_of_kind (h : r.kind = 0x03#8) : r = .restart := by
  by_contra hr
  exact kind_ne_restart hr h

/-- Behind no untaken request, every earlier reply has been sent where no request is queued and none is being sent. -/
theorem repliesSent_withEntry (hu : s.link.untaken = none) :
    (s.withEntry m r .untaken).link.repliesSent = true ↔ s.link.replying = false ∧ s.link.queue = [] := by
  have hreplying : (s.withEntry m r .untaken).link.replying = s.link.replying := rfl
  have hqueue : (s.withEntry m r .untaken).link.queue = s.link.queue ++ [⟨m, .known r, .untaken⟩] := rfl
  rw [Link.repliesSent, hreplying, hqueue, Bool.and_eq_true, Bool.not_eq_true']
  cases hq : s.link.queue with
  | nil => simp
  | cons e t =>
    have he : e.stage ≠ .untaken := by
      intro hst
      have : s.link.untaken = some e.asked := by
        rw [Link.untaken, hq, List.find?_cons_of_pos (by simpa using hst)]
        rfl
      rw [hu] at this
      cases this
    simp [he]

/-- Where none waits before it, the request may be taken but behind an accepted RESTART, before the end of the rebuild for the tables'
kinds, and, a RESTART, behind an earlier reply. -/
theorem takeable_withEntry (hu : s.link.untaken = none) : (s.withEntry m r .untaken).takeable (.known r) = true ↔
    s.link.restart = .none ∧ ¬(0x20 ≤ r.kind.toNat ∧ r.kind.toNat ≤ 0x2a ∧ s.phase ≠ .running)
    ∧ ¬(r = .restart ∧ (s.link.replying = true ∨ s.link.queue ≠ [])) := by
  have hsent := repliesSent_withEntry (m := m) (r := r) hu
  have hrestart : (s.withEntry m r .untaken).link.restart = s.link.restart := rfl
  have hphase : (s.withEntry m r .untaken).phase = s.phase := rfl
  have hkind : r.kind = 0x03#8 ↔ r = .restart := ⟨restart_of_kind, fun h => by rw [h]; rfl⟩
  change (decide ((s.withEntry m r .untaken).link.restart = .none)
    && ((!custodialKind r.kind || decide ((s.withEntry m r .untaken).phase = .running))
      && (decide (r.kind ≠ 0x03#8) || (s.withEntry m r .untaken).link.repliesSent))) = true ↔ _
  rw [Bool.and_eq_true, Bool.and_eq_true, Bool.or_eq_true, Bool.or_eq_true, hsent, hrestart, hphase, Bool.not_eq_true',
    decide_eq_true_eq, decide_eq_true_eq, decide_eq_true_eq, Ne, hkind]
  refine and_congr_right fun _ => and_congr ?_ ?_
  · unfold custodialKind
    rw [decide_eq_false_iff_not]
    tauto
  · have hreplying : s.link.replying = false ↔ ¬s.link.replying = true := by simp
    rw [hreplying]
    tauto

theorem hostRequest_row (hr : s.inReset = false) :
    let waits : Prop := s.link.untaken.isSome = true ∨ s.link.restart ≠ .none
      ∨ (0x20 ≤ r.kind.toNat ∧ r.kind.toNat ≤ 0x2a ∧ s.phase ≠ .running)
      ∨ (r = .restart ∧ (s.link.replying = true ∨ s.link.queue ≠ []))
    let j := s.withEntry m r .untaken
    (s.link.queue.length < 4 → waits → hostRequest s m r = j)
    ∧ (s.link.queue.length < 4 → ¬waits → hostRequest s m r = (runRequest j r).1.withStage (runRequest j r).2) := by
  intro waits j
  have hiff (hu : s.link.untaken = none) : j.takeable (.known r) = true ↔ ¬waits := by
    change (s.withEntry m r .untaken).takeable (.known r) = true ↔ ¬(s.link.untaken.isSome = true ∨ s.link.restart ≠ .none
      ∨ (0x20 ≤ r.kind.toNat ∧ r.kind.toNat ≤ 0x2a ∧ s.phase ≠ .running)
      ∨ (r = .restart ∧ (s.link.replying = true ∨ s.link.queue ≠ [])))
    rw [takeable_withEntry hu, hu]
    simp
  refine ⟨fun hq hw => hostRequest_waits hq m r ?_, fun hq hw => ?_⟩
  · cases hu : s.link.untaken with
    | some k => exact .inl rfl
    | none =>
      refine .inr ?_
      rw [Bool.eq_false_iff]
      exact fun ht => (hiff hu).1 ht hw
  · have hu : s.link.untaken = none := by
      rw [← Option.not_isSome_iff_eq_none]
      exact fun h => hw (.inl h)
    have ht := (hiff hu).2 hw
    have hnone : s.link.restart = .none := by
      by_contra h
      exact hw (.inr (.inl h))
    exact hostRequest_taken (by simp [State.takesNow, hr, hnone, hu, hq]) m r ht

end Row

/-- Settles O43. -/
theorem linkEvents : Obligations.LinkEvents := by
  refine ⟨fun s b hr => ?_, fun s n => ?_, fun s m r c hr hc => ?_, fun k p => ?_, fun s r k => ⟨rfl, ?_⟩⟩
  · refine ⟨fun hx hb => exec_hostByte_pump hr (receiveByte_hunting hx hb) rfl, fun hx hb => ?_,
      fun hx h₁ h₂ => exec_hostByte_pump hr (receiveByte_length hx ⟨h₁, h₂⟩) rfl,
      fun hx hb => exec_hostByte_pump hr (receiveByte_badLength hx hb) rfl,
      fun n l hx hl => exec_hostByte_pump hr (receiveByte_collecting hx hl) rfl, fun n l hx hl hcrc => ?_, fun hg => ?_,
      fun n l k m p hx hl htake hcrc => ?_, live_out hr (fun s => finish s (takeWaiting s))⟩
    · subst hb
      exact exec_hostByte_pump hr (receiveByte_sync hx) rfl
    · have hbad := receiveByte_last (b := b) hx hl
      exact exec_hostByte_pump hr (hbad.trans (if_neg hcrc)) rfl
    · have hout := live_out hr (fun s => linkPump (if s.link.gap.isSome then { s with link := s.link.discard } else s))
      rw [if_pos hg] at hout
      exact hout
    · intro ends
      have hgood : receiveByte s b = joinQueue { s with link := { s.link with rx := .hunting, gap := none } } m (askedOf k p) := by
        rw [htake] at hcrc
        rw [receiveByte_last hx hl, htake]
        exact if_pos hcrc
      refine ⟨fun hq => ?_, fun hq => ?_⟩
      · refine exec_hostByte_request hr (hgood.trans (if_neg (Nat.not_le.2 hq))) ?_
        change (s.link.queue ++ [_]).length ≠ s.link.queue.length
        rw [List.length_append, List.length_singleton]
        exact Nat.succ_ne_self _
      · exact exec_hostByte_pump hr (hgood.trans (if_pos hq)) rfl
  · exact ⟨rfl, takeAll_stops n, fun k hk ht => takeAll_takes hk ht n, decide_eq_true_iff⟩
  · intro ends waits j
    have hout := row_out hr hc
    obtain ⟨hwaits, htaken⟩ := hostRequest_row (m := m) (r := r) hr
    refine ⟨fun hq => ?_, fun hq hw => ?_, fun hq hw => ?_⟩
    · rw [hostRequest_full hq m r] at hout
      exact hout
    · rw [hwaits hq hw] at hout
      exact hout
    · rw [htaken hq hw] at hout
      exact hout
  · refine ⟨fun h => askedOf_unknownKind h p, ?_, ?_⟩
    · rintro r rfl hl
      exact askedOf_of_length hl
    · rintro r rfl hl
      exact askedOf_badLength hl
  · exact Bool.and_true _

end Sys2Proof.Machine
end

section
/-! The pack events of a bay: what each does to the Custody Table, and the bay LOCKED with its pack (R13, R14, R37, R155). -/

namespace Sys2Proof.Machine

/-! ### A pack event's outcome (R13, R14) -/

theorem inBayPack_some {s : State} {b : BayId} {n : Tag} {p : Pack} (hp : s.pack n = some p) (hs : p.state = .inBay)
    (hb : p.bay = some b) : inBayPack s b n = some p := by
  simp only [inBayPack, hp, Option.filter_some, hs, hb, decide_true, Bool.and_true, if_true]

theorem inBayPack_none {s : State} {b : BayId} {n : Tag} (h : ∀ p, s.pack n = some p → ¬(p.state = .inBay ∧ p.bay = some b)) :
    inBayPack s b n = none := by
  refine Option.filter_eq_none_iff.2 fun p hp hpb => h p hp ?_
  simpa only [Bool.and_eq_true, decide_eq_true_eq] using hpb

theorem otherRecord_limit {p : Pack} (h : 14 ≤ p.charge) (s : State) (q : Pack) (k : RecordKind) (bay : Option BayId) (d : Detail) :
    otherRecord s p q k bay d = (quarantinePack s p .recordLimit, .quarantined) := if_pos h

theorem otherRecord_written {p : Pack} (h : p.charge < 14) (s : State) (q : Pack) (k : RecordKind) (bay : Option BayId) (d : Detail) :
    otherRecord s p q k bay d = (writePack s q k bay d, .continued) := if_neg (Nat.not_le.2 h)

section
variable {s : State} {b : BayId} {n : Tag} {p : Pack} (h : inBayPack s b n = some p)
include h

theorem takeTrip_eq (k : TripKind) : takeTrip s b n k = (let q : Pack := { p with trips := min 8 (p.trips + 1) }
    if 14 ≤ p.charge then (quarantinePack s q .recordLimit, .quarantined)
    else if 7 ≤ p.trips then (quarantinePack (writePack s q .trip (some b) (.trip k)) q.counted .tripLimit, .quarantined)
    else (writePack s q .trip (some b) (.trip k), .continued)) := by
  unfold takeTrip
  rw [h]
  dsimp only
  have hiff : 8 ≤ satAdd 8 p.trips 1 ↔ 7 ≤ p.trips := by
    unfold satAdd
    omega
  by_cases hc : 14 ≤ p.charge
  · rw [otherRecord_limit (p := { p with trips := satAdd 8 p.trips 1 }) hc, if_pos hc]
    rfl
  · rw [otherRecord_written (p := { p with trips := satAdd 8 p.trips 1 }) (Nat.lt_of_not_le hc), if_neg hc]
    dsimp only
    simp only [hiff]
    rfl

theorem takeTrip_counted (hc : p.charge < 14) (ht : p.trips < 7) (k : TripKind) :
    takeTrip s b n k = (writePack s { p with trips := min 8 (p.trips + 1) } .trip (some b) (.trip k), .continued) := by
  rw [takeTrip_eq h]
  dsimp only
  rw [if_neg (Nat.not_le.2 hc), if_neg (Nat.not_le.2 ht)]

theorem takeTrip_eighth (hc : p.charge < 14) (ht : 7 ≤ p.trips) (k : TripKind) : takeTrip s b n k =
    (let q : Pack := { p with trips := min 8 (p.trips + 1) }
    (quarantinePack (writePack s q .trip (some b) (.trip k)) q.counted .tripLimit, .quarantined)) := by
  rw [takeTrip_eq h]
  dsimp only
  rw [if_neg (Nat.not_le.2 hc), if_pos ht]

theorem takeTrip_recordLimit (hc : 14 ≤ p.charge) (k : TripKind) :
    takeTrip s b n k = (quarantinePack s { p with trips := min 8 (p.trips + 1) } .recordLimit, .quarantined) := by
  rw [takeTrip_eq h]
  exact if_pos hc

theorem takeRebound_eq : takeRebound s b n = if p.rebounds < 3
    then otherRecord s p { p with rebounds := p.rebounds + 1 } .rebound (some b) .none
    else (quarantinePack s p .reboundLimit, .quarantined) := by
  unfold takeRebound
  rw [h]

theorem takeReady_eq : takeReady s b n = otherRecord s p { p with state := .released } .ready (some b) .none := by
  unfold takeReady
  rw [h]

end

theorem takeBayQuarantine_eq {s : State} {b : BayId} {n : Tag} {p : Pack} (hp : s.pack n = some p)
    (hs : p.state = .inBay ∨ p.state = .released) (hb : p.bay = some b) (r : QuarReason) :
    takeBayQuarantine s b n r = (quarantinePack s p r, .quarantined) := by
  have hpass : ((p.state = .inBay || p.state = .released) && p.bay = some b) = true := by
    simp only [hb, Bool.and_eq_true, Bool.or_eq_true, decide_eq_true_eq, and_true]
    exact hs
  unfold takeBayQuarantine
  rw [hp, Option.filter_some, if_pos hpass]

/-! ### A bay's event taken at once (R155) -/

theorem submitBay_taken {s : State} {e : PackEvent} (hp : s.phase = .running) (hh : s.held = [])
    (hf : (applyEvent s e).1.writer.buffer.length ≤ 64) (act : State → Answer → State) :
    submitBay s e act = act (applyEvent s e).1 (applyEvent s e).2 := by
  unfold submitBay
  rw [submit_taken hp hh ((fits_iff _).2 hf)]

theorem submitBay_held {s : State} {e : PackEvent}
    (h : ¬(s.phase = .running ∧ s.held = [] ∧ (applyEvent s e).1.writer.buffer.length ≤ 64)) (act : State → Answer → State) :
    submitBay s e act = { s with held := s.held ++ [e] } := by
  unfold submitBay
  rw [submit_held fun ⟨hp, hh, hf⟩ => h ⟨hp, hh, (fits_iff _).1 hf⟩]

/-! ### What a bay's own events change (R33, R37, R40, R61) -/

/-- From `s` to `t` the records `ds` have been written for pack `n` and the grants may have been recomputed; of the bays at most `b`
differs in more than that. -/
structure BayStepped (b : BayId) (n : Tag) (s t : State) (ds : List Draft) : Prop where
  others : OtherPacks n s t
  accepts : Accepts s t ds
  bays : OthersRegranted b s t
  frame : t = { s with packs := t.packs, bays := t.bays, writer := t.writer, line := t.line, link := t.link }

namespace BayStepped
variable {b : BayId} {n : Tag} {s t u : State} {ds es : List Draft}

theorem trans (h₁ : BayStepped b n s t ds) (h₂ : BayStepped b n t u es) : BayStepped b n s u (ds ++ es) where
  others := fun m hm => (h₂.others m hm).trans (h₁.others m hm)
  accepts := h₁.accepts.append h₂.accepts (by rw [h₁.frame])
  bays := h₁.bays.trans h₂.bays
  frame := by
    rw [h₂.frame]
    conv_lhs => rw [h₁.frame]

theorem of_baysLinkOnly (h : BaysLinkOnly s t) (hb : OthersRegranted b s t) : BayStepped b n s t [] where
  others := fun m _ => packs_of_baysLinkOnly h m
  accepts := by
    obtain ⟨v, l, rfl⟩ := h
    exact ⟨⟨[], (List.append_nil _).symm, rfl⟩, rfl, rfl⟩
  bays := hb
  frame := by
    obtain ⟨v, l, rfl⟩ := h
    rfl

theorem of_written {q : Pack} {d : Draft} (h : PackWritten s t q d) : BayStepped b q.tag s t [d] := by
  obtain ⟨-, hothers, haccepts, -, -, hframe⟩ := h
  have hbays : t.bays = s.bays := by rw [hframe]
  refine ⟨hothers, haccepts, fun c _ => ?_, by rw [hframe]⟩
  rw [bay_of_bays hbays]
  exact .refl _

theorem putApart (s : State) (b : BayId) (x : Bay) (n : Tag) : BayStepped b n s (putApart s b x) [] :=
  of_baysLinkOnly (baysLinkOnly_putApart s b x) (othersRegranted_putApart s b x)

theorem setBay (s : State) (b : BayId) (x : Bay) (n : Tag) : BayStepped b n s (s.setBay b x) [] :=
  of_baysLinkOnly (baysLinkOnly_setBay s b x) (othersRegranted_of_other fun c hc => bay_setBay_other s b c x hc)

theorem enterDischarging (s : State) (b : BayId) (n : Tag) : BayStepped b n s (enterDischarging s b) [] :=
  of_baysLinkOnly (baysLinkOnly_enterDischarging s b) (othersRegranted_enterDischarging s b)

theorem takesEvents (h : BayStepped b n s t ds) {m k : Nat} (hs : s.takesEvents m) (hk : ds.length + k ≤ m) : t.takesEvents k := by
  obtain ⟨hp, hh, hl⟩ := hs
  have hlen := h.accepts.length
  refine ⟨by rw [h.frame]; exact hp, by rw [h.frame]; exact hh, by omega⟩

end BayStepped

/-! ### The bay LOCKED with its pack (R14, R37, R42, R45) -/

/-- Bay `y` has of bay `x` all but its state, its times, trips and timers, what it has of the arbiter, and REQUESTED and RESTART. -/
def Bay.Settles (x y : Bay) : Prop :=
  y.locked = { x.locked with dischargeMs := y.dischargeMs, clearMs := y.clearMs, retryCount := y.retryCount }

theorem Bay.Settles.refl (x : Bay) : x.Settles x := rfl

theorem packLocked_of {b : BayId} {s u t : State} {p : Pack} {r : QuarReason} {ds : List Draft} (B : BayStepped b p.tag s u ds)
    (hx : (s.bay b).Settles (u.bay b)) (Q : Quarantined u t p r) (hb : p.bay = some b) (hp : (s.bay b).pack = some p.tag)
    (hc : t.core = s.core) :
    PackLocked b s t (p.quarantinedFor r) (ds ++ [drafted (p.quarantinedFor r) .quarantine (some b) (.quarantine r)]) := by
  have hq : u.queue = s.queue := by rw [B.frame]
  have hpu : (u.bay b).pack = some p.tag := (congrArg Bay.pack hx).trans hp
  obtain ⟨hbay, hothers⟩ := Q.locked b hb hpu
  have haccepts := B.accepts.append Q.accepts (by rw [B.frame])
  rw [hb] at haccepts
  refine ⟨Q.pack, fun n hn => (Q.others n hn).trans (B.others n hn), Q.queue.trans (by rw [hq]; rfl), ?_, ?_,
    (B.bays.trans hothers).words, haccepts, linkKept_of_core hc, queue_of_core hc, ?_⟩
  · rw [hbay]
    exact hpu
  · rw [hbay]
    exact hx
  · rw [Q.frame]
    conv_lhs => rw [B.frame]

/-- A bay that is LOCKED already stays as it is where it enters LOCKED again. -/
theorem PackLocked.lockBay {b : BayId} {s t : State} {q : Pack} {ds : List Draft} (h : PackLocked b s t q ds) :
    PackLocked b s (lockBay t b) q ds := by
  obtain ⟨hpack, hothers, hqueue, hbp, hbay, hbays, haccepts, hlink, hq, hframe⟩ := h
  have hout : (t.bay b).participant = false := by rw [hbay]
  have hsame : (Sys2Proof.Machine.lockBay t b).bay b = t.bay b := by
    rw [bay_lockBay, hbay]
    rfl
  have hl := baysLinkOnly_lockBay t b
  have hcore := lockBay_core t b
  have hrest : OthersRegranted b t (Sys2Proof.Machine.lockBay t b) := othersRegranted_lockBay t b
  have hwords : OtherBaysRegranted b s (Sys2Proof.Machine.lockBay t b) := fun c hc => by
    rw [(hrest c hc).frame, hbays c hc]
  refine ⟨(packs_of_baysLinkOnly hl _).trans hpack, fun n hn => (packs_of_baysLinkOnly hl n).trans (hothers n hn), ?_,
    (congrArg Bay.pack hsame).trans hbp, ?_, hwords, ?_, hlink.trans (linkKept_of_core hcore), (queue_of_core hcore).trans hq, ?_⟩
  · rw [hl.eq]
    exact hqueue
  · rw [hsame]
    exact hbay
  · rw [hl.eq]
    exact haccepts.congr rfl rfl rfl rfl rfl
  · obtain ⟨v, l, hvl⟩ := hl
    generalize Sys2Proof.Machine.lockBay t b = w at *
    subst hvl
    conv_lhs => rw [hframe]

end Sys2Proof.Machine
end

section
/-! The trip of a DISCHARGING bay (R36, R37, O45). -/

namespace Sys2Proof.Machine

/-! ### The trip tests, in their order (R36) -/

section
variable {x : Bay} {v : BaySettings} {u : Sample} {e : SampleEvent}

theorem tripTest_packThermal (h : x.overLimit = true) : tripTest x v u e = some .packThermal := if_pos h

theorem tripTest_sense (h : x.overLimit = false) (hl : e.lostNow = true) : tripTest x v u e = some .sense := by
  unfold tripTest
  rw [if_neg (ne_true_of_eq_false h), if_pos hl]

/-- The tests behind the pack's limit and the loss of sense. -/
theorem tripTest_tail (h : x.overLimit = false) (hl : e.lostNow = false) : tripTest x v u e =
    if (v.tripCurrent : Int) < u.current then some .overcurrent
    else if u.current < -100 then some .reverse
    else if e.completed = true ∧ v.tripTemp ≤ x.hAvg then some .heatsink
    else if 20 ≤ x.sustained then some .sustained else none := by
  unfold tripTest
  rw [if_neg (ne_true_of_eq_false h), if_neg (ne_true_of_eq_false hl)]
  simp only [Bool.and_eq_true, decide_eq_true_eq]

end

/-! ### What a bay does once its TRIP has its outcome (R37) -/

/-- The reason for which step 4 of a trip quarantines the pack (R37). -/
def Bay.tripReason (x : Bay) (k : TripKind) : Option QuarReason :=
  if k = .packThermal then some .packThermal
  else if x.settingsFor.retryLimit < x.retryCount then some .retryLimit else none

theorem tripReason_packThermal (x : Bay) : x.tripReason .packThermal = some .packThermal := if_pos rfl

theorem tripReason_retryLimit {x : Bay} {k : TripKind} (hk : k ≠ .packThermal) (h : x.settingsFor.retryLimit < x.retryCount) :
    x.tripReason k = some .retryLimit := by
  unfold Bay.tripReason
  rw [if_neg hk, if_pos h]

theorem tripReason_none {x : Bay} {k : TripKind} (hk : k ≠ .packThermal) (h : x.retryCount ≤ x.settingsFor.retryLimit) :
    x.tripReason k = none := by
  unfold Bay.tripReason
  rw [if_neg hk, if_neg (Nat.not_lt.2 h)]

theorem afterTrip_gone {s : State} {b : BayId} {n : Tag} (h : ¬((s.bay b).pack = some n ∧ (s.bay b).state ≠ .locked)) (k : TripKind)
    (a : Answer) : afterTrip s b n k a = s := by
  unfold afterTrip
  rw [if_pos]
  simp only [Bool.or_eq_true, decide_eq_true_eq]
  by_cases hp : (s.bay b).pack = some n
  · exact .inr (by_contra fun hs => h ⟨hp, hs⟩)
  · exact .inl hp

theorem afterTrip_eq {s : State} {b : BayId} {n : Tag} (hp : (s.bay b).pack = some n) (hs : (s.bay b).state ≠ .locked) (k : TripKind)
    (a : Answer) : afterTrip s b n k a = match (s.bay b).tripReason k with
      | some r =>
        if a = .quarantined then lockBay (submit s (.bayQuarantine b n r)).1 b
        else submitBay s (.bayQuarantine b n r) (fun s _ => lockBay s b)
      | none =>
        if a = .quarantined then lockBay s b
        else enterApart (s.setBay b { s.bay b with retryTimer := some (1000 * (s.bay b).settingsFor.retryDelay) }) b .tripped := by
  unfold afterTrip
  rw [if_neg]
  · rfl
  · simp only [hp, hs, ne_eq, not_true_eq_false, decide_false, Bool.or_self, Bool.false_eq_true, not_false_eq_true]

theorem afterTrip_limit {s : State} {b : BayId} {n : Tag} {k : TripKind} {r : QuarReason} {a : Answer} (hp : (s.bay b).pack = some n)
    (hs : (s.bay b).state ≠ .locked) (hr : (s.bay b).tripReason k = some r) (ha : a ≠ .quarantined) :
    afterTrip s b n k a = submitBay s (.bayQuarantine b n r) (fun s _ => lockBay s b) := by
  rw [afterTrip_eq hp hs, hr]
  exact if_neg ha

theorem afterTrip_tripped {s : State} {b : BayId} {n : Tag} {k : TripKind} {a : Answer} (hp : (s.bay b).pack = some n)
    (hs : (s.bay b).state ≠ .locked) (hr : (s.bay b).tripReason k = none) (ha : a ≠ .quarantined) :
    afterTrip s b n k a
      = enterApart (s.setBay b { s.bay b with retryTimer := some (1000 * (s.bay b).settingsFor.retryDelay) }) b .tripped := by
  rw [afterTrip_eq hp hs, hr]
  exact if_neg ha

theorem afterTrip_lock {s : State} {b : BayId} {n : Tag} {k : TripKind} (hp : (s.bay b).pack = some n)
    (hs : (s.bay b).state ≠ .locked) (hr : (s.bay b).tripReason k = none) : afterTrip s b n k .quarantined = lockBay s b := by
  rw [afterTrip_eq hp hs, hr]
  rfl

/-! ### Steps 1 to 3 of a trip (R37) -/

/-- The bay that trips: out of the arbiter, without command, one more trip counted. -/
def tripping (s : State) (b : BayId) : State :=
  putApart s b { s.bay b with clearMs := 0, sustained := 0, retryCount := min 8 ((s.bay b).retryCount + 1) }

theorem bayTrip_eq {s : State} {b : BayId} {n : Tag} (hp : (s.bay b).pack = some n) (k : TripKind) :
    bayTrip s b k = submitBay (tripping s b) (.trip b n k) (fun s a => afterTrip s b n k a) := by
  unfold bayTrip
  rw [hp]
  rfl

theorem stepped_tripping (s : State) (b : BayId) (n : Tag) : BayStepped b n s (tripping s b) [] := .putApart s b _ n

theorem bay_tripping (s : State) (b : BayId) : (tripping s b).bay b = { s.bay b with
    clearMs := 0, sustained := 0, retryCount := min 8 ((s.bay b).retryCount + 1), participant := false, request := 0, grant := 0
    command := 0 } := bay_putApart s b _

theorem pack_tripping (s : State) (b : BayId) (n : Tag) : (tripping s b).pack n = s.pack n :=
  packs_of_baysLinkOnly (baysLinkOnly_putApart s b _) n

section
variable {s : State} {b : BayId} {p : Pack} {v : BaySettings}

/-- The pack with its trip counted (R13). -/
def Pack.oneTripMore (p : Pack) : Pack := { p with trips := min 8 (p.trips + 1) }

/-- The bay has tripped and the TRIP record of its pack is written. -/
def tripWritten (s : State) (b : BayId) (p : Pack) (k : TripKind) : State :=
  writePack (tripping s b) p.oneTripMore .trip (some b) (.trip k)

theorem tripWritten_written (hp : s.bayPack b = some p) (k : TripKind) : PackWritten (tripping s b) (tripWritten s b p k)
    p.oneTripMore.counted (drafted p.oneTripMore.counted .trip (some b) (.trip k)) :=
  writePack_written (p := p.oneTripMore)
    (Option.isSome_of_eq_some ((pack_tripping s b p.tag).trans (pack_of_bayPack hp).2)) .trip (some b) (.trip k)

theorem stepped_tripWritten (hp : s.bayPack b = some p) (k : TripKind) : BayStepped b p.tag s (tripWritten s b p k)
    [drafted p.oneTripMore.counted .trip (some b) (.trip k)] :=
  (stepped_tripping s b p.tag).trans (.of_written (q := p.oneTripMore.counted) (tripWritten_written hp k))

theorem bay_tripWritten (hp : s.bayPack b = some p) (k : TripKind) : (tripWritten s b p k).bay b = (tripping s b).bay b := by
  obtain ⟨-, -, -, -, -, hframe⟩ := tripWritten_written hp k
  exact bay_of_bays (by rw [hframe]) b

theorem settles_tripping (s : State) (b : BayId) : (s.bay b).Settles ((tripping s b).bay b) := by
  rw [bay_tripping]
  rfl

theorem inBayPack_tripping (hp : s.bayPack b = some p) (hs : p.state = .inBay) (hb : p.bay = some b) :
    inBayPack (tripping s b) b p.tag = some p := inBayPack_some ((pack_tripping s b p.tag).trans (pack_of_bayPack hp).2) hs hb

/-! ### The TRIP taken at once (R13, R37, R155) -/

/-- Where the Custody Table quarantines the pack in place of the trip, or on it, the bay is LOCKED. -/
theorem bayTrip_quarantined (hp : s.bayPack b = some p) {u : State} {q : Pack} {r : QuarReason} {ds : List Draft} {k : TripKind} (htag : q.tag = p.tag)
    (hqb : q.bay = some b)
    (B : BayStepped b p.tag (tripping s b) u ds) (hu : u.bay b = (tripping s b).bay b) (hpu : (u.pack p.tag).isSome)
    (hn : s.takesEvents (ds.length + 1))
    (hevent : applyEvent (tripping s b) (.trip b p.tag k) = (quarantinePack u q r, .quarantined)) :
    PackLocked b s (bayTrip s b k) (q.quarantinedFor r)
        (ds ++ [drafted (q.quarantinedFor r) .quarantine (some b) (.quarantine r)])
      ∧ ((bayTrip s b k).bay b).retryCount = min 8 ((s.bay b).retryCount + 1) ∧ ((bayTrip s b k).bay b).clearMs = 0 := by
  obtain ⟨hpack, -⟩ := pack_of_bayPack hp
  rw [← htag] at hpu B
  have Q := quarantinePack_quarantined hpu r
  have hpacku : (u.bay b).pack = some q.tag := by rw [hu, bay_tripping, htag]; exact hpack
  obtain ⟨hlock, -⟩ := Q.locked b hqb hpacku
  obtain ⟨hrun, hheld, -⟩ := (stepped_tripping s b p.tag).takesEvents (k := ds.length + 1) hn (by simp)
  have hlen : (quarantinePack u q r).writer.buffer.length ≤ 64 := by
    obtain ⟨-, -, h0⟩ := (stepped_tripping s b p.tag).takesEvents (k := ds.length + 1) hn (by simp)
    rw [Q.accepts.length, B.accepts.length, List.length_singleton]
    omega
  have hT : bayTrip s b k = quarantinePack u q r := by
    rw [bayTrip_eq hpack, submitBay_taken hrun hheld (by rw [hevent]; exact hlen), hevent]
    exact afterTrip_gone (fun ⟨_, hx⟩ => hx (by rw [hlock]; rfl)) k _
  have hcore := bayTrip_core s b k
  rw [hT] at hcore ⊢
  refine ⟨packLocked_of (((htag ▸ stepped_tripping s b p.tag).trans B)) (hu ▸ settles_tripping s b) Q hqb (htag ▸ hpack) hcore, ?_, ?_⟩
  all_goals
    rw [hlock, hu, bay_tripping]
    rfl

variable (hd : (s.bay b).state = .discharging) (hp : s.bayPack b = some p) (hs : p.state = .inBay) (hb : p.bay = some b)
include hp hs hb

/-- Below the pack's caps the bay goes on with its TRIP record written. -/
theorem bayTrip_counted (hn : s.takesEvents 1) (hc : p.charge < 14) (ht : p.trips < 7) (k : TripKind) :
    bayTrip s b k = afterTrip (tripWritten s b p k) b p.tag k .continued := by
  have hevent : applyEvent (tripping s b) (.trip b p.tag k) = (tripWritten s b p k, .continued) :=
    takeTrip_counted (inBayPack_tripping hp hs hb) hc ht k
  obtain ⟨hrun, hheld, -⟩ := (stepped_tripping s b p.tag).takesEvents (k := 1) hn (Nat.le_refl 1)
  obtain ⟨-, -, hfit⟩ := (stepped_tripWritten hp k).takesEvents (k := 0) hn (Nat.le_refl 1)
  rw [bayTrip_eq (pack_of_bayPack hp).1, submitBay_taken hrun hheld (by rw [hevent]; exact hfit), hevent]

include hd

/-- A trip whose step 4 quarantines the pack. -/
theorem bayTrip_limit {k : TripKind} {r : QuarReason} (hn : s.takesEvents 2) (hc : p.charge < 14) (ht : p.trips < 7)
    (hr : ((tripping s b).bay b).tripReason k = some r) :
    PackLocked b s (bayTrip s b k) (p.oneTripMore.counted.quarantinedFor r)
        [drafted p.oneTripMore.counted .trip (some b) (.trip k),
          drafted (p.oneTripMore.counted.quarantinedFor r) .quarantine (some b) (.quarantine r)]
      ∧ ((bayTrip s b k).bay b).retryCount = min 8 ((s.bay b).retryCount + 1) ∧ ((bayTrip s b k).bay b).clearMs = 0 := by
  obtain ⟨hrun0, hheld0, hlen0⟩ := hn
  obtain ⟨hpack, -⟩ := pack_of_bayPack hp
  let q := p.oneTripMore.counted
  have B := stepped_tripWritten hp k
  have hbay := bay_tripWritten hp k
  have hx := bay_tripping s b
  have hwritten : (tripWritten s b p k).pack p.tag = some q := (tripWritten_written hp k).1
  rw [bayTrip_counted hp hs hb ⟨hrun0, hheld0, by omega⟩ hc ht k]
  have hcore : (afterTrip (tripWritten s b p k) b p.tag k .continued).core = s.core := by
    rw [← bayTrip_counted hp hs hb ⟨hrun0, hheld0, by omega⟩ hc ht k]
    exact bayTrip_core s b k
  have hset : (s.bay b).Settles ((tripWritten s b p k).bay b) := hbay ▸ settles_tripping s b
  generalize tripWritten s b p k = w at *
  have Q : Quarantined w (quarantinePack w q r) q r :=
    quarantinePack_quarantined (p := q) (Option.isSome_of_eq_some hwritten) r
  have hpackw : (w.bay b).pack = some q.tag := by rw [hbay, hx]; exact hpack
  obtain ⟨hlock, -⟩ := Q.locked b hb hpackw
  obtain ⟨hrun, hheld, hlen⟩ := B.takesEvents (m := 2) (k := 1) ⟨hrun0, hheld0, hlen0⟩ (Nat.le_refl 2)
  have hevent : applyEvent w (.bayQuarantine b p.tag r) = (quarantinePack w q r, .quarantined) :=
    takeBayQuarantine_eq hwritten (.inl hs) hb r
  have hT : afterTrip w b p.tag k .continued = lockBay (quarantinePack w q r) b := by
    rw [afterTrip_limit (n := p.tag) (a := .continued) hpackw (by rw [hbay, hx]; simp [hd]) (by rw [hbay]; exact hr) nofun, submitBay_taken hrun hheld, hevent]
    rw [hevent, Q.accepts.length, List.length_singleton]
    exact hlen
  have hcore' : (quarantinePack w q r).core = s.core := by
    rw [hT, lockBay_core] at hcore
    exact hcore
  rw [hT]
  refine ⟨PackLocked.lockBay (packLocked_of (p := q) B hset Q hb hpack hcore'), ?_, ?_⟩
  all_goals
    rw [bay_lockBay, hlock, hbay, hx]
    rfl

end

/-- Settles O45. -/
theorem tripTaken : Obligations.TripTaken := by
  refine ⟨fun x v u e => ?_, fun s b p v k hd hp hs hb hv hlt => ?_⟩
  · intro cur rev hot
    refine ⟨tripTest_packThermal, tripTest_sense, fun h hl hc => ?_, fun h hl hc hr => ?_, fun h hl hc hr hh => ?_,
      fun h hl hc hr hh hx => ?_, fun h hl hc hr hh hx => ?_⟩
    all_goals rw [tripTest_tail h hl]
    · exact if_pos hc
    · rw [if_neg hc, if_pos hr]
    · rw [if_neg hc, if_neg hr, if_pos hh]
    · rw [if_neg hc, if_neg hr, if_neg hh, if_pos hx]
    · rw [if_neg hc, if_neg hr, if_neg hh, if_neg (Nat.not_le.2 hx)]
  · intro t n tripped d locked
    have hcount : min 8 ((s.bay b).retryCount + 1) = n := by omega
    have hretry : ((tripping s b).bay b).retryCount = n := by rw [bay_tripping]; exact hcount
    have hset : ((tripping s b).bay b).settingsFor = v := by
      rw [bay_tripping]
      simp only [Bay.settingsFor, hv, Option.getD_some]
    obtain ⟨hpack, hentry⟩ := pack_of_bayPack hp
    have hsome : ((tripping s b).pack p.tag).isSome := Option.isSome_of_eq_some ((pack_tripping s b p.tag).trans hentry)
    have hin := inBayPack_tripping hp hs hb
    have limit {r : QuarReason} (hn : s.takesEvents 2) (hc : p.charge < 14) (ht : p.trips < 7)
        (hr : ((tripping s b).bay b).tripReason k = some r) : locked tripped r [d] := by
      obtain ⟨hl, hx, hm⟩ := bayTrip_limit hd hp hs hb hn hc ht hr
      exact ⟨hl, hx.trans hcount, hm⟩
    refine ⟨fun hn hc ht hk hr => ?_, fun hn hc ht => ?_, fun hn hc ht hk => limit hn hc ht ?_, fun hn hc ht hk hr => limit hn hc ht ?_,
      fun hn hc => ?_⟩
    · have hT := bayTrip_counted hp hs hb hn hc ht k
      have hbay := bay_tripWritten hp k
      have B := stepped_tripWritten hp k
      have hwritten : (tripWritten s b p k).pack p.tag = some tripped := (tripWritten_written hp k).1
      rw [afterTrip_tripped (a := .continued) (by rw [hbay, bay_tripping]; exact hpack) (by rw [hbay, bay_tripping]; simp [hd])
        (by rw [hbay]; exact tripReason_none hk (by rw [hset, hretry]; exact hr)) nofun, hbay, hset] at hT
      have hcore : t.core = s.core := bayTrip_core s b k
      let w := (tripWritten s b p k).setBay b { (tripping s b).bay b with retryTimer := some (1000 * v.retryDelay) }
      have W : BayStepped b p.tag s (enterApart w b .tripped) [d] := (B.trans (.setBay _ b _ _)).trans (.putApart w b _ _)
      have hpackt : (enterApart w b .tripped).pack p.tag = some tripped :=
        (packs_of_baysLinkOnly (baysLinkOnly_putApart w b _) _).trans hwritten
      have hbayt : (enterApart w b .tripped).bay b = { s.bay b with
          state := .tripped, participant := false, request := 0, grant := 0, command := 0, sustained := 0, clearMs := 0
          retryCount := n, retryTimer := some (1000 * v.retryDelay) } := by
        have hw : w.bay b = _ := bay_setBay _ b _
        have e : (enterApart w b .tripped).bay b = _ := bay_putApart w b _
        rw [e, hw, bay_tripping, hcount]
        rfl
      rw [← hT] at W hpackt hbayt
      refine ⟨?_, ?_, ?_, ?_, ?_, ?_, ?_, W.bays.words, hpackt, W.others, W.accepts, linkKept_of_core hcore, queue_of_core hcore, W.frame⟩
      all_goals rw [hbayt]
    · obtain ⟨hl, hx, hm⟩ := bayTrip_quarantined hp (q := tripped) (ds := [d]) rfl hb
        (.of_written (q := tripped) (tripWritten_written hp k)) (bay_tripWritten hp k)
        (Option.isSome_of_eq_some (tripWritten_written hp k).1) hn (takeTrip_eighth hin hc ht k)
      exact ⟨hl, hx.trans hcount, hm⟩
    · rw [hk]
      exact tripReason_packThermal _
    · exact tripReason_retryLimit hk (by rw [hset, hretry]; exact hr)
    · obtain ⟨hl, hx, hm⟩ := bayTrip_quarantined hp (q := p.oneTripMore) (ds := []) rfl hb
        (.of_baysLinkOnly (.refl _) fun _ _ => .refl _) rfl hsome hn (takeTrip_recordLimit hin hc k)
      exact ⟨hl, hx.trans hcount, hm⟩

end Sys2Proof.Machine
end

section
/-! The timers and times of a bay, and what its decisions come to (R32, R34, R35, R38 to R40, O46). -/

namespace Sys2Proof.Machine

/-! ### The bay's own quarantine of its pack (R14, R32, R35, R41) -/

theorem BayStepped.refl (b : BayId) (n : Tag) (s : State) : BayStepped b n s s [] :=
  .of_baysLinkOnly (.refl s) fun _ _ => .refl _

theorem packLocked_quarantinePack {b : BayId} {s w : State} {p : Pack} {r : QuarReason} (B : BayStepped b p.tag s w [])
    (hx : (s.bay b).Settles (w.bay b)) (hpack : (s.bay b).pack = some p.tag) (hentry : (w.pack p.tag).isSome) (hb : p.bay = some b)
    (hc : w.core = s.core) : PackLocked b s (quarantinePack w p r) (p.quarantinedFor r)
      [drafted (p.quarantinedFor r) .quarantine (some b) (.quarantine r)] :=
  packLocked_of B hx (quarantinePack_quarantined hentry r) hb hpack ((quarantinePack_core w p r).trans hc)

/-- A pack quarantined in the course of the bay's own event, its one record in the room that an event taken at once has. -/
theorem fits_quarantinePack {s : State} {p : Pack} (hentry : (s.pack p.tag).isSome) (hn : s.takesEvents 1) (r : QuarReason) :
    (quarantinePack s p r).writer.buffer.length ≤ 64 := by
  obtain ⟨-, -, hl⟩ := hn
  rw [(quarantinePack_quarantined hentry r).accepts.length]
  exact hl

theorem bayQuarantine_locked {b : BayId} {s w : State} {p : Pack} {r : QuarReason} (B : BayStepped b p.tag s w [])
    (hx : (s.bay b).Settles (w.bay b)) (hc : w.core = s.core) (hp : w.bayPack b = some p) (hs : p.state = .inBay ∨ p.state = .released)
    (hb : p.bay = some b) (hn : w.takesEvents 1) : PackLocked b s (bayQuarantine w b r) (p.quarantinedFor r)
      [drafted (p.quarantinedFor r) .quarantine (some b) (.quarantine r)] := by
  obtain ⟨hpack, hentry⟩ := pack_of_bayPack hp
  let v := putApart w b { w.bay b with retryTimer := none, restTimer := none }
  have V : BayStepped b p.tag w v [] := .putApart w b _ _
  have hv : v.pack p.tag = some p := (packs_of_baysLinkOnly (baysLinkOnly_putApart w b _) _).trans hentry
  have hsome := Option.isSome_of_eq_some hv
  have hvn : v.takesEvents 1 := V.takesEvents hn (Nat.le_refl 1)
  have hvx : (s.bay b).Settles (v.bay b) := by
    have e : v.bay b = _ := bay_putApart w b _
    rw [e]
    exact hx
  have hpacks : (s.bay b).pack = some p.tag := (congrArg Bay.pack hx).symm.trans hpack
  have hevent : applyEvent v (.bayQuarantine b p.tag r) = (quarantinePack v p r, .quarantined) := takeBayQuarantine_eq hv hs hb r
  have L : PackLocked b s (quarantinePack v p r) _ _ :=
    packLocked_quarantinePack (B.trans V) hvx hpacks hsome hb ((putApart_core w b _).trans hc)
  have hbp : ((quarantinePack v p r).bay b).pack = some p.tag := by
    obtain ⟨-, -, -, hbp, -⟩ := L
    exact hbp
  have hT : bayQuarantine w b r = lockBay (quarantinePack v p r) b := by
    have hfit := fits_quarantinePack hsome hvn r
    obtain ⟨hrun, hheld, -⟩ := hvn
    unfold bayQuarantine
    rw [hpack]
    change submitBay v _ _ = _
    rw [submitBay_taken hrun hheld (by rw [hevent]; exact hfit), hevent]
    exact if_pos hbp
  rw [hT]
  exact L.lockBay

/-! ### READY and REBOUND (R13, R32, R40) -/

theorem afterReady_continued {s : State} {b : BayId} {n : Tag} (hp : (s.bay b).pack = some n) (hs : (s.bay b).state ≠ .locked) :
    afterReady s b n .continued = enterApart s b .ready := by
  unfold afterReady
  rw [if_neg]
  simp only [hp, hs, ne_eq, not_true_eq_false, decide_false, Bool.or_self, Bool.false_eq_true, not_false_eq_true]

theorem afterReady_locked {s : State} {b : BayId} (h : (s.bay b).state = .locked) (n : Tag) (a : Answer) : afterReady s b n a = s := by
  unfold afterReady
  rw [if_pos]
  simp only [h, decide_true, Bool.or_true]

theorem afterRebound_continued {s : State} {b : BayId} {n : Tag} (hp : (s.bay b).pack = some n) (hs : (s.bay b).state ≠ .locked) :
    afterRebound s b n .continued = holdOrDischarge s b := by
  unfold afterRebound
  rw [if_neg]
  simp only [hp, hs, ne_eq, not_true_eq_false, decide_false, Bool.or_self, Bool.false_eq_true, not_false_eq_true]

theorem afterRebound_locked {s : State} {b : BayId} (h : (s.bay b).state = .locked) (n : Tag) (a : Answer) : afterRebound s b n a = s := by
  unfold afterRebound
  rw [if_pos]
  simp only [h, decide_true, Bool.or_true]

section
variable {s : State} {b : BayId} {p : Pack} (hp : s.bayPack b = some p) (hn : s.takesEvents 1)
include hp hn

/-- A bay's event on which the Custody Table quarantines the pack at once. -/
theorem submitBay_quarantined (hb : p.bay = some b) {e : PackEvent} {r : QuarReason} {act : State → Answer → State}
    (he : applyEvent s e = (quarantinePack s p r, .quarantined))
    (hact : ∀ u, (u.bay b).state = .locked → act u .quarantined = u) :
    PackLocked b s (submitBay s e act) (p.quarantinedFor r) [drafted (p.quarantinedFor r) .quarantine (some b) (.quarantine r)] := by
  obtain ⟨hpack, hentry⟩ := pack_of_bayPack hp
  have hsome := Option.isSome_of_eq_some hentry
  have hfit := fits_quarantinePack hsome hn r
  obtain ⟨hrun, hheld, -⟩ := hn
  have L : PackLocked b s (quarantinePack s p r) (p.quarantinedFor r)
      [drafted (p.quarantinedFor r) .quarantine (some b) (.quarantine r)] :=
    packLocked_quarantinePack (.refl b _ s) (.refl _) hpack hsome hb rfl
  rw [submitBay_taken hrun hheld (by rw [he]; exact hfit), he, hact]
  · exact L
  · obtain ⟨-, -, -, -, hbay, -⟩ := L
    rw [hbay]

/-- A bay's event that is written with one record, the bay going on from there. -/
theorem submitBay_written {e : PackEvent} {q : Pack} {k : RecordKind} {d : Detail} {act : State → Answer → State}
    (he : applyEvent s e = (writePack s q k (some b) d, .continued)) (htag : q.tag = p.tag) :
    submitBay s e act = act (writePack s q k (some b) d) .continued := by
  obtain ⟨-, hentry⟩ := pack_of_bayPack hp
  obtain ⟨hrun, hheld, hlen⟩ := hn
  have W := writePack_written (p := q) (by rw [htag]; exact Option.isSome_of_eq_some hentry) k (some b) d
  obtain ⟨-, -, haccepts, -⟩ := W
  rw [submitBay_taken hrun hheld (by rw [he, haccepts.length]; exact hlen), he]

end

theorem bayReady_eq {s : State} {b : BayId} {n : Tag} (hp : (s.bay b).pack = some n) :
    bayReady s b = submitBay s (.ready b n) (fun s a => afterReady s b n a) := by
  unfold bayReady
  rw [hp]

theorem bayRebound_eq {s : State} {b : BayId} {n : Tag} (hp : (s.bay b).pack = some n) :
    bayRebound s b = submitBay s (.rebound b n) (fun s a => afterRebound s b n a) := by
  unfold bayRebound
  rw [hp]

theorem holdOrDischarge_held {s : State} {b : BayId} (h : (s.bay b).holds.isEmpty = false) :
    holdOrDischarge s b = enterApart s b .held := if_neg (ne_true_of_eq_false h)

theorem holdOrDischarge_discharging {s : State} {b : BayId} (h : (s.bay b).holds.isEmpty = true) :
    holdOrDischarge s b = enterDischarging s b := if_pos h

theorem bay_enterApart (s : State) (b : BayId) (st : BayState) : (enterApart s b st).bay b = { s.bay b with
    state := st, participant := false, request := 0, grant := 0, command := 0, sustained := 0 } := bay_putApart s b _

theorem BayStepped.enterApart (s : State) (b : BayId) (st : BayState) (n : Tag) : BayStepped b n s (enterApart s b st) [] :=
  .putApart s b _ n

theorem packs_enterApart (s : State) (b : BayId) (st : BayState) (n : Tag) : (enterApart s b st).pack n = s.pack n :=
  packs_of_baysLinkOnly (baysLinkOnly_putApart s b _) n

/-! ### The rest decision (R40) -/

theorem restDecision_eq {s : State} {b : BayId} {p : Pack} {a : Averages} (hp : s.bayPack b = some p) (ha : (s.bay b).averages = some a) :
    restDecision s b = if a.voltage ≤ (s.releaseVoltage p : Int) then bayReady s b else bayRebound s b := by
  unfold restDecision
  rw [hp, ha]

theorem restDecision_open {s : State} {b : BayId} (ha : (s.bay b).averages = none) : restDecision s b = s := by
  unfold restDecision
  rw [ha]
  cases s.bayPack b <;> rfl

/-- A bay's event with its one record, and what the bay does behind it. -/
theorem written_then {s w t : State} {b : BayId} {q : Pack} {d : Draft} (W : PackWritten s w q d) (B : BayStepped b q.tag w t [])
    (hp : t.pack q.tag = w.pack q.tag) :
    t.pack q.tag = some q ∧ OtherPacks q.tag s t ∧ Accepts s t [d] ∧ OtherBaysRegranted b s t
      ∧ t = { s with packs := t.packs, bays := t.bays, writer := t.writer, line := t.line, link := t.link } := by
  have T : BayStepped b q.tag s t [d] := (BayStepped.of_written W).trans B
  obtain ⟨hpack, -⟩ := W
  exact ⟨hp.trans hpack, T.others, T.accepts, T.bays.words, T.frame⟩

theorem bay_of_written {s t : State} {q : Pack} {d : Draft} (W : PackWritten s t q d) (b : BayId) : t.bay b = s.bay b := by
  obtain ⟨-, -, -, -, -, hframe⟩ := W
  exact bay_of_bays (by rw [hframe]) b

section
variable {s : State} {b : BayId} {p : Pack} (hp : s.bayPack b = some p) (hn : s.takesEvents 1) (hc : p.charge < 14)
include hp hn hc

/-- READY below the record-charge limit (R32, R40). -/
theorem bayReady_released (hin : inBayPack s b p.tag = some p) (hl : (s.bay b).state ≠ .locked) :
    let q : Pack := { p with state := .released, charge := p.charge + 1 }
    let t := bayReady s b
    t.pack p.tag = some q ∧ OtherPacks p.tag s t ∧ Accepts s t [drafted q .ready (some b) .none]
      ∧ (t.bay b).state = .ready ∧ (t.bay b).command = 0 ∧ (t.bay b).participant = false ∧ OtherBaysRegranted b s t
      ∧ t = { s with packs := t.packs, bays := t.bays, writer := t.writer, line := t.line, link := t.link } := by
  intro q t
  obtain ⟨hpack, hentry⟩ := pack_of_bayPack hp
  have W : PackWritten s (writePack s { p with state := .released } .ready (some b) .none) q (drafted q .ready (some b) .none) :=
    writePack_written (p := { p with state := .released }) (Option.isSome_of_eq_some hentry) _ _ _
  have he := (takeReady_eq hin).trans (otherRecord_written hc s { p with state := .released } .ready (some b) .none)
  have hT := (bayReady_eq hpack).trans (submitBay_written hp hn he rfl)
  have hw := bay_of_written W b
  generalize writePack s { p with state := .released } .ready (some b) .none = w at *
  rw [afterReady_continued (by rw [hw]; exact hpack) (by rw [hw]; exact hl)] at hT
  have hbay := bay_enterApart w b .ready
  obtain ⟨hq, hothers, haccepts, hbays, hframe⟩ := written_then W (.enterApart w b .ready _) (packs_enterApart w b _ _)
  rw [← hT] at hq hothers haccepts hbays hframe hbay
  refine ⟨hq, hothers, haccepts, ?_, ?_, ?_, hbays, hframe⟩
  all_goals rw [hbay]

/-- REBOUND below its own cap and the record-charge limit (R40). -/
theorem bayRebound_counted (h3 : p.rebounds < 3) (hin : inBayPack s b p.tag = some p) (hl : (s.bay b).state ≠ .locked) :
    let q : Pack := { p with rebounds := p.rebounds + 1, charge := p.charge + 1 }
    let t := bayRebound s b
    t.pack p.tag = some q ∧ OtherPacks p.tag s t ∧ Accepts s t [drafted q .rebound (some b) .none]
      ∧ ((s.bay b).holds.isEmpty = false → (t.bay b).state = .held ∧ (t.bay b).command = 0 ∧ (t.bay b).participant = false)
      ∧ ((s.bay b).holds.isEmpty = true → (t.bay b).state = .discharging ∧ (t.bay b).participant = true)
      ∧ (t.bay b).restTimer = (s.bay b).restTimer ∧ OtherBaysRegranted b s t
      ∧ t = { s with packs := t.packs, bays := t.bays, writer := t.writer, line := t.line, link := t.link } := by
  intro q t
  obtain ⟨hpack, hentry⟩ := pack_of_bayPack hp
  have W : PackWritten s (writePack s { p with rebounds := p.rebounds + 1 } .rebound (some b) .none) q
      (drafted q .rebound (some b) .none) :=
    writePack_written (p := { p with rebounds := p.rebounds + 1 }) (Option.isSome_of_eq_some hentry) _ _ _
  have he := (takeRebound_eq hin).trans
    ((if_pos h3).trans (otherRecord_written hc s { p with rebounds := p.rebounds + 1 } .rebound (some b) .none))
  have hT := (bayRebound_eq hpack).trans (submitBay_written hp hn he rfl)
  have hw := bay_of_written W b
  generalize writePack s { p with rebounds := p.rebounds + 1 } .rebound (some b) .none = w at *
  rw [afterRebound_continued (by rw [hw]; exact hpack) (by rw [hw]; exact hl)] at hT
  by_cases hh : (s.bay b).holds.isEmpty = true
  · rw [holdOrDischarge_discharging (by rw [hw]; exact hh)] at hT
    obtain ⟨_, _, _, _, _, _, hbay⟩ := bay_enterDischarging_eq w b
    obtain ⟨hq, hothers, haccepts, hbays, hframe⟩ := written_then W (.enterDischarging w b _)
      (packs_of_baysLinkOnly (baysLinkOnly_enterDischarging w b) _)
    rw [← hT] at hq hothers haccepts hbays hframe hbay
    refine ⟨hq, hothers, haccepts, fun h => absurd hh (ne_true_of_eq_false h), fun _ => ⟨?_, ?_⟩, ?_, hbays, hframe⟩
    all_goals rw [hbay]
    rw [hw]
  · have hf := eq_false_of_ne_true hh
    rw [holdOrDischarge_held (by rw [hw]; exact hf)] at hT
    have hbay := bay_enterApart w b .held
    obtain ⟨hq, hothers, haccepts, hbays, hframe⟩ := written_then W (.enterApart w b .held _) (packs_enterApart w b _ _)
    rw [← hT] at hq hothers haccepts hbays hframe hbay
    refine ⟨hq, hothers, haccepts, fun _ => ⟨?_, ?_, ?_⟩, fun h => absurd h hh, ?_, hbays, hframe⟩
    all_goals rw [hbay]
    rw [hw]

end

/-- Settles O46. -/
theorem bayTimers : Obligations.BayTimers := by
  refine ⟨fun s b hr ha => ?_, fun s b hr ha => ?_, fun s b p hp hb hl => ?_, fun s b p => ?_⟩
  · refine ⟨fun ht => ?_, fun hd => ?_, fun ht => ?_, fun p hd hp hs hb hn => ?_⟩
    · have hout := live_out hr (fun s => finish s (retryExpired s b))
      rw [retryExpired, if_pos (by simp only [ht, ha, Bool.not_false, Bool.and_self])] at hout
      exact hout
    · have hout := live_out hr (fun s => finish s (clearReached s b))
      rw [clearReached, if_pos (by simp only [hd, ha, decide_true, Bool.not_false, Bool.and_self])] at hout
      exact hout
    · have hout := live_out hr (fun s => finish s (restExpired s b))
      rw [restExpired, if_pos (by simp only [ht, ha, Bool.not_false, Bool.and_self])] at hout
      exact hout
    · intro q
      let w := s.setBay b { s.bay b with dischargeMs := max (s.bay b).dischargeMs (1000 * (s.bay b).settingsFor.maxTime) }
      have hout := live_out hr (fun s => finish s (timeReached s b))
      rw [timeReached, if_pos (by simp only [hd, ha, decide_true, Bool.not_false, Bool.and_self])] at hout
      have hw : w.bay b = { s.bay b with dischargeMs := max (s.bay b).dischargeMs (1000 * (s.bay b).settingsFor.maxTime) } :=
        bay_setBay s b _
      have hwp : w.bayPack b = some p := by
        unfold State.bayPack
        rw [hw]
        exact hp
      exact ⟨_, hout, bayQuarantine_locked (.setBay s b _ _) (by rw [hw]; rfl) (setBay_core s b _) hwp (.inl hs) hb hn⟩
  · refine ⟨?_, ?_, ?_, ?_⟩
    · have hout := live_out hr (fun s => finish s (retryExpired s b))
      rw [retryExpired, if_neg (by simp [ha])] at hout
      exact hout
    · have hout := live_out hr (fun s => finish s (clearReached s b))
      rw [clearReached, if_neg (by simp [ha])] at hout
      exact hout
    · have hout := live_out hr (fun s => finish s (restExpired s b))
      rw [restExpired, if_neg (by simp [ha])] at hout
      exact hout
    · have hout := live_out hr (fun s => finish s (timeReached s b))
      rw [timeReached, if_neg (by simp [ha])] at hout
      exact hout
  · intro locked
    obtain ⟨hpack, hentry⟩ := pack_of_bayPack hp
    refine ⟨fun a hav hle => ?_, fun a hav hlt => ?_, restDecision_open, fun r hs hn => ?_, fun hs hn => ?_⟩
    · rw [restDecision_eq hp hav, if_pos hle]
    · rw [restDecision_eq hp hav, if_neg (Int.not_le.2 hlt)]
    · exact bayQuarantine_locked (.refl b _ s) (.refl _) rfl hp hs hb hn
    · have hin := inBayPack_some hentry hs hb
      have lockedReady {r : QuarReason} (he : applyEvent s (.ready b p.tag) = (quarantinePack s p r, .quarantined)) :
          locked (bayReady s b) r := by
        rw [bayReady_eq hpack]
        exact submitBay_quarantined hp hn hb he fun u hu => afterReady_locked hu _ _
      have lockedRebound {r : QuarReason} (he : applyEvent s (.rebound b p.tag) = (quarantinePack s p r, .quarantined)) :
          locked (bayRebound s b) r := by
        rw [bayRebound_eq hpack]
        exact submitBay_quarantined hp hn hb he fun u hu => afterRebound_locked hu _ _
      refine ⟨fun hc => ?_, fun hc => ?_, fun hc h3 => ?_, fun hc h3 => ?_, fun h3 => ?_⟩
      · exact bayReady_released hp hn hc hin hl
      · exact lockedReady ((takeReady_eq hin).trans (otherRecord_limit hc s _ _ _ _))
      · exact bayRebound_counted hp hn hc h3 hin hl
      · exact lockedRebound ((takeRebound_eq hin).trans ((if_pos h3).trans (otherRecord_limit hc s _ _ _ _)))
      · exact lockedRebound ((takeRebound_eq hin).trans (if_neg (Nat.not_lt.2 h3)))
  · intro r
    let x := { s.bay b with state := BayState.resting, restTimer := if r = 0 then none else some (1000 * r) }
    refine ⟨putApart s b x, ?_, bay_putApart s b x, (othersRegranted_putApart s b x).words, linkKept_of_core (putApart_core s b x),
      (baysLinkOnly_putApart s b x).eq⟩
    unfold enterResting
    simp only [Bool.and_eq_true, decide_eq_true_eq]
    rfl

end Sys2Proof.Machine
end

section
/-! What a bay does on a sample event, state by state (R31, R32, R34, R36, R38, R40, R41, R43, O60). -/

namespace Sys2Proof.Machine

theorem setBay_bay (s : State) (b : BayId) : s.setBay b (s.bay b) = s := by
  have e : vput s.bays b (s.bay b) = s.bays := Vector.set_getElem_self b.isLt
  rw [State.setBay, e]

/-! ### The renewed request of any bay (R58, R64) -/

theorem bay_renewRequest_frame {s : State} {b : BayId} {p : Pack} (hp : s.bayPack b = some p) :
    ∃ g c n, (renewRequest s b).bay b = { formRequest s p (s.bay b) with grant := g, command := c, sustained := n } := by
  have formed (x : Bay) : ∃ c n, x.formCommand = { x with command := c, sustained := n } := by
    unfold Bay.formCommand
    split <;> exact ⟨_, _, rfl⟩
  rw [renewRequest_eq hp, bay_reform]
  split
  · rw [bay_putBay]
    obtain ⟨c, n, e⟩ := formed (formRequest s p (s.bay b))
    exact ⟨_, c, n, e⟩
  · obtain ⟨g, c, n, e⟩ := (regranted_regrant (putBay s b (formRequest s p (s.bay b))) b).eta
    rw [bay_putBay] at e
    obtain ⟨c', n', e'⟩ := formed ((regrant (putBay s b (formRequest s p (s.bay b)))).bay b)
    rw [e', e]
    exact ⟨g, c', n', rfl⟩

/-! ### A bay's decisions on a sample event -/

theorem bayActs_nothing {s : State} {b : BayId} {e : SampleEvent} (h : s.awaiting b = true ∨ e.used = none ∨ s.bayPack b = none) :
    bayActs s b e = s := by
  unfold bayActs
  split
  · rfl
  · next hw =>
    split
    · next hu hp =>
      rw [hu, hp] at h
      simp [hw] at h
    · rfl

theorem bayActs_decides {s : State} {b : BayId} {e : SampleEvent} {p : Pack} {u : Sample} (hw : s.awaiting b = false)
    (hu : e.used = some u) (hp : s.bayPack b = some p) : bayActs s b e = bayDecides s b p u e := by
  unfold bayActs
  rw [hw, hu, hp]
  rfl

section
variable (s : State) {b : BayId} (p : Pack) {u : Sample} {e : SampleEvent}

theorem bayDecides_idle (h : (s.bay b).state = .empty ∨ (s.bay b).state = .locked) : bayDecides s b p u e = s := by
  unfold bayDecides
  dsimp only
  obtain h | h := h
  all_goals rw [h]

theorem bayDecides_reversed (h : (s.bay b).state = .placed) (hr : (s.bay b).reversalDue = true) (hv : e.valid = true)
    (hu : u.voltage < -100) : bayDecides s b p u e = bayQuarantine s b .placeFault := by
  unfold bayDecides
  dsimp only
  rw [h]
  dsimp only
  rw [if_pos (by simp only [hr, hv, hu, decide_true, Bool.and_self])]

/-- A PLACED bay whose pack is not reversed: the test of the first valid sample is done. -/
theorem bayDecides_placed (h : (s.bay b).state = .placed)
    (hn : ¬((s.bay b).reversalDue = true ∧ e.valid = true ∧ u.voltage < -100)) :
    bayDecides s b p u e = (let y := s.setBay b { s.bay b with reversalDue := (s.bay b).reversalDue && !e.valid }
      if (s.bay b).overLimit then bayQuarantine y b .packThermal
      else if e.completed && (s.bay b).sense = .good && !(s.bay b).holds.restart then placedDecision y b p (s.bay b).vAvg
      else y) := by
  have hy (st : BayState) (hst : (s.bay b).state = st) :
      (if e.valid then s.setBay b { s.bay b with state := st, reversalDue := false } else s)
      = s.setBay b { s.bay b with reversalDue := (s.bay b).reversalDue && !e.valid } := by
    subst hst
    cases hv : e.valid with
    | true => simp
    | false =>
      rw [if_neg Bool.false_ne_true, Bool.not_false, Bool.and_true]
      exact (setBay_bay s b).symm
  unfold bayDecides
  dsimp only
  conv_lhs => rw [h]
  dsimp only
  rw [if_neg (by simpa only [Bool.and_eq_true, decide_eq_true_eq, and_assoc] using hn), hy .placed h]

theorem bayDecides_discharging (h : (s.bay b).state = .discharging) : bayDecides s b p u e = dischargingEvent s b p u e := by
  unfold bayDecides
  dsimp only
  rw [h]

/-- In every state with a report of its own but DISCHARGING, a pack over its limit is quarantined. -/
theorem bayDecides_overLimit (h : (s.bay b).state = .held ∨ (s.bay b).state = .tripped ∨ (s.bay b).state = .resting
    ∨ (s.bay b).state = .ready) (hl : (s.bay b).overLimit = true) : bayDecides s b p u e = bayQuarantine s b .packThermal := by
  unfold bayDecides
  dsimp only
  obtain h | h | h | h := h
  all_goals
    rw [h]
    exact if_pos hl

section
variable (hl : (s.bay b).overLimit = false)
include hl

theorem bayDecides_held (h : (s.bay b).state = .held) : bayDecides s b p u e
    = if e.regained = true ∧ (s.bay b).holds.isEmpty = true then enterDischarging s b else s := by
  unfold bayDecides
  dsimp only
  rw [h]
  dsimp only
  rw [if_neg (ne_true_of_eq_false hl)]
  simp only [Bool.and_eq_true]

theorem bayDecides_tripped (h : (s.bay b).state = .tripped) : bayDecides s b p u e
    = if (s.bay b).retryTimer = none ∧ e.valid = true ∧ u.heatsink ≤ (s.bay b).settingsFor.restartTemp
      then holdOrDischarge s b else s := by
  unfold bayDecides
  dsimp only
  rw [h]
  dsimp only
  rw [if_neg (ne_true_of_eq_false hl)]
  simp only [Bool.and_eq_true, decide_eq_true_eq, Option.isNone_iff_eq_none, and_assoc]

theorem bayDecides_resting (h : (s.bay b).state = .resting) : bayDecides s b p u e
    = if (s.bay b).restTimer = none ∧ e.completed = true ∧ (s.bay b).sense = .good then restDecision s b else s := by
  unfold bayDecides
  dsimp only
  rw [h]
  dsimp only
  rw [if_neg (ne_true_of_eq_false hl)]
  simp only [Bool.and_eq_true, decide_eq_true_eq, Option.isNone_iff_eq_none, and_assoc]

theorem bayDecides_ready (h : (s.bay b).state = .ready) : bayDecides s b p u e = s := by
  unfold bayDecides
  dsimp only
  rw [h]
  exact if_neg (ne_true_of_eq_false hl)

end

/-- The sustained count of R36. -/
theorem sustainedAfter_eq (x : Bay) (done : Bool) : sustainedAfter x done =
    (let i := (x.averages.map Averages.current).getD 0
    let f : Int := ((x.command * 125 / 100 : Nat) : Int)
    if 100 ≤ x.command ∧ f < i then min 20 (x.sustained + 1) else if done = true ∧ i ≤ f then 0 else x.sustained) := by
  unfold sustainedAfter
  simp only [Bool.and_eq_true, decide_eq_true_eq]
  rfl

theorem dischargingEvent_eq : dischargingEvent s b p u e =
    (let z : Bay := { s.bay b with sustained := sustainedAfter (s.bay b) e.completed }
    let y := s.setBay b z
    match tripTest z (s.bay b).settingsFor u e with
    | some k => bayTrip y b k
    | none => if e.completed then (if s.endMet p (s.bay b).vAvg then enterResting y b p else renewRequest y b) else y) := rfl

end

/-- Settles O60. -/
theorem bayActs_stateByState : Obligations.BayActs := by
  refine ⟨fun s b e => bayActs_nothing, fun s b e p u hw hu hp => ?_, fun s b x => ?_, fun s b p hp => ?_⟩
  · intro x t
    have hT : t = bayDecides s b p u e := bayActs_decides hw hu hp
    refine ⟨fun h => hT.trans (bayDecides_idle s p h), fun h hr hv hlt => hT.trans (bayDecides_reversed s p h hr hv hlt),
      fun h hn => ?_, fun h => ?_, fun h hl => hT.trans (bayDecides_overLimit s p h hl), fun h hl => hT.trans (bayDecides_held s p hl h),
      fun h hl => ?_, fun h hl => hT.trans (bayDecides_resting s p hl h), fun h hl => hT.trans (bayDecides_ready s p hl h)⟩
    · intro y due
      have hy : y.bay b = { x with reversalDue := x.reversalDue && !e.valid } := bay_setBay s b _
      have hP := hT.trans (bayDecides_placed s p h hn)
      have hdue : due → t = placedDecision y b p x.vAvg := by
        rintro ⟨hl, hc, hs, hr⟩
        dsimp only at hP
        rw [if_neg (ne_true_of_eq_false hl), if_pos] at hP
        · exact hP
        · simp only [hc, Bool.true_and, Bool.and_eq_true, decide_eq_true_eq, Bool.not_eq_true']
          exact ⟨hs, hr⟩
      refine ⟨fun hl => hP.trans (if_pos hl), fun hd hv => ?_, fun hd hv hr => ?_, fun hd hv hr hh => ?_, fun hd hv hr hh => ?_,
        fun hl hd => ?_⟩
      · exact (hdue hd).trans (if_pos hv)
      · rw [hdue hd, placedDecision, if_neg (Int.not_lt.2 hv)]
        exact if_pos hr
      · rw [hdue hd, placedDecision, if_neg (Int.not_lt.2 hv), if_neg]
        · exact holdOrDischarge_discharging (by rw [hy]; exact hh)
        · exact Int.not_le.2 hr
      · rw [hdue hd, placedDecision, if_neg (Int.not_lt.2 hv), if_neg]
        · exact holdOrDischarge_held (by rw [hy]; exact hh)
        · exact Int.not_le.2 hr
      · dsimp only at hP
        rw [if_neg (ne_true_of_eq_false hl), if_neg] at hP
        · exact hP
        · intro hx
          simp only [Bool.and_eq_true, decide_eq_true_eq, Bool.not_eq_true'] at hx
          obtain ⟨⟨hc, hs⟩, hr⟩ := hx
          exact hd ⟨hl, hc, hs, hr⟩
    · intro i f n z y ended
      have hn : sustainedAfter x e.completed = n := sustainedAfter_eq x e.completed
      have hP := hT.trans ((bayDecides_discharging s p h).trans (dischargingEvent_eq s p))
      dsimp only at hP
      rw [hn] at hP
      have hend : s.endMet p x.vAvg = true ↔ ended := endMet_iff s p x.vAvg
      refine ⟨fun k hk => ?_, fun hk hc => ?_, fun hk hc he => ?_, fun hk hc he => ?_⟩
      all_goals
        rw [show tripTest _ _ u e = _ from hk] at hP
        dsimp only at hP
      · exact hP
      · rw [hc] at hP
        exact hP
      · rw [hc, if_pos rfl, if_pos (hend.2 he)] at hP
        exact hP
      · rw [hc, if_pos rfl, if_neg fun h => he (hend.1 h)] at hP
        exact hP
    · intro restarts
      have hP := hT.trans (bayDecides_tripped s p hl h)
      refine ⟨fun hr hh => ?_, fun hr hh => ?_, fun hr => hP.trans (if_neg hr)⟩
      · exact hP.trans ((if_pos hr).trans (holdOrDischarge_discharging hh))
      · exact hP.trans ((if_pos hr).trans (holdOrDischarge_held hh))
  · exact ⟨bay_putApart s b x, (othersRegranted_putApart s b x).words, linkKept_of_core (putApart_core s b x),
      (baysLinkOnly_putApart s b x).eq⟩
  · intro t x
    refine ⟨?_, fun hpart => ?_, fun hpart hne => ?_, (othersRegranted_renewRequest hp).words, linkKept_of_core (renewRequest_core s b),
      (baysLinkOnly_renewRequest s b).eq⟩
    · obtain ⟨g, c, n, hx⟩ := bay_renewRequest_frame hp
      have ht : t.bay b = _ := hx
      rw [ht]
    · have hframe := (bay_renewRequest hp hpart).frame
      exact congrArg Bay.command hframe
    · have hF := filled_renewRequest hp hne
      unfold State.Filled at hF
      rw [effective_of_baysLinkOnly (baysLinkOnly_renewRequest s b)] at hF
      exact hF

end Sys2Proof.Machine
end

section
/-! The held pack events, what each kind of event comes to, and a bay behind its TRIP (R13 to R16, R37, R155, O47). -/

namespace Sys2Proof.Machine

/-! ### The oldest held event (R155) -/

/-- Behind a held event that ends a feed, the FEED_CLEAR that waited for it is answered (R140). -/
def heldAnswered (s : State) : PackEvent → State
  | .fed n _ | .feedRemoved n => answerFeed s n
  | _ => s

section
variable {s : State} {e : PackEvent} {r : List PackEvent} (hh : s.held = e :: r)
include hh

theorem takeHeld_waits (hp : s.phase ≠ .running) : takeHeld s = s := by
  unfold takeHeld
  rw [hh]
  exact if_pos hp

theorem takeHeld_dropped (hp : s.phase = .running) (hw : stillWanted s e = false) : takeHeld s = tryFeed { s with held := r } := by
  unfold takeHeld
  rw [hh]
  dsimp only
  rw [if_neg (not_not.2 hp), hw]
  rfl

variable (hp : s.phase = .running) (hw : stillWanted s e = true)
include hp hw

theorem takeHeld_full (hf : 64 < (applyEvent { s with held := r } e).1.writer.buffer.length) : takeHeld s = s := by
  have hfits : (applyEvent { s with held := r } e).1.fits = false := decide_eq_false (Nat.not_le.2 hf)
  unfold takeHeld
  rw [hh]
  dsimp only
  rw [if_neg (not_not.2 hp), hw, hfits]
  rfl

theorem takeHeld_taken (hf : (applyEvent { s with held := r } e).1.writer.buffer.length ≤ 64) :
    takeHeld s = heldAnswered (afterHeld s (applyEvent { s with held := r } e).1 e (applyEvent { s with held := r } e).2) e := by
  have hfits : (applyEvent { s with held := r } e).1.fits = true := decide_eq_true hf
  unfold takeHeld
  rw [hh]
  dsimp only
  rw [if_neg (not_not.2 hp), hw, hfits]
  cases e <;> rfl

end

theorem stillWanted_iff (s : State) (e : PackEvent) :
    stillWanted s e = true ↔ ∀ n, e = .feeding n → s.feeder.state = .ready ∧ s.queue.head? = some n := by
  cases e with
  | feeding n =>
    simp only [stillWanted, Bool.and_eq_true, decide_eq_true_eq, PackEvent.feeding.injEq, forall_eq']
  | _ => exact iff_of_true rfl nofun

/-! ### Events whose pack is not where it is expected (R13 to R16) -/

section
variable {s : State} {b : BayId} {n : Tag}

theorem event_ignored {e : Pack → Bool} (h : ∀ p, s.pack n = some p → e p = false) : (s.pack n).filter e = none :=
  Option.filter_eq_none_iff.2 fun p hp hpe => Bool.false_ne_true ((h p hp).symm.trans hpe)

theorem takeBayQuarantine_ignored (h : ∀ p, s.pack n = some p → ¬((p.state = .inBay ∨ p.state = .released) ∧ p.bay = some b))
    (r : QuarReason) : takeBayQuarantine s b n r = (s, .ignored) := by
  unfold takeBayQuarantine
  rw [event_ignored fun p hp => by simpa using h p hp]

theorem takeFeeding_ignored (h : ∀ p, s.pack n = some p → ¬(p.state = .staged ∧ s.queue.head? = some n)) :
    takeFeeding s n = (s, .ignored) := by
  unfold takeFeeding
  rw [event_ignored fun p hp => by simpa using h p hp]

theorem takeFed_ignored (h : ∀ p, s.pack n = some p → p.state ≠ .feeding) (late : Bool) : takeFed s n late = (s, .ignored) := by
  unfold takeFed
  rw [event_ignored fun p hp => decide_eq_false (h p hp)]

theorem takeFeedRemoved_ignored (h : ∀ p, s.pack n = some p → p.state ≠ .feeding) : takeFeedRemoved s n = (s, .ignored) := by
  unfold takeFeedRemoved
  rw [event_ignored fun p hp => decide_eq_false (h p hp)]

theorem exposable_iff (p : Pack) : exposable p = true ↔
    p.state = .inBay ∨ p.state = .staged ∨ p.state = .feeding ∨ (p.state = .released ∧ p.bay.isSome = true) := by
  unfold exposable
  cases p.state <;> simp

theorem takeExpose_ignored (h : ∀ p, s.pack n = some p → ¬exposable p = true) (i : BitVec 16) : takeExpose s n i = (s, .ignored) := by
  unfold takeExpose
  rw [event_ignored fun p hp => eq_false_of_ne_true (h p hp)]

/-! ### Events taken (R13 to R16) -/

variable {p : Pack} (hp : s.pack n = some p)
include hp

theorem takeFed_taken (h : p.state = .feeding) (late : Bool) : takeFed s n late = (exitPack s p .fed late, .continued) := by
  unfold takeFed
  rw [hp, Option.filter_some, if_pos (decide_eq_true h)]

theorem takeFeedRemoved_taken (h : p.state = .feeding) : takeFeedRemoved s n = (quarantinePack s p .requested, .quarantined) := by
  unfold takeFeedRemoved
  rw [hp, Option.filter_some, if_pos (decide_eq_true h)]

theorem takeExpose_eq (i : BitVec 16) (h : exposable p = true) : takeExpose s n i =
    if p.exposure = some ⟨i, false⟩ then (s, .continued)
    else
      let q := { p with exposure := some ⟨i, false⟩ }
      if 14 ≤ p.charge ∧ p.state = .feeding then (putPack s q, .continued)
      else otherRecord s p q .expose p.bay (.incident i) := by
  unfold takeExpose
  rw [hp, Option.filter_some, if_pos h]

end

/-- An event answered with a record has written it (R12). -/
theorem wrote_of {s : State} {a : State × Answer} {q : Pack} {k : RecordKind} {bay : Option BayId} {d : Detail}
    (he : a = (writePack s q k bay d, .continued)) (hq : (s.pack q.tag).isSome) :
    a.2 = .continued ∧ PackWritten s a.1 q.counted (drafted q.counted k bay d) := by
  subst he
  exact ⟨rfl, writePack_written hq k bay d⟩

/-- An event that changes the entry without a record. -/
theorem put_of {s : State} {a : State × Answer} {q : Pack} (he : a = (putPack s q, .continued)) (hq : (s.pack q.tag).isSome) :
    a.2 = .continued ∧ a.1.pack q.tag = some q ∧ OtherPacks q.tag s a.1 ∧ LinkKept s a.1
      ∧ a.1 = { s with packs := a.1.packs, link := a.1.link } := by
  subst he
  exact ⟨rfl, pack_putPack hq, otherPacks_putPack s q, linkKept_putPack s q, rfl⟩

theorem exec_heldPackEventTaken {s : State} (hr : s.inReset = false) : exec .heldPackEventTaken s = .next (finish s (takeHeld s)) :=
  live_out hr (fun s => finish s (takeHeld s))

/-- The event of step 4 is submitted for the reason that the trip gives. -/
theorem tripReason_eq_some {x : Bay} {v : BaySettings} {k : TripKind} {r : QuarReason} (hv : x.settings = some v)
    (h : (k = .packThermal ∧ r = .packThermal) ∨ (k ≠ .packThermal ∧ v.retryLimit < x.retryCount ∧ r = .retryLimit)) :
    x.tripReason k = some r := by
  obtain ⟨rfl, rfl⟩ | ⟨hk, hlt, rfl⟩ := h
  · exact tripReason_packThermal x
  · exact tripReason_retryLimit hk (by simpa only [Bay.settingsFor, hv, Option.getD_some] using hlt)

theorem tripReason_eq_none {x : Bay} {v : BaySettings} {k : TripKind} (hv : x.settings = some v)
    (h : ∀ r : QuarReason, ¬((k = .packThermal ∧ r = .packThermal) ∨
      (k ≠ .packThermal ∧ v.retryLimit < x.retryCount ∧ r = .retryLimit))) :
    x.tripReason k = none := by
  have hk : k ≠ .packThermal := fun hk => h .packThermal (.inl ⟨hk, rfl⟩)
  refine tripReason_none hk ?_
  simp only [Bay.settingsFor, hv, Option.getD_some]
  exact Nat.le_of_not_lt fun hlt => h .retryLimit (.inr ⟨hk, hlt, rfl⟩)

/-- Settles O47. -/
theorem heldEventTaken : Obligations.HeldEventTaken := by
  refine ⟨fun s e r hr hh => ?_, fun s e => ?_, fun s b n k r late i => ?_, fun s b n k a v hv => ?_⟩
  · intro a wanted
    have hout := exec_heldPackEventTaken hr
    have hw : stillWanted s e = true ↔ wanted := stillWanted_iff s e
    refine ⟨fun hp => ?_, fun hp hn => ?_, fun hp hwant hf => ?_, fun hp hwant hf => ?_⟩
    · rw [takeHeld_waits hh (by rw [hp]; nofun)] at hout
      exact hout
    · rw [takeHeld_dropped hh hp (eq_false_of_ne_true fun h => hn (hw.1 h))] at hout
      exact hout
    · rw [takeHeld_full hh hp (hw.2 hwant) hf] at hout
      exact hout
    · rw [takeHeld_taken hh hp (hw.2 hwant) hf] at hout
      rw [hout]
      cases e <;> rfl
  · intro a
    refine ⟨fun hp hh hf => submit_taken hp hh ((fits_iff _).2 hf), fun h => submit_held fun ⟨hp, hh, hf⟩ => ?_⟩
    obtain h | h | h := h
    · exact h hp
    · exact h hh
    · exact Nat.not_lt.2 ((fits_iff _).1 hf) h
  · intro here fed open_
    refine ⟨fun h => ?_, fun h => takeBayQuarantine_ignored h r, takeFeeding_ignored,
      fun h => ⟨takeFed_ignored h late, takeFeedRemoved_ignored h⟩,
      fun h => takeExpose_ignored (fun p hp he => h p hp ((exposable_iff p).1 he)) i, fun p hp => ?_⟩
    · have hnone := inBayPack_none h
      refine ⟨?_, ?_, ?_⟩
      · change takeTrip s b n k = _
        rw [takeTrip, hnone]
      · change takeRebound s b n = _
        rw [takeRebound, hnone]
      · change takeReady s b n = _
        rw [takeReady, hnone]
    · intro limited wrote
      obtain rfl : p.tag = n := tag_of_pack hp
      have hsome := Option.isSome_of_eq_some hp
      have hin : here p → inBayPack s b p.tag = some p := fun ⟨hs, hb⟩ => inBayPack_some hp hs hb
      refine ⟨fun hx hc ht => ?_, fun hx hc ht => ?_, fun hx hc => takeTrip_recordLimit (hin hx) hc k, fun hx hc h3 => ?_,
        fun hx hc h3 => ?_, fun hx h3 => (takeRebound_eq (hin hx)).trans (if_neg (Nat.not_lt.2 h3)), fun hx hc => ?_,
        fun hx hc => (takeReady_eq (hin hx)).trans (otherRecord_limit hc s _ _ _ _), fun hs hb => takeBayQuarantine_eq hp hs hb r,
        fun hs hq => ?_, fun hf => takeFed_taken hp hf late, takeFeedRemoved_taken hp, fun ho he => ?_, fun ho he hc => ?_,
        fun ho he hc hf => ?_, fun he hc hf => ?_⟩
      · have he := takeTrip_counted (hin hx) hc ht k
        rw [Nat.min_eq_right (by omega)] at he
        exact wrote_of he hsome
      · have he := takeTrip_eighth (hin hx) hc ht k
        rw [Nat.min_eq_left (by omega)] at he
        exact ⟨_, writePack_written (p := { p with trips := 8 }) hsome .trip (some b) (.trip k), he⟩
      · exact wrote_of (q := { p with rebounds := p.rebounds + 1 })
          ((takeRebound_eq (hin hx)).trans ((if_pos h3).trans (otherRecord_written hc s _ _ _ _))) hsome
      · exact (takeRebound_eq (hin hx)).trans ((if_pos h3).trans (otherRecord_limit hc s _ _ _ _))
      · exact wrote_of (q := { p with state := .released }) ((takeReady_eq (hin hx)).trans (otherRecord_written hc s _ _ _ _)) hsome
      · exact put_of (q := { p with state := .feeding }) (takeFeeding_staged hq hp hs) hsome
      · exact (takeExpose_eq hp i ((exposable_iff p).2 ho)).trans (if_pos he)
      · have hT := takeExpose_eq hp i ((exposable_iff p).2 ho)
        rw [if_neg he] at hT
        dsimp only at hT
        rw [if_neg fun h => Nat.not_le.2 hc h.1, otherRecord_written hc] at hT
        exact wrote_of hT hsome
      · have hT := takeExpose_eq hp i ((exposable_iff p).2 ho)
        rw [if_neg he] at hT
        dsimp only at hT
        rw [if_neg fun h => hf h.2, otherRecord_limit hc] at hT
        exact hT
      · have hT := takeExpose_eq hp i ((exposable_iff p).2 (.inr (.inr (.inl hf))))
        rw [if_neg he] at hT
        dsimp only at hT
        rw [if_pos ⟨hc, hf⟩] at hT
        exact put_of hT hsome
  · intro x t waits limit event
    refine ⟨fun h => afterTrip_gone h k a, fun ⟨hx, hs⟩ ha hl => ?_, fun r ⟨hx, hs⟩ ha hl hp hh hf => ?_,
      fun r ⟨hx, hs⟩ ha hl hfull => ?_, fun ⟨hx, hs⟩ ha hl => ?_⟩
    · have ht : t = _ := congrArg (afterTrip s b n k) ha
      exact ht.trans (afterTrip_lock hx hs (tripReason_eq_none hv hl))
    · exact (afterTrip_limit hx hs (tripReason_eq_some hv hl) ha).trans (submitBay_taken hp hh hf _)
    · refine (afterTrip_limit hx hs (tripReason_eq_some hv hl) ha).trans (submitBay_held (fun ⟨hp, hh, hf⟩ => ?_) _)
      obtain h | h | h := hfull
      · exact h hp
      · exact h hh
      · exact Nat.not_lt.2 hf h
    · have hset : (s.bay b).settingsFor = v := by simp only [Bay.settingsFor, hv, Option.getD_some]
      have ht := afterTrip_tripped hx hs (tripReason_eq_none hv hl) ha
      rw [hset] at ht
      exact ht

end Sys2Proof.Machine
end

section
/-! A sample event of a bay, measured (R27 to R30, R49 to R54, O44). -/

namespace Sys2Proof.Machine

/-! ### Blocks (R50, R52) -/

theorem blockAdd_open {n : Nat} {o : Option Block} (u : Sample) (h : (o.getD ⟨2 ^ n, 0, 0, 0, 0⟩).count + 1 < (o.getD ⟨2 ^ n, 0, 0, 0, 0⟩).length) :
    blockAdd n o u = (let k := o.getD ⟨2 ^ n, 0, 0, 0, 0⟩
      (some ⟨k.length, k.count + 1, k.voltage + u.voltage, k.current + u.current, k.heatsink + u.heatsink⟩, none)) :=
  if_neg (Nat.not_le.2 h)

theorem blockAdd_complete {n : Nat} {o : Option Block} (u : Sample)
    (h : (o.getD ⟨2 ^ n, 0, 0, 0, 0⟩).length ≤ (o.getD ⟨2 ^ n, 0, 0, 0, 0⟩).count + 1) :
    blockAdd n o u = (let k := o.getD ⟨2 ^ n, 0, 0, 0, 0⟩
      (none, some ⟨(k.voltage + u.voltage).tdiv k.length, (k.current + u.current).tdiv k.length,
        (k.heatsink + u.heatsink).tdiv k.length⟩)) := if_pos h

/-! ### The pack-over-limit report (R29) -/

theorem overLimitAfter_class {s : State} {b : BayId} {p : Pack} {c : ClassSettings} (hp : s.bayPack b = some p)
    (hc : s.classes[p.cls] = some c) (u : Sample) : overLimitAfter s b u = decide (c.limit < u.packTemp) := by
  unfold overLimitAfter
  rw [hp]
  dsimp only
  rw [hc]

theorem overLimitAfter_none {s : State} {b : BayId}
    (h : s.bayPack b = none ∨ ∃ p, s.bayPack b = some p ∧ s.classes[p.cls] = none) (u : Sample) : overLimitAfter s b u = false := by
  unfold overLimitAfter
  obtain h | ⟨p, hp, hc⟩ := h
  · rw [h]
  · rw [hp]
    dsimp only
    rw [hc]

/-! ### Energy (R53, R54) -/

/-- The energy of a sample's used values, in the states that take it. -/
def energyTaken (s : State) (b : BayId) (w : Sample) : State := if takesEnergy (s.bay b).state then addEnergy s b w else s

/-- The residue of bay `b` with the power term of `w`. -/
def residueWith (x : Bay) (w : Sample) : Nat := x.residue + w.voltage.toNat * w.current.toNat

/-- From `s` to `t` bay `b` has become `y`, its residue apart, and its pack and residue have taken the energy of `w`. -/
structure Measured (s t : State) (b : BayId) (y : Bay) (w : Sample) : Prop where
  bay : t.bay b = { y with residue := (t.bay b).residue }
  others : OtherBays b s t
  frame : t = { s with bays := t.bays, packs := t.packs, link := t.link }
  taken : ∀ p, s.bayPack b = some p → takesEnergy (s.bay b).state = true →
    (t.bay b).residue = residueWith (s.bay b) w % 3600000
    ∧ t.packs = (s.setPack { p with energy := min 4294967295 (p.energy + residueWith (s.bay b) w / 3600000) }).packs
  kept : s.bayPack b = none ∨ takesEnergy (s.bay b).state = false → (t.bay b).residue = (s.bay b).residue ∧ t.packs = s.packs

theorem eq_with_residue {x y : Bay} {n : Nat} (h : y = { x with residue := n }) : y = { x with residue := y.residue } := by rw [h]

theorem measured_energyTaken {s : State} {b : BayId} {y : Bay} (hstate : y.state = (s.bay b).state) (hpack : y.pack = (s.bay b).pack)
    (hres : y.residue = (s.bay b).residue) (w : Sample) : Measured s (energyTaken (putBay s b y) b w) b y w := by
  have hbay := bay_putBay s b y
  have hothers := otherBays_putBay s b y
  have hl := baysLinkOnly_putBay s b y
  have hbp : (putBay s b y).bayPack b = s.bayPack b := by
    unfold State.bayPack
    rw [hbay, hpack]
    exact congrArg _ (funext fun n => packs_of_baysLinkOnly hl n)
  unfold energyTaken
  rw [hbay, hstate]
  generalize putBay s b y = u at *
  obtain ⟨v, l, rfl⟩ := hl
  cases ht : takesEnergy (s.bay b).state with
  | false =>
    rw [if_neg Bool.false_ne_true]
    exact ⟨by rw [hbay], hothers, rfl, fun p _ h => absurd (ht.symm.trans h) Bool.false_ne_true, fun _ => ⟨by rw [hbay, hres], rfl⟩⟩
  | true =>
    rw [if_pos rfl]
    unfold addEnergy
    rw [hbp]
    cases hp : s.bayPack b with
    | none => exact ⟨by rw [hbay], hothers, rfl, fun p h => (nomatch hp.symm.trans h), fun _ => ⟨by rw [hbay, hres], rfl⟩⟩
    | some p =>
      have hrw : (State.bay { s with bays := v, link := l } b).residue + powerTerm w = residueWith (s.bay b) w := by
        rw [hbay, hres]
        rfl
      dsimp only
      rw [hrw]
      let u := State.setBay { s with bays := v, link := l } b
        { State.bay { s with bays := v, link := l } b with residue := residueWith (s.bay b) w % 3600000 }
      have hu : u.bay b = { y with residue := residueWith (s.bay b) w % 3600000 } := (bay_setBay _ b _).trans (by rw [hbay])
      refine ⟨?_, fun c hc => (bay_setBay_other _ b c _ hc).trans (hothers c hc), rfl, fun q hq _ => ?_, fun h => ?_⟩
      · exact eq_with_residue hu
      · obtain rfl : p = q := Option.some.inj (hp.symm.trans hq)
        exact ⟨congrArg Bay.residue hu, rfl⟩
      · obtain h | h := h
        · exact nomatch hp.symm.trans h
        · exact absurd (h.symm.trans ht) Bool.false_ne_true

/-! ### A sample event measured (R27 to R30, R49 to R53) -/

/-- The channel with the event's validity taken, its block discarded where it is. -/
def sampledBay (s : State) (b : BayId) (m : SampleMark) (v : Option Sample) (miss : Nat) : Bay :=
  let x := (s.bay b).sampled m v miss
  { x with blockWaitsValid := x.blockWaitsValid && v.isNone, block := if blockDropped s b v then none else x.block }

/-- The block with the used values, and the averages where it completes. -/
def blockTaken (s : State) (x : Bay) (w : Sample) : Option Block × Option Averages :=
  if x.blockWaitsValid then (x.block, none) else blockAdd s.budget.exponent x.block w

/-- The channel with the used values taken. -/
def measuredBay (s : State) (b : BayId) (x : Bay) (w : Sample) : Bay :=
  { x with
    block := (blockTaken s x w).1
    averages := match (blockTaken s x w).2 with | some a => some a | none => x.averages
    overLimit := overLimitAfter s b w }

theorem averages_measuredBay (s : State) (b : BayId) (x : Bay) (w : Sample) :
    (measuredBay s b x w).averages = (blockTaken s x w).2.or x.averages := by
  unfold measuredBay
  cases (blockTaken s x w).2 <;> rfl

section
variable {s : State} {b : BayId} {m : SampleMark} {v : Option Sample} {miss : Nat}

theorem bayMeasures_unused (h : (sampledBay s b m v miss).lastValid = none) : bayMeasures s b m v miss
    = (putBay s b (sampledBay s b m v miss), ⟨(sampledBay s b m v miss).lastValid, v.isSome, false,
      v.isNone && decide ((sampledBay s b m v miss).invalidRun = 3), v.isSome && (s.bay b).sense = .lost⟩) := by
  have hx : ((s.bay b).sampled m v miss).lastValid = none := h
  unfold bayMeasures
  dsimp only
  split
  · rfl
  · next u hu => exact nomatch hx.symm.trans hu

theorem bayMeasures_used {w : Sample} (h : (sampledBay s b m v miss).lastValid = some w) : bayMeasures s b m v miss
    = (energyTaken (putBay s b (measuredBay s b (sampledBay s b m v miss) w)) b w,
      ⟨(sampledBay s b m v miss).lastValid, v.isSome, (blockTaken s (sampledBay s b m v miss) w).2.isSome,
        v.isNone && decide ((sampledBay s b m v miss).invalidRun = 3), v.isSome && (s.bay b).sense = .lost⟩) := by
  have hx : ((s.bay b).sampled m v miss).lastValid = some w := h
  unfold bayMeasures
  dsimp only
  split
  · next hn => exact nomatch hx.symm.trans hn
  · next u hu =>
    obtain rfl : u = w := Option.some.inj (hu.symm.trans hx)
    unfold energyTaken
    rw [bay_putBay]
    rfl

theorem sampledBay_keeps : (sampledBay s b m v miss).state = (s.bay b).state ∧ (sampledBay s b m v miss).pack = (s.bay b).pack
    ∧ (sampledBay s b m v miss).residue = (s.bay b).residue ∧ (sampledBay s b m v miss).averages = (s.bay b).averages := by
  cases v <;> exact ⟨rfl, rfl, rfl, rfl⟩

theorem bayMeasures_measured {w : Sample} (h : (sampledBay s b m v miss).lastValid = some w) :
    Measured s (bayMeasures s b m v miss).1 b (measuredBay s b (sampledBay s b m v miss) w) w := by
  obtain ⟨hstate, hpack, hres, -⟩ := sampledBay_keeps (s := s) (b := b) (m := m) (v := v) (miss := miss)
  rw [bayMeasures_used h]
  exact measured_energyTaken (y := measuredBay s b (sampledBay s b m v miss) w) hstate hpack hres w

theorem bayMeasures_kept (h : s.bayPack b = none ∨ takesEnergy (s.bay b).state = false) :
    ((bayMeasures s b m v miss).1.bay b).residue = (s.bay b).residue ∧ (bayMeasures s b m v miss).1.packs = s.packs := by
  cases hx : (sampledBay s b m v miss).lastValid with
  | some w => exact (bayMeasures_measured hx).kept h
  | none =>
    rw [bayMeasures_unused hx]
    obtain ⟨-, -, hres, -⟩ := sampledBay_keeps (s := s) (b := b) (m := m) (v := v) (miss := miss)
    exact ⟨(congrArg Bay.residue (bay_putBay s b _)).trans hres, packs_putBay s b _⟩

theorem bayMeasures_frame (s : State) (b : BayId) (m : SampleMark) (v : Option Sample) (miss : Nat) :
    OtherBays b s (bayMeasures s b m v miss).1 ∧ (bayMeasures s b m v miss).1 = { s with
      bays := (bayMeasures s b m v miss).1.bays, packs := (bayMeasures s b m v miss).1.packs, link := (bayMeasures s b m v miss).1.link } := by
  cases hx : (sampledBay s b m v miss).lastValid with
  | some w => exact ⟨(bayMeasures_measured hx).others, (bayMeasures_measured hx).frame⟩
  | none =>
    rw [bayMeasures_unused hx]
    have hl := baysLinkOnly_putBay s b (sampledBay s b m v miss)
    refine ⟨otherBays_putBay s b _, ?_⟩
    dsimp only
    generalize putBay s b (sampledBay s b m v miss) = t at *
    obtain ⟨v, l, rfl⟩ := hl
    rfl

end

/-- Two measurements of one sample's used values take the same energy. -/
theorem Measured.energy {s t u : State} {b : BayId} {y z : Bay} {w : Sample} (h₁ : Measured s t b y w) (h₂ : Measured s u b z w) :
    (t.bay b).residue = (u.bay b).residue ∧ t.packs = u.packs := by
  by_cases h : s.bayPack b = none ∨ takesEnergy (s.bay b).state = false
  · obtain ⟨hr₁, hp₁⟩ := h₁.kept h
    obtain ⟨hr₂, hp₂⟩ := h₂.kept h
    exact ⟨hr₁.trans hr₂.symm, hp₁.trans hp₂.symm⟩
  · rw [not_or, ← ne_eq, Option.ne_none_iff_exists', Bool.not_eq_false] at h
    obtain ⟨⟨p, hp⟩, ht⟩ := h
    obtain ⟨hr₁, hp₁⟩ := h₁.taken p hp ht
    obtain ⟨hr₂, hp₂⟩ := h₂.taken p hp ht
    exact ⟨hr₁.trans hr₂.symm, hp₁.trans hp₂.symm⟩

/-- The pack's entry with its energy, and the other packs. -/
theorem Measured.pack {s t : State} {b : BayId} {y : Bay} {w : Sample} (h : Measured s t b y w) {p : Pack} (hp : s.bayPack b = some p)
    (ht : takesEnergy (s.bay b).state = true) :
    t.pack p.tag = some { p with energy := min 4294967295 (p.energy + residueWith (s.bay b) w / 3600000) } := by
  obtain ⟨-, hpacks⟩ := h.taken p hp ht
  obtain ⟨-, hentry⟩ := pack_of_bayPack hp
  unfold State.pack
  rw [hpacks]
  exact pack_setPack s { p with energy := min 4294967295 (p.energy + residueWith (s.bay b) w / 3600000) } (Option.isSome_of_eq_some hentry)

theorem Measured.otherPacks {s t : State} {b : BayId} {y : Bay} {w : Sample} (h : Measured s t b y w) {p : Pack}
    (hp : s.bayPack b = some p) : OtherPacks p.tag s t := by
  intro n hn
  unfold State.pack
  cases ht : takesEnergy (s.bay b).state with
  | false => rw [(h.kept (.inr ht)).2]
  | true =>
    obtain ⟨-, hpacks⟩ := h.taken p hp ht
    rw [hpacks]
    exact pack_setPack_other s { p with energy := min 4294967295 (p.energy + residueWith (s.bay b) w / 3600000) } n hn

/-! ### A valid sample, and an invalid one or a miss (R27, R28, R30, R51, R52) -/

theorem sampledBay_valid (s : State) (b : BayId) (u : Sample) (miss : Nat) : sampledBay s b .valid (some u) miss = { s.bay b with
    lastValid := some u, lastMark := some .valid, invalidRun := 0, sense := .good, peaks := some (raisePeaks (s.bay b).peaks u)
    missTimer := miss, blockWaitsValid := false, block := if blockDropped s b (some u) then none else (s.bay b).block } := by
  unfold sampledBay Bay.sampled
  simp only [Option.isNone_some, Bool.and_false]

/-- How many invalid samples running (R28). -/
def Bay.invalidAfter (x : Bay) : Nat := min 255 (x.invalidRun + 1)

theorem sampledBay_invalid (s : State) (b : BayId) (m : SampleMark) (miss : Nat) : sampledBay s b m none miss = { s.bay b with
    lastMark := some m, invalidRun := (s.bay b).invalidAfter
    sense := if 3 ≤ (s.bay b).invalidAfter then .lost else (s.bay b).sense, missTimer := miss } := by
  unfold sampledBay Bay.sampled
  simp only [Option.isNone_none, Bool.and_true]
  rfl

theorem blockDropped_iff (s : State) (b : BayId) (u : Sample) : blockDropped s b (some u)
    = (let x := s.bay b
      x.sense = .lost || (x.state = .tripped && x.retryTimer.isNone && !s.awaiting b
        && decide (u.heatsink ≤ x.settingsFor.restartTemp) && !overLimitAfter s b u)) := rfl

theorem sample_arrives {s : State} (b : BayId) (v i h p : Int) (k : SampleMark) (hr : s.inReset = false) :
    exec (.baySampleArrival b v i h p k) s = .next (finish s (arrive s b ⟨v, i, h, p⟩ k)) :=
  live_out hr (fun s => finish s (arrive s b ⟨v, i, h, p⟩ k))

theorem arrive_valid {s : State} {b : BayId} {u : Sample} (h : inRange u = true) : arrive s b u .valid = sampleEvent s b .valid (some u) 150 := by
  have hm : markTaken u .valid = .valid := by simp only [markTaken, h, Bool.not_true, Bool.and_false, Bool.false_eq_true, if_false]
  unfold arrive
  rw [hm]
  rfl

theorem arrive_invalid {s : State} {b : BayId} {u : Sample} {k : SampleMark} (h : ¬(k = .valid ∧ inRange u = true)) :
    arrive s b u k = sampleEvent s b (if k = .valid ∧ inRange u = false then .saturated else k) none 150 := by
  have hm : markTaken u k = if k = .valid ∧ inRange u = false then .saturated else k := by
    simp only [markTaken, Bool.and_eq_true, decide_eq_true_eq, Bool.not_eq_true']
  have hne : (if k = .valid ∧ inRange u = false then SampleMark.saturated else k) ≠ .valid := by
    split
    · nofun
    · next hn =>
      intro hk
      exact hn ⟨hk, eq_false_of_ne_true fun hu => h ⟨hk, hu⟩⟩
  unfold arrive
  dsimp only
  rw [hm, if_neg hne]

/-- The channel after a sample event that has used values. -/
theorem bay_measured {s : State} {b : BayId} {m : SampleMark} {v : Option Sample} {miss : Nat} {w : Sample} {x : Bay}
    (hx : sampledBay s b m v miss = x) (hw : x.lastValid = some w) :
    let r := bayMeasures s b m v miss
    let k := blockTaken s x w
    r.1.bay b = { x with block := k.1, averages := k.2.or x.averages, overLimit := overLimitAfter s b w, residue := (r.1.bay b).residue }
      ∧ r.2 = ⟨some w, v.isSome, k.2.isSome, v.isNone && decide (x.invalidRun = 3), v.isSome && (s.bay b).sense = .lost⟩ := by
  subst hx
  intro r k
  have hbay : r.1.bay b = _ := (bayMeasures_measured hw).bay
  have he : r.2 = _ := congrArg Prod.snd (bayMeasures_used hw)
  rw [hw] at he
  have hm : measuredBay s b (sampledBay s b m v miss) w = { sampledBay s b m v miss with
      block := k.1, averages := k.2.or (sampledBay s b m v miss).averages, overLimit := overLimitAfter s b w } := by
    rw [← averages_measuredBay s b (sampledBay s b m v miss) w]
    rfl
  rw [hm] at hbay
  exact ⟨hbay, he⟩

/-- The channel after a valid sample. -/
theorem bay_valid (s : State) (b : BayId) (u : Sample) (miss : Nat) :
    let r := bayMeasures s b .valid (some u) miss
    let k := blockAdd s.budget.exponent (if blockDropped s b (some u) then none else (s.bay b).block) u
    r.1.bay b = { s.bay b with
        lastValid := some u, lastMark := some .valid, invalidRun := 0, sense := .good, peaks := some (raisePeaks (s.bay b).peaks u)
        missTimer := miss, blockWaitsValid := false, block := k.1, averages := k.2.or (s.bay b).averages
        overLimit := overLimitAfter s b u, residue := (r.1.bay b).residue }
      ∧ r.2 = ⟨some u, true, k.2.isSome, false, (s.bay b).sense = .lost⟩ := by
  exact bay_measured (sampledBay_valid s b u miss) rfl

/-- The channel after an invalid sample or a miss, with and without a valid sample before it. -/
theorem bay_invalid (s : State) (b : BayId) (m : SampleMark) (miss : Nat) {w : Sample} (hw : (s.bay b).lastValid = some w) :
    let r := bayMeasures s b m none miss
    let k := if (s.bay b).blockWaitsValid then ((s.bay b).block, none) else blockAdd s.budget.exponent (s.bay b).block w
    r.1.bay b = { s.bay b with
        lastMark := some m, invalidRun := (s.bay b).invalidAfter
        sense := if 3 ≤ (s.bay b).invalidAfter then .lost else (s.bay b).sense, missTimer := miss
        block := k.1, averages := k.2.or (s.bay b).averages, overLimit := overLimitAfter s b w, residue := (r.1.bay b).residue }
      ∧ r.2 = ⟨some w, false, k.2.isSome, decide ((s.bay b).invalidAfter = 3), false⟩ := by
  exact bay_measured (sampledBay_invalid s b m miss) hw

theorem bay_invalid_first (s : State) (b : BayId) (m : SampleMark) (miss : Nat) (hw : (s.bay b).lastValid = none) :
    let r := bayMeasures s b m none miss
    r.1.bay b = { s.bay b with
        lastMark := some m, invalidRun := (s.bay b).invalidAfter
        sense := if 3 ≤ (s.bay b).invalidAfter then .lost else (s.bay b).sense, missTimer := miss }
      ∧ r.1.packs = s.packs ∧ r.2 = ⟨none, false, false, decide ((s.bay b).invalidAfter = 3), false⟩ := by
  intro r
  have hx := sampledBay_invalid s b m miss
  have hv : (sampledBay s b m none miss).lastValid = none := by rw [hx]; exact hw
  have hr : r = _ := bayMeasures_unused hv
  rw [hv, hx] at hr
  rw [hr]
  exact ⟨bay_putBay s b _, packs_putBay s b _, rfl⟩

/-- What an invalid sample and a miss share. -/
theorem invalid_alike (s : State) (b : BayId) (m k : SampleMark) (i j : Nat) :
    let r := bayMeasures s b m none i
    let q := bayMeasures s b k none j
    r.2 = q.2 ∧ r.1.bay b = { q.1.bay b with lastMark := some m, missTimer := i } ∧ r.1.packs = q.1.packs := by
  intro r q
  cases hw : (s.bay b).lastValid with
  | none =>
    obtain ⟨hb₁, hp₁, he₁⟩ := bay_invalid_first s b m i hw
    obtain ⟨hb₂, hp₂, he₂⟩ := bay_invalid_first s b k j hw
    refine ⟨he₁.trans he₂.symm, ?_, hp₁.trans hp₂.symm⟩
    rw [hb₁, hb₂]
  | some w =>
    obtain ⟨hb₁, he₁⟩ := bay_invalid s b m i hw
    obtain ⟨hb₂, he₂⟩ := bay_invalid s b k j hw
    have hv (m : SampleMark) (i : Nat) : (sampledBay s b m none i).lastValid = some w := by
      rw [sampledBay_invalid]
      exact hw
    obtain ⟨hres, hpacks⟩ := (bayMeasures_measured (hv m i)).energy (bayMeasures_measured (hv k j))
    refine ⟨he₁.trans he₂.symm, ?_, hpacks⟩
    rw [hb₁, hb₂, hres]

end Sys2Proof.Machine
end

section
/-! A sample event from its arrival to what the bay keeps of it (R27 to R30, R49 to R54, O44). -/

namespace Sys2Proof.Machine

theorem takesEnergy_eq_false {x : BayState} (h : x = .empty ∨ x = .ready ∨ x = .locked) : takesEnergy x = false := by
  obtain rfl | rfl | rfl := h
  all_goals rfl

/-- Settles O44. -/
theorem sampleTaken : Obligations.SampleTaken := by
  refine ⟨fun s b v i h p k hr => ?_, fun n o u => ⟨blockAdd_open u, blockAdd_complete u⟩⟩
  intro u x n mk acted valid lost miss limit drop
  obtain ⟨hvb, hve⟩ := bay_valid s b u 150
  have hvx : (sampledBay s b .valid (some u) 150).lastValid = some u := by rw [sampledBay_valid]
  have V : Measured s valid.1 b _ u := bayMeasures_measured hvx
  have hlimit : limit = overLimitAfter s b u := congrArg Bay.overLimit hvb
  have hdrop : blockDropped s b (some u) = drop := by
    rw [blockDropped_iff, ← hlimit]
  rw [hdrop] at hvb hve
  obtain ⟨hlost, hlostBay, hlostPacks⟩ := invalid_alike s b mk .invalid 150 100
  have hmiss (w : Sample) (hw : x.lastValid = some w) := bay_invalid s b .invalid 100 hw
  have hfirst (hw : x.lastValid = none) := bay_invalid_first s b .invalid 100 hw
  have M (w : Sample) (hw : x.lastValid = some w) : Measured s miss.1 b _ w :=
    bayMeasures_measured (by rw [sampledBay_invalid]; exact hw)
  have hmissOther (q : Pack) (hq : s.bayPack b = some q) : OtherPacks q.tag s miss.1 := by
    cases hw : x.lastValid with
    | some w => exact (M w hw).otherPacks hq
    | none =>
      obtain ⟨-, hpacks, -⟩ := hfirst hw
      intro t _
      unfold State.pack
      rw [hpacks]
  have hkept (m : SampleMark) (o : Option Sample) (j : Nat)
      (hx : s.bayPack b = none ∨ x.state = .empty ∨ x.state = .ready ∨ x.state = .locked) :
      ((bayMeasures s b m o j).1.bay b).residue = x.residue ∧ (bayMeasures s b m o j).1.packs = s.packs :=
    bayMeasures_kept (hx.imp_right takesEnergy_eq_false)
  have hframe (m : SampleMark) (o : Option Sample) (j : Nat) : OtherBays b s (bayMeasures s b m o j).1
      ∧ LinkKept s (bayMeasures s b m o j).1 ∧ (bayMeasures s b m o j).1.link.queue = s.link.queue
      ∧ (bayMeasures s b m o j).1 = { s with
        bays := (bayMeasures s b m o j).1.bays, packs := (bayMeasures s b m o j).1.packs, link := (bayMeasures s b m o j).1.link } := by
    obtain ⟨hothers, heq⟩ := bayMeasures_frame s b m o j
    have hcore := bayMeasures_core s b m o j
    exact ⟨hothers, linkKept_of_core hcore, queue_of_core hcore, heq⟩
  have hcommon : ((miss.1.bay b).lastValid = x.lastValid ∧ (miss.1.bay b).lastMark = some .invalid
      ∧ (miss.1.bay b).invalidRun = n ∧ (miss.1.bay b).peaks = x.peaks
      ∧ (miss.1.bay b).sense = (if 3 ≤ n then .lost else x.sense) ∧ (miss.1.bay b).missTimer = 100) := by
    cases hw : x.lastValid with
    | some w =>
      obtain ⟨hb, -⟩ := hmiss w hw
      rw [show miss.1.bay b = _ from hb]
      exact ⟨hw, rfl, rfl, rfl, rfl, rfl⟩
    | none =>
      obtain ⟨hb, -⟩ := hfirst hw
      rw [show miss.1.bay b = _ from hb]
      exact ⟨hw, rfl, rfl, rfl, rfl, rfl⟩
  obtain ⟨hlast, hmark, hrun, hpeaks, hsense, htimer⟩ := hcommon
  refine ⟨?_, ?_, ?_, congrArg Bay.lastValid hvb, congrArg Bay.lastMark hvb, congrArg Bay.invalidRun hvb, congrArg Bay.sense hvb,
    congrArg Bay.peaks hvb, congrArg Bay.missTimer hvb, congrArg Bay.blockWaitsValid hvb,
    ⟨congrArg Bay.block hvb, congrArg Bay.averages hvb, hve⟩,
    fun q c hq hc => hlimit.trans (overLimitAfter_class hq hc u), fun hq => hlimit.trans (overLimitAfter_none hq u),
    hlast, hmark, hrun, hpeaks, hsense, htimer, fun hw => ?_, fun w hw hx => ?_, fun w hw hx => ?_, hlost, hlostBay,
    fun q hq ht => ⟨(V.taken q hq ht).1, V.pack hq ht⟩, fun q w hq ht hw => ⟨((M w hw).taken q hq ht).1, (M w hw).pack hq ht⟩,
    fun w hw => ?_, fun hw => ?_, ?_, hlostPacks, fun q hq => ⟨V.otherPacks hq, hmissOther q hq⟩, ?_⟩
  · intro hk hin
    subst hk
    rw [sample_arrives b v i h p .valid hr, arrive_valid hin]
    rfl
  · intro hn
    rw [sample_arrives b v i h p k hr, arrive_invalid hn]
    rfl
  · exact live_out hr (fun s => finish s (sampleEvent s b .invalid none 100))
  · obtain ⟨hb, -, he⟩ := hfirst hw
    exact ⟨(congrArg Bay.block hb).trans rfl, (congrArg Bay.averages hb).trans rfl, he⟩
  · obtain ⟨hb, he⟩ := hmiss w hw
    rw [show (s.bay b).blockWaitsValid = true from hx, if_pos rfl] at hb he
    exact ⟨(congrArg Bay.block hb).trans rfl, (congrArg Bay.averages hb).trans rfl, he⟩
  · obtain ⟨hb, he⟩ := hmiss w hw
    rw [show (s.bay b).blockWaitsValid = false from hx, if_neg Bool.false_ne_true] at hb he
    exact ⟨(congrArg Bay.block hb).trans rfl, (congrArg Bay.averages hb).trans rfl, he⟩
  · obtain ⟨hb, -⟩ := hmiss w hw
    have ho : (miss.1.bay b).overLimit = overLimitAfter s b w := congrArg Bay.overLimit hb
    exact ⟨fun q c hq hc => ho.trans (overLimitAfter_class hq hc w), fun hq => ho.trans (overLimitAfter_none hq w)⟩
  · obtain ⟨hb, hpacks, -⟩ := hfirst hw
    exact ⟨(congrArg Bay.overLimit hb).trans rfl, (congrArg Bay.residue hb).trans rfl, hpacks⟩
  · simp only [List.mem_cons, List.not_mem_nil, or_false, forall_eq_or_imp, forall_eq]
    exact ⟨hkept _ _ _, hkept _ _ _, hkept _ _ _⟩
  · simp only [List.mem_cons, List.not_mem_nil, or_false, forall_eq_or_imp, forall_eq]
    exact ⟨hframe _ _ _, hframe _ _ _, hframe _ _ _⟩

end Sys2Proof.Machine
end

section
/-! A step with no command waiting, a part held in reset, and the state after reset (O2, O4). -/

namespace Sys2Proof.Machine

/-! ### 1 ms of the part's own time base (log 3) -/

theorem bay_tick (s : State) (b : BayId) : (tick s).bay b = (s.bay b).tick (s.awaiting b) := Vector.getElem_ofFn b.isLt

theorem tick_discharging {x : Bay} (h : x.state = .discharging) :
    (x.tick false).dischargeMs = x.dischargeMs + 1 ∧ (x.tick false).clearMs = x.clearMs + 1 := by
  simp [Bay.tick, h]

theorem tick_other {x : Bay} (h : x.state ≠ .discharging) (waits : Bool) : (x.tick waits).dischargeMs = x.dischargeMs := by
  cases waits <;> simp [Bay.tick, h]

/-! ### The part held in reset (log 30) -/

theorem live_inReset {s : State} (h : s.inReset = true) (f : State → State) : live s f = .next s := by simp only [live, h, if_true]

/-- Settles O2. -/
theorem stepIdles : Obligations.StepIdles := by
  refine ⟨fun s hp => ⟨fun hr => ⟨?_, rfl, fun b hd hw => ?_, fun b hd => ?_⟩, fun hr => ?_⟩, fun c s hr => ?_⟩
  · simp only [step, hp]
    exact live_out hr (fun s => finish s (tick s))
  · rw [bay_tick, hw]
    exact tick_discharging hd
  · rw [bay_tick]
    exact tick_other hd _
  · simp only [step, hp]
    exact live_inReset hr _
  · cases c with
    | rawInputChange | supplyWarning | supplyNormal | powerReset | powerResetRelease | pinReset | pinResetRelease => exact trivial
    | _ =>
      dsimp only
      exact congrArg Host.Outcome.next (if_pos hr)

/-- Settles O4: each value is read off the state. -/
theorem resetState : Obligations.ResetState := by
  have hlevels : ∀ i, State.reset.level i = inputSafe i := fun i => by cases i <;> rfl
  have hbays (b : BayId) : State.reset.bay b = Bay.initial := Vector.getElem_replicate b.isLt
  have hzones (z : ZoneId) : State.reset.zone z = Zone.initial := Vector.getElem_replicate z.isLt
  have hloops (l : LoopId) : State.reset.loop l = Loop.initial := by cases l <;> rfl
  have htx : State.reset.link.tx = some (.notice (noticeContent State.reset .journal)) := by decide +kernel
  refine ⟨⟨rfl, rfl, rfl, hlevels, rfl, fun b => ?_, fun l => ?_, fun z => ?_, rfl, rfl, rfl, rfl, rfl, rfl, rfl, rfl, rfl, rfl, rfl, rfl,
    rfl, rfl, rfl, rfl, rfl, rfl, rfl, htx, rfl, rfl, rfl, rfl, rfl⟩, by decide, by decide, by decide, by decide⟩
  · rw [hbays]
    exact ⟨rfl, rfl, rfl, rfl, rfl, rfl, rfl, rfl⟩
  · rw [hloops]
    exact ⟨rfl, rfl, rfl, rfl⟩
  · rw [hzones]
    exact ⟨rfl, rfl, rfl, rfl, rfl⟩

end Sys2Proof.Machine
end

section
/-! The end of a step: the operation arbiter and the Link Port's next frame (R159, R161, R162, R174, R176, O3). -/

namespace Sys2Proof.Machine

/-! ### What the arbiter may change (R161, R162) -/

/-- From `s` to `t` at most the operations in hand and waiting differ, the request queue and the pending classes. -/
def ArbOnly (s t : State) : Prop := ∃ r u d o a q p, t = { s with
  writer := { s.writer with running := r, suspended := u, reads := d, settingsOps := o, aheads := a }
  link := { s.link with queue := q, noticePending := p } }

theorem ArbOnly.refl (s : State) : ArbOnly s s := ⟨_, _, _, _, _, _, _, rfl⟩

theorem arbOnly_startErase (s : State) (t : EraseTarget) (n : Bool) : ArbOnly s (startErase s t n) := ⟨_, _, _, _, _, _, _, rfl⟩

theorem arbOnly_resumeErase (s : State) (t : EraseTarget) (n : Bool) : ArbOnly s (resumeErase s t n) := ⟨_, _, _, _, _, _, _, rfl⟩

theorem arbOnly_eraseThen {s go : State} (t : EraseTarget) (e : Bool) (h : ArbOnly s go) : ArbOnly s (eraseThen s t e go) := by
  unfold eraseThen
  split
  · exact arbOnly_resumeErase s t true
  · split
    · exact arbOnly_startErase s t true
    · split
      · exact h
      · exact arbOnly_startErase s t true

theorem arbOnly_journalAction (s : State) (n : Nat) : ArbOnly s (journalAction s n) :=
  arbOnly_eraseThen _ _ ⟨_, _, _, _, _, _, _, rfl⟩

theorem arbOnly_incidentAction (s : State) (p : IncidentPart) : ArbOnly s (incidentAction s p) :=
  arbOnly_eraseThen _ _ ⟨_, _, _, _, _, _, _, rfl⟩

theorem arbOnly_startSettings (s : State) (o : SettingsOp) : ArbOnly s (startSettings s o) := by
  cases o <;> exact ⟨_, _, _, _, _, _, _, rfl⟩

theorem arbOnly_arbLow (s : State) : ArbOnly s (arbLow s) := by
  unfold arbLow
  split
  · exact .refl s
  · split
    · exact ⟨_, _, _, _, _, _, _, rfl⟩
    · split
      · exact arbOnly_resumeErase s _ false
      · split
        · exact arbOnly_startSettings s _
        · split
          · exact arbOnly_startErase s _ false
          · exact .refl s

theorem arbOnly_arbFree (s : State) : ArbOnly s (arbFree s) := by
  unfold arbFree
  split
  · split
    · exact arbOnly_journalAction s _
    · exact arbOnly_incidentAction s _
  · exact arbOnly_journalAction s _
  · exact arbOnly_incidentAction s _
  · exact arbOnly_arbLow s

theorem arbOnly_arbErase (s : State) (t : EraseTarget) (n u : Bool) : ArbOnly s (arbErase s t n u) := by
  unfold arbErase
  split
  · exact .refl s
  · split
    · exact ⟨_, _, _, _, _, _, _, rfl⟩
    · split
      · exact ⟨_, _, _, _, _, _, _, rfl⟩
      · exact .refl s

theorem arbOnly_arbPump (s : State) : ArbOnly s (arbPump s) := by
  unfold arbPump
  split
  · exact arbOnly_arbFree s
  · exact arbOnly_arbErase s _ _ _
  · exact .refl s

/-! ### What the Link Port's next frame may change (R174, R176) -/

/-- Of the link, the queue, the frame being sent, the pending classes and the change lists. -/
def SendOnly (s t : State) : Prop := ∃ q x p b k o, t = { s with
  link := { s.link with queue := q, tx := x, noticePending := p, baysChanged := b, packsChanged := k, overflow := o } }

theorem SendOnly.refl (s : State) : SendOnly s s := ⟨_, _, _, _, _, _, rfl⟩

theorem sendOnly_markIf (s : State) (d : Bool) (c : NoticeClass) : SendOnly s (s.markIf d c) := by
  cases d <;> exact ⟨_, _, _, _, _, _, rfl⟩

theorem SendOnly.trans {s t u : State} (h₁ : SendOnly s t) (h₂ : SendOnly t u) : SendOnly s u := by
  obtain ⟨q, x, p, b, k, o, rfl⟩ := h₁
  obtain ⟨q, x, p, b, k, o, rfl⟩ := h₂
  exact ⟨_, _, _, _, _, _, rfl⟩

theorem sent_eq_of_ne {c : NoticeClass} (h : c ≠ .pack) (x : Link) : x.sent c = { x with
    noticePending := x.noticePending &&& ~~~(noticeBit c), baysChanged := if c = .bay then 0#8 else x.baysChanged } := by
  cases c with
  | pack => exact absurd rfl h
  | _ => rfl

theorem sent_pack (x : Link) : x.sent .pack = { x with
    noticePending := if x.packsChanged.length ≤ 12 then x.noticePending &&& ~~~(noticeBit .pack)
      else (x.noticePending &&& ~~~(noticeBit .pack)) ||| (noticeBit .pack &&& x.subscribed)
    packsChanged := x.packsChanged.drop 12, overflow := false } := by
  have hrest : (x.packsChanged.drop 12).isEmpty = true ↔ x.packsChanged.length ≤ 12 := by
    rw [List.isEmpty_iff, List.drop_eq_nil_iff]
  unfold Link.sent
  dsimp only
  by_cases h : x.packsChanged.length ≤ 12
  · rw [if_pos h, if_pos (hrest.2 h)]
  · rw [if_neg h, if_neg fun e => h (hrest.1 e)]
    rfl

theorem sendOnly_sendNotice (s : State) : SendOnly s (sendNotice s) := by
  unfold sendNotice
  split
  · exact .refl s
  · next c _ =>
    by_cases hc : c = .pack
    · subst hc
      rw [sent_pack]
      exact ⟨_, _, _, _, _, _, rfl⟩
    · rw [sent_eq_of_ne hc]
      exact ⟨_, _, _, _, _, _, rfl⟩

theorem sendOnly_linkPump (s : State) : SendOnly s (linkPump s) := by
  unfold linkPump
  split
  · exact .refl s
  · split
    · split
      · exact ⟨_, _, _, _, _, _, rfl⟩
      · exact sendOnly_sendNotice s
    · exact sendOnly_sendNotice s

/-! ### The Link Port's next frame (R174, R176, R179) -/

theorem linkPump_waits {x : State} (h : x.link.tx.isSome = true ∨ x.link.restart = .flushing) : linkPump x = x := by
  unfold linkPump
  rw [if_pos]
  simpa only [Bool.or_eq_true, decide_eq_true_eq] using h

theorem linkPump_sending {x : State} (ht : x.link.tx = none) (hr : x.link.restart ≠ .flushing) :
    ¬(x.link.tx.isSome || decide (x.link.restart = .flushing)) = true := by
  simp only [ht, hr, Option.isSome_none, decide_false, Bool.or_self, Bool.false_eq_true, not_false_eq_true]

theorem linkPump_reply {x : State} {e : Entry} {r : Reply} {l : List Entry} (ht : x.link.tx = none) (hr : x.link.restart ≠ .flushing)
    (hq : x.link.queue = e :: l) (he : e.stage = .formed r) :
    linkPump x = { x with link := { x.link with queue := l, tx := some (.reply e.asked.replyKind e.mtag r) } } := by
  unfold linkPump
  rw [if_neg (linkPump_sending ht hr), hq]
  dsimp only
  rw [he]

theorem linkPump_notice {x : State} (ht : x.link.tx = none) (hr : x.link.restart ≠ .flushing)
    (hq : ∀ e, x.link.queue.head? = some e → ∀ r, e.stage ≠ .formed r) : linkPump x = sendNotice x := by
  unfold linkPump
  rw [if_neg (linkPump_sending ht hr)]
  split
  · next e t he =>
    split
    · next r hr => exact absurd hr (hq e (by rw [he]; rfl) r)
    · rfl
  · rfl

theorem sendNotice_none {x : State} (h : x.link.due = none) : sendNotice x = x := by
  unfold sendNotice
  rw [h]

theorem sendNotice_some {x : State} {c : NoticeClass} (h : x.link.due = some c) :
    sendNotice x = { x with link := { x.link.sent c with tx := some (.notice (noticeContent x c)) } } := by
  unfold sendNotice
  rw [h]

theorem allClasses_sorted : allClasses.Pairwise (fun c d => noticeBit c < noticeBit d) := by decide

theorem mem_allClasses (c : NoticeClass) : c ∈ allClasses := by cases c <;> decide

theorem pending_zero_iff (p : BitVec 7) : (∀ c ∈ allClasses, p &&& noticeBit c = 0#7) ↔ p = 0#7 := by
  revert p
  decide

theorem due_eq_none_iff (x : Link) : x.due = none ↔ x.noticePending = 0#7 := by
  rw [← pending_zero_iff]
  simp only [Link.due, List.find?_eq_none, decide_eq_true_eq, ne_eq, not_not]

theorem due_first {x : Link} {c : NoticeClass} (h : x.due = some c) : x.noticePending &&& noticeBit c ≠ 0#7
    ∧ ∀ d, noticeBit d < noticeBit c → x.noticePending &&& noticeBit d = 0#7 := by
  unfold Link.due at h
  have hc := List.find?_some h
  refine ⟨of_decide_eq_true hc, fun d hd => by_contra fun hp => ?_⟩
  obtain rfl | hlt := find?_first allClasses_sorted h d (mem_allClasses d) (decide_eq_true hp)
  · exact BitVec.lt_irrefl _ hd
  · exact BitVec.lt_asymm hd hlt

/-! ### The arbiter, case by case (R156, R161, R162, R164, R167, R168) -/

theorem eraseThen_eq (s : State) (t : EraseTarget) (e : Bool) (go : State) : eraseThen s t e go =
    if s.writer.suspended = some t then resumeErase s t true
    else if t ∈ s.writer.aheads ∨ e = false then startErase s t true else go := by
  unfold eraseThen
  cases e <;> simp

theorem journalAction_eq (s : State) (n : Nat) : journalAction s n =
    eraseThen s (.journal (segOf n)) (journalAt s.nv.journal n).isNone (startJournalProgram s (segOf n)) := rfl

section
variable {s : State}

theorem arbPump_busy {o : NvOp} (h : s.writer.running = some o) (ho : ∀ t n u, o ≠ .erase t n u) : arbPump s = s := by
  unfold arbPump
  rw [h]
  cases o with
  | erase t n u => exact absurd rfl (ho t n u)
  | _ => rfl

theorem arbPump_erase {t : EraseTarget} {n u : Bool} (h : s.writer.running = some (.erase t n u)) : arbPump s = arbErase s t n u := by
  unfold arbPump
  rw [h]

theorem arbErase_goes {n u : Bool} (t : EraseTarget) (h : n = true ∨ u = true) : arbErase s t n u = s :=
  if_pos (Bool.or_eq_true _ _ ▸ h)

theorem arbErase_free (s : State) (t : EraseTarget) : arbErase s t false false
    = if s.writer.needs t then { s with writer := { s.writer with running := some (.erase t true false) } }
      else if s.writer.higherWaits = true ∧ s.writer.suspended = none ∧ s.commandFlush = false then
        { s with writer := { s.writer with running := some (.erase t false true) } }
      else s := by
  unfold arbErase
  simp only [Bool.or_self, Bool.false_eq_true, if_false, Bool.and_eq_true, Option.isNone_iff_eq_none, Bool.not_eq_true', and_assoc]

theorem arbPump_free (h : s.writer.running = none) : arbPump s = arbFree s := by
  unfold arbPump
  rw [h]

theorem arbFree_journal {n : Nat} (h : s.writer.headSlot = some n) (hi : s.writer.incidents = [] ∨ s.flushing = true) :
    arbFree s = journalAction s n := by
  unfold arbFree
  rw [h]
  cases he : s.writer.incidents with
  | nil => rfl
  | cons p l =>
    obtain hi | hf := hi
    · exact absurd (he.symm.trans hi) (List.cons_ne_nil p l)
    · exact if_pos hf

theorem arbFree_incident {p : IncidentPart} {l : List IncidentPart} (h : s.writer.incidents = p :: l)
    (hi : s.writer.headSlot = none ∨ s.flushing = false) : arbFree s = incidentAction s p := by
  unfold arbFree
  rw [h]
  cases he : s.writer.headSlot with
  | none => rfl
  | some n =>
    obtain hi | hf := hi
    · exact nomatch he.symm.trans hi
    · exact if_neg (ne_true_of_eq_false hf)

theorem arbFree_low (h : s.writer.headSlot = none) (hi : s.writer.incidents = []) : arbFree s = arbLow s := by
  unfold arbFree
  rw [h, hi]

theorem arbLow_flush (h : s.commandFlush = true) : arbLow s = s := if_pos h

section
variable (hf : s.commandFlush = false)
include hf

theorem arbLow_read {r : ReadOp} {l : List ReadOp} (hr : s.writer.reads = r :: l) :
    arbLow s = { s with writer := { s.writer with reads := l, running := some (.read r) } } := by
  unfold arbLow
  rw [if_neg (ne_true_of_eq_false hf), hr]

variable (hr : s.writer.reads = [])
include hr

theorem arbLow_suspended {t : EraseTarget} (hu : s.writer.suspended = some t) : arbLow s = resumeErase s t false := by
  unfold arbLow
  rw [if_neg (ne_true_of_eq_false hf), hr, hu]

variable (hu : s.writer.suspended = none)
include hu

theorem arbLow_settings {o : SettingsOp} (ho : s.writer.settingsDue = some o) : arbLow s = startSettings s o := by
  unfold arbLow
  rw [if_neg (ne_true_of_eq_false hf), hr, hu]
  dsimp only
  rw [ho]

theorem arbLow_ahead {t : EraseTarget} {l : List EraseTarget} (ho : s.writer.settingsDue = none) (ha : s.writer.aheads = t :: l) :
    arbLow s = startErase s t false := by
  unfold arbLow
  rw [if_neg (ne_true_of_eq_false hf), hr, hu]
  dsimp only
  rw [ho, ha]

theorem arbLow_idle (ho : s.writer.settingsDue = none) (ha : s.writer.aheads = []) : arbLow s = s := by
  unfold arbLow
  rw [if_neg (ne_true_of_eq_false hf), hr, hu]
  dsimp only
  rw [ho, ha]

end

end

/-- A settings operation is due wherever one waits: an erase that stands behind its section's program leaves that program due. -/
theorem settingsDue_eq_none_iff (w : Writer) : w.settingsDue = none ↔ w.settingsOps = [] := by
  constructor
  · intro h
    unfold Writer.settingsDue at h
    rw [List.find?_eq_none] at h
    refine List.eq_nil_iff_forall_not_mem.2 fun o ho => ?_
    cases o with
    | program c => exact h _ ho rfl
    | erase c =>
      by_cases hp : SettingsOp.program c ∈ w.settingsOps
      · exact h _ hp rfl
      · refine h _ ho ?_
        simp only [Bool.not_eq_true', List.any_eq_false, decide_eq_true_eq]
        exact fun x hx hxc => hp (hxc ▸ hx)
  · intro h
    rw [Writer.settingsDue, h]
    rfl

theorem settingsDue_mem {w : Writer} {o : SettingsOp} (h : w.settingsDue = some o) : o ∈ w.settingsOps := List.mem_of_find?_eq_some h

/-! ### The records of one program (R156) -/

theorem headRun_cons_of {g : Nat} {b : Buffered} (l : List Buffered) (h : b.slot.map segOf = some g) :
    headRun g (b :: l) = headRun g l + 1 := by
  obtain ⟨n, hn, hg⟩ := Option.map_eq_some_iff.1 h
  rw [headRun, hn]
  exact if_pos hg

theorem headRun_cons_other {g : Nat} {b : Buffered} (l : List Buffered) (h : b.slot.map segOf ≠ some g) : headRun g (b :: l) = 0 := by
  rw [headRun]
  cases hn : b.slot with
  | none => rfl
  | some n => exact if_neg fun hg => h (by rw [hn, Option.map_some, hg])

theorem headRun_spec (g : Nat) (l : List Buffered) : headRun g l ≤ l.length ∧ (∀ b ∈ l.take (headRun g l), b.slot.map segOf = some g)
    ∧ (∀ b, l[headRun g l]? = some b → b.slot.map segOf ≠ some g) := by
  induction l with
  | nil => exact ⟨Nat.le_refl 0, fun b hb => absurd hb List.not_mem_nil, fun b hb => absurd hb.symm (Option.some_ne_none b)⟩
  | cons b l ih =>
    obtain ⟨hlen, htake, hstop⟩ := ih
    by_cases h : b.slot.map segOf = some g
    · rw [headRun_cons_of l h]
      exact ⟨Nat.succ_le_succ hlen, List.forall_mem_cons.2 ⟨h, htake⟩, hstop⟩
    · rw [headRun_cons_other l h]
      exact ⟨Nat.zero_le _, fun c hc => absurd hc List.not_mem_nil, fun c hc => by rw [← Option.some.inj hc]; exact h⟩

/-! ### The end of a step -/

theorem finish_frame (s₀ s : State) :
    (finish s₀ s).writer = (arbPump s).writer ∧ (finish s₀ s).nv = s.nv
    ∧ (arbPump s).writer = { s.writer with
      running := (arbPump s).writer.running, suspended := (arbPump s).writer.suspended, reads := (arbPump s).writer.reads
      settingsOps := (arbPump s).writer.settingsOps, aheads := (arbPump s).writer.aheads }
    ∧ (finish s₀ s).link = { s.link with
      queue := (finish s₀ s).link.queue, tx := (finish s₀ s).link.tx, noticePending := (finish s₀ s).link.noticePending
      baysChanged := (finish s₀ s).link.baysChanged, packsChanged := (finish s₀ s).link.packsChanged
      overflow := (finish s₀ s).link.overflow }
    ∧ finish s₀ s = { s with writer := (arbPump s).writer, link := (finish s₀ s).link } := by
  have hsend : SendOnly (arbPump s) (finish s₀ s) := (sendOnly_markIf _ _ _).trans (sendOnly_linkPump _)
  obtain ⟨r, u, d, o, a, q, p, harb⟩ := arbOnly_arbPump s
  generalize finish s₀ s = t at *
  generalize arbPump s = v at *
  subst harb
  obtain ⟨q, x, p, b, k, e, rfl⟩ := hsend
  exact ⟨rfl, rfl, rfl, rfl, rfl⟩

/-- Settles O3. -/
theorem endOfStep : Obligations.EndOfStep := by
  refine ⟨fun s₀ s => ⟨rfl, finish_frame s₀ s⟩, fun s => ?_, headRun_spec, fun x => ?_⟩
  · intro w set programs low
    refine ⟨fun o => arbPump_busy, fun t n u h hx => (arbPump_erase h).trans (arbErase_goes t hx), fun t h hn => ?_,
      fun t h hn hw hu hc => ?_, fun t h hn hx => ?_, fun n h hs hi => ?_, fun p l h hi hs => ?_, fun h hs hi hc => ?_,
      fun r l ⟨h, hs, hi, hc⟩ hr => ?_, fun t ⟨h, hs, hi, hc⟩ hr hu => ?_, fun c ⟨h, hs, hi, hc⟩ hr hu ho => ?_,
      fun c ⟨h, hs, hi, hc⟩ hr hu ho => ?_, fun t l ⟨h, hs, hi, hc⟩ hr hu ho ha => ?_, fun ⟨h, hs, hi, hc⟩ hr hu ho ha => ?_,
      settingsDue_eq_none_iff w, fun o => settingsDue_mem⟩
    · rw [arbPump_erase h, arbErase_free]
      exact if_pos hn
    · rw [arbPump_erase h, arbErase_free, if_neg (ne_true_of_eq_false hn)]
      exact if_pos ⟨hw, hu, hc⟩
    · rw [arbPump_erase h, arbErase_free, if_neg (ne_true_of_eq_false hn)]
      refine if_neg fun ⟨hw, hu, hc⟩ => ?_
      obtain hx | hx | hx := hx
      · exact Bool.false_ne_true (hx.symm.trans hw)
      · exact hx hu
      · exact Bool.false_ne_true (hc.symm.trans hx)
    · rw [arbPump_free h, arbFree_journal hs hi, journalAction_eq, eraseThen_eq]
      rfl
    · rw [arbPump_free h, arbFree_incident hi hs]
      exact eraseThen_eq _ _ _ _
    · rw [arbPump_free h, arbFree_low hs hi, arbLow_flush hc]
    · rw [arbPump_free h, arbFree_low hs hi, arbLow_read hc hr]
    · rw [arbPump_free h, arbFree_low hs hi, arbLow_suspended hc hr hu]
      rfl
    · rw [arbPump_free h, arbFree_low hs hi, arbLow_settings hc hr hu ho]
      rfl
    · rw [arbPump_free h, arbFree_low hs hi, arbLow_settings hc hr hu ho]
      rfl
    · rw [arbPump_free h, arbFree_low hs hi, arbLow_ahead hc hr hu ((settingsDue_eq_none_iff w).2 ho) ha]
      have hl : s.writer.aheads.erase t = l := by rw [show s.writer.aheads = t :: l from ha, List.erase_cons_head]
      rw [startErase, hl]
    · rw [arbPump_free h, arbFree_low hs hi, arbLow_idle hc hr hu ((settingsDue_eq_none_iff w).2 ho) ha]
  · intro idle unformed
    refine ⟨linkPump_waits, fun m k r l ⟨ht, hr⟩ hq => linkPump_reply ht hr hq rfl, fun c ⟨ht, hr⟩ hq hd => ?_, fun ⟨ht, hr⟩ hq hd => ?_,
      due_eq_none_iff x.link, fun c => due_first, fun c hc => sent_eq_of_ne hc x.link, sent_pack x.link⟩
    · exact (linkPump_notice ht hr hq).trans (sendNotice_some hd)
    · exact (linkPump_notice ht hr hq).trans (sendNotice_none hd)

end Sys2Proof.Machine
end

section
/-! The end of the rebuild, and the replay of one record (R170, R171, O58). -/

namespace Sys2Proof.Machine

/-! ### The bays of the rebuilt packs (R47, R171) -/

theorem baysLinkOnly_installBay (s : State) (b : BayId) : BaysLinkOnly s (installBay s b) := by
  unfold installBay
  split
  · exact baysLinkOnly_putBay s b _
  · exact .refl s

theorem otherBays_installBay (s : State) (b : BayId) : OtherBays b s (installBay s b) := by
  unfold installBay
  split
  · exact otherBays_putBay s b _
  · exact fun _ _ => rfl

theorem bay_installBay_some {s : State} {b : BayId} {p : Pack} (h : s.packs.find? (fun q => q.bay = some b) = some p) :
    (installBay s b).bay b = rebuiltBay (s.bay b) p := by
  unfold installBay
  rw [h]
  exact bay_putBay s b _

theorem installBay_none {s : State} {b : BayId} (h : s.packs.find? (fun q => q.bay = some b) = none) : installBay s b = s := by
  unfold installBay
  rw [h]

theorem baysLinkOnly_foldl_installBay (l : List BayId) (s : State) : BaysLinkOnly s (l.foldl installBay s) :=
  baysLinkOnly_foldl baysLinkOnly_installBay l s

theorem bay_foldl_installBay_out {l : List BayId} {b : BayId} (hb : b ∉ l) (s : State) : (l.foldl installBay s).bay b = s.bay b := by
  induction l generalizing s with
  | nil => rfl
  | cons c l ih =>
    obtain ⟨hne, hl⟩ := not_or.1 (mt List.mem_cons.2 hb)
    exact (ih hl (installBay s c)).trans (otherBays_installBay s c b hne)

/-- A bay of the list is set once, from the table and the bay as they were. -/
theorem bay_foldl_installBay {l : List BayId} (hl : l.Nodup) {b : BayId} (hb : b ∈ l) (s : State) :
    (l.foldl installBay s).bay b = (installBay s b).bay b := by
  induction l generalizing s with
  | nil => exact absurd hb List.not_mem_nil
  | cons c l ih =>
    obtain ⟨hc, hl⟩ := List.nodup_cons.1 hl
    obtain rfl | hb := List.mem_cons.1 hb
    · exact bay_foldl_installBay_out hc (installBay s b)
    · have hne : b ≠ c := fun h => hc (h ▸ hb)
      have hpacks := (baysLinkOnly_installBay s c).packs
      have hbay := otherBays_installBay s c b hne
      rw [List.foldl_cons, ih hl hb]
      cases hf : s.packs.find? (fun q => q.bay = some b) with
      | none => rw [installBay_none hf, installBay_none (by rw [hpacks]; exact hf), hbay]
      | some p => rw [bay_installBay_some hf, bay_installBay_some (by rw [hpacks]; exact hf), hbay]

theorem foldl_listPack_frame (l : List Pack) (s : State) : ∃ x, l.foldl (fun s p => s.listPack p.tag none) s = { s with link := x } := by
  induction l generalizing s with
  | nil => exact ⟨_, rfl⟩
  | cons p l ih =>
    obtain ⟨x, hx⟩ := ih (s.listPack p.tag none)
    exact ⟨x, hx⟩

/-- The state of the rebuild's end before the feeder looks for a feed (R171). -/
def rebuiltState (s : State) (r : Tables) : State :=
  let ps := r.packs.map (rebuiltPack s.gaps)
  let u := { s with
    phase := .running, rebuilt := none, packs := ps, lots := r.lots, queue := r.queue, gaps := (ps.filter Pack.gap).map Pack.key }
  ((ps.foldl (fun s p => s.listPack p.tag none) (allBays.foldl installBay u)).mark .pack).mark .bay

theorem installRebuild_eq {s : State} {r : Tables} (h : s.rebuilt = some r) : installRebuild s = tryFeed (rebuiltState s r) := by
  unfold installRebuild
  rw [h]
  rfl

theorem exec_rebuildComplete {s : State} {r : Tables} (hp : s.phase = .starting) (h : s.rebuilt = some r) :
    exec .rebuildComplete s = .next (finish s (takeAll 4 (signNotice s (tryFeed (rebuiltState s r))))) := by
  have hr : s.inReset = false := by simp [State.inReset, hp]
  have hout := live_out hr (fun s => if s.phase = .starting then finish s (takeWaiting (signNotice s (installRebuild s))) else s)
  rw [if_pos hp, installRebuild_eq h] at hout
  exact hout

/-- The state before the bays are set: the tables in place. -/
structure RebuiltFrame (s v : State) (r : Tables) : Prop where
  phase : v.phase = .running
  rebuilt : v.rebuilt = none
  lots : v.lots = r.lots
  queue : v.queue = r.queue
  packs : v.packs = r.packs.map (rebuiltPack s.gaps)
  gaps : v.gaps = (v.packs.filter Pack.gap).map Pack.key
  writer : v.writer = s.writer
  nv : v.nv = s.nv
  line : v.line = s.line
  found : ∀ b p, v.packs.find? (fun q => q.bay = some b) = some p → v.bay b = rebuiltBay (s.bay b) p
  unfound : ∀ b, v.packs.find? (fun q => q.bay = some b) = none → v.bay b = s.bay b

theorem rebuiltFrame_rebuiltState (s : State) (r : Tables) : RebuiltFrame s (rebuiltState s r) r := by
  let ps := r.packs.map (rebuiltPack s.gaps)
  let u : State := { s with
    phase := .running, rebuilt := none, packs := ps, lots := r.lots, queue := r.queue, gaps := (ps.filter Pack.gap).map Pack.key }
  have hl := baysLinkOnly_foldl_installBay allBays u
  have hbay (b : BayId) : (allBays.foldl installBay u).bay b = (installBay u b).bay b :=
    bay_foldl_installBay allBays_nodup (mem_allBays b) u
  obtain ⟨x, hx⟩ := foldl_listPack_frame ps (allBays.foldl installBay u)
  have hdef : rebuiltState s r = ((ps.foldl (fun s p => s.listPack p.tag none) (allBays.foldl installBay u)).mark .pack).mark .bay := rfl
  rw [hdef, hx]
  have hfound (b : BayId) (p : Pack) (h : ps.find? (fun q => q.bay = some b) = some p) :
      (allBays.foldl installBay u).bay b = rebuiltBay (s.bay b) p := (hbay b).trans (bay_installBay_some (s := u) h)
  have hunfound (b : BayId) (h : ps.find? (fun q => q.bay = some b) = none) : (allBays.foldl installBay u).bay b = s.bay b :=
    (hbay b).trans (by rw [installBay_none (s := u) h]; rfl)
  generalize allBays.foldl installBay u = w at *
  obtain ⟨v, l, rfl⟩ := hl
  exact ⟨rfl, rfl, rfl, rfl, rfl, rfl, rfl, rfl, rfl, hfound, hunfound⟩

/-! ### A rebuilt pack (R2, R171) -/

theorem rebuiltPack_inBay {p : Pack} (hs : p.state = .inBay ∨ p.state = .released) (hb : p.bay.isSome = true) (g : List (Tag × Nat)) :
    rebuiltPack g p = { p with state := .inBay, gap := true } := by
  unfold rebuiltPack
  dsimp only
  rw [if_pos]
  simpa only [Bool.and_eq_true, Bool.or_eq_true, decide_eq_true_eq] using ⟨hs, hb⟩

theorem rebuiltPack_other {p : Pack} (h : ¬((p.state = .inBay ∨ p.state = .released) ∧ p.bay.isSome = true)) (g : List (Tag × Nat)) :
    rebuiltPack g p = { p with gap := p.gap || decide ((p.tag, p.firstRecord) ∈ g) } := by
  have hany : g.any (fun k => decide (k = p.key)) = decide ((p.tag, p.firstRecord) ∈ g) := by
    rw [Bool.eq_iff_iff]
    simp [Pack.key]
  unfold rebuiltPack
  dsimp only
  rw [if_neg, hany]
  simpa only [Bool.and_eq_true, Bool.or_eq_true, decide_eq_true_eq] using h

end Sys2Proof.Machine
end

section
/-! The replay of one record, kind by kind (R2, R170, O58). -/

namespace Sys2Proof.Machine

/-! ### A record of a pack in the table -/

theorem tag_of_find {l : List Pack} {n : Tag} {p : Pack} (h : l.find? (fun p => p.tag = n) = some p) : p.tag = n :=
  of_decide_eq_true (p := p.tag = n) (List.find?_some (p := fun p : Pack => decide (p.tag = n)) h)

/-- A record that stands for a pack: none of a lot, and no ADMIT. -/
def kindOfPack (k : RecordKind) : Prop := k ≠ .lotOpen ∧ k ≠ .lotClose ∧ k ≠ .lotFinal ∧ k ≠ .admitted

theorem replayRecord_ofPack {r : Record} (h : kindOfPack r.kind) (t : Tables) : replayRecord t r =
    match t.packs.find? (fun p => p.tag = r.subject) with
    | some p => replayHeld t p r
    | none => t := by
  obtain ⟨hopen, hclose, hfinal, hadmitted⟩ := h
  unfold replayRecord
  cases hk : r.kind with
  | lotOpen => exact absurd hk hopen
  | lotClose => exact absurd hk hclose
  | lotFinal => exact absurd hk hfinal
  | admitted => exact absurd hk hadmitted
  | _ => rfl

theorem replayRecord_unknown {r : Record} (h : kindOfPack r.kind) {t : Tables} (hn : ∀ p ∈ t.packs, p.tag ≠ r.subject) :
    replayRecord t r = t := by
  have hf : t.packs.find? (fun p => p.tag = r.subject) = none :=
    List.find?_eq_none.2 fun p hp he => hn p hp (of_decide_eq_true he)
  rw [replayRecord_ofPack h, hf]

theorem replayRecord_known {r : Record} (h : kindOfPack r.kind) {t : Tables} {p : Pack}
    (hp : t.packs.find? (fun p => p.tag = r.subject) = some p) : replayRecord t r = replayHeld t p r := by
  rw [replayRecord_ofPack h, hp]

section
variable (t : Tables) (p : Pack) {r : Record}

theorem replayHeld_stage (h : r.kind = .stage) : replayHeld t p r = { t with
    packs := t.packs.map (fun k => if k.tag = p.tag then replayPack p r else k), queue := t.queue.filter (· ≠ p.tag) ++ [p.tag] } := by
  unfold replayHeld
  dsimp only
  rw [h]

theorem replayHeld_quarantine (h : r.kind = .quarantine) : replayHeld t p r = { t with
    packs := t.packs.map (fun k => if k.tag = p.tag then replayPack p r else k), queue := t.queue.filter (· ≠ p.tag) } := by
  unfold replayHeld
  dsimp only
  rw [h]

theorem replayHeld_fed (h : r.kind = .fed) : replayHeld t p r = ⟨t.packs.filter (fun k => k.tag ≠ p.tag),
    mapLot (replayPack p r).lot (fun l => l.exit (replayPack p r) .fed) t.lots, t.queue.filter (· ≠ p.tag)⟩ := by
  unfold replayHeld
  dsimp only
  rw [h]

theorem replayHeld_removed (h : r.kind = .removed) : replayHeld t p r = ⟨t.packs.filter (fun k => k.tag ≠ p.tag),
    mapLot (replayPack p r).lot (fun l => l.exit (replayPack p r) .removed) t.lots, t.queue.filter (· ≠ p.tag)⟩ := by
  unfold replayHeld
  dsimp only
  rw [h]

theorem replayHeld_other (h₁ : r.kind ≠ .stage) (h₂ : r.kind ≠ .quarantine) (h₃ : r.kind ≠ .fed) (h₄ : r.kind ≠ .removed) :
    replayHeld t p r = { t with packs := t.packs.map (fun k => if k.tag = p.tag then replayPack p r else k) } := by
  unfold replayHeld
  dsimp only
  split
  · next h => exact absurd h h₁
  · next h => exact absurd h h₂
  · next h => exact absurd h h₃
  · next h => exact absurd h h₄
  · rfl

end

/-! ### An ADMIT record -/

/-- A lot with one more pack admitted, where it is the record's. -/
def countAdmitted (n : Tag) (l : Lot) : Lot := if l.number = n then { l with admitted := l.admitted + 1 } else l

theorem replayAdmit_eq {r : Record} {c : ClassId} {cells capacity mass ocv : Nat} {bypass : Bool}
    (h : r.detail = .admitted c cells capacity mass ocv bypass) (t : Tables) : replayAdmit t r = { t with
      packs := t.packs.filter (fun p => p.tag ≠ r.subject) ++ [replayPack (replayEntry r c cells capacity mass ocv) r]
      lots := (if t.lots.any (fun l => l.number = r.lot) then t.lots
        else t.lots ++ [⟨r.lot, .closing, 0, 0, 0, 0, 0, 0, 2, r.seq⟩]).map (countAdmitted r.lot) } := by
  unfold replayAdmit
  rw [h]
  rfl

theorem replayPack_admitted {r : Record} {c : ClassId} {cells capacity mass ocv : Nat} {bypass : Bool} {st : PackState}
    (hk : r.kind = .admitted) (hd : r.detail = .admitted c cells capacity mass ocv bypass) (ha : r.after = .pack st) (hs : st ≠ .staged)
    (hf : st ≠ .feeding) : replayPack (replayEntry r c cells capacity mass ocv) r = {
      tag := r.subject, lot := r.lot, cls := c, cells := cells, capacity := capacity, mass := mass, ocv := ocv, state := st
      bay := r.bay, energy := r.energy, gap := false, trips := r.trips, rebounds := r.rebounds, charge := r.charge
      firstRecord := r.seq, exposure := none, reason := none } := by
  have hst : replayedState (.pack st) = st := by
    cases st with
    | feeding => exact absurd rfl hf
    | _ => rfl
  unfold replayPack
  rw [hk, hd, ha, hst]
  dsimp only
  rw [if_neg hs]
  rfl

end Sys2Proof.Machine
end

section
/-! The end of the rebuild and the replay, put together (O58). -/

namespace Sys2Proof.Machine

/-- What a record of a pack sets in its entry, the state after it given (R3, R170). -/
theorem replayPack_eq {r : Record} {st : PackState} (ha : r.after = .pack st) (p : Pack) : replayPack p r = { p with
    state := if st = .feeding then .staged else st, bay := if st = .staged ∨ st = .feeding then none else r.bay
    energy := r.energy, trips := r.trips, rebounds := r.rebounds, charge := r.charge
    gap := p.gap || decide (r.kind = .confirm), exposure := (replayPack p r).exposure, reason := (replayPack p r).reason } := by
  unfold replayPack
  rw [ha]
  cases st <;> rfl

/-- Settles O58. -/
theorem rebuildEnds : Obligations.RebuildEnds := by
  refine ⟨fun s r hp hr => ?_, fun t r => ?_⟩
  · have F := rebuiltFrame_rebuiltState s r
    refine ⟨rebuiltState s r, exec_rebuildComplete hp hr, F.phase, F.rebuilt, F.lots, F.queue, F.packs,
      fun p hs hb => rebuiltPack_inBay hs hb s.gaps, fun p h => rebuiltPack_other h s.gaps, F.gaps, fun b p hf hs => ?_, fun b p hf hs => ?_,
      F.unfound, F.writer, F.nv, F.line⟩
    all_goals
      rw [F.found b p hf, rebuiltBay, hs]
  · intro u
    refine ⟨fun hk => ?_, fun hk => ?_, fun hk => ?_, fun c cells capacity mass ocv bypass st hk hd ha hs hf => ?_, ?_⟩
    · change replayRecord t r = _
      rw [replayRecord, hk]
    · change replayRecord t r = _
      rw [replayRecord, hk]
      rfl
    · change replayRecord t r = _
      rw [replayRecord, hk]
    · intro known counted
      have hu : u = replayAdmit t r := by
        change replayRecord t r = _
        rw [replayRecord, hk]
      have hany : (t.lots.any fun l => decide (l.number = r.lot)) = true ↔ known := by
        simp only [List.any_eq_true, decide_eq_true_eq]
        rfl
      rw [replayAdmit_eq hd] at hu
      rw [hu, replayPack_admitted hk hd ha hs hf]
      refine ⟨rfl, rfl, fun h => ?_, fun h => ?_⟩
      · dsimp only
        rw [if_pos (hany.2 h)]
        rfl
      · dsimp only
        rw [if_neg fun e => h (hany.1 e), List.map_append, List.map_singleton, countAdmitted, if_pos rfl]
        rfl
    · intro ofPack
      refine ⟨fun h hn => replayRecord_unknown h hn, fun p st h hfind ha => ?_⟩
      intro q put rest exits
      have htag := tag_of_find hfind
      have hu : u = replayHeld t p r := replayRecord_known h hfind
      have hq : replayPack p r = q := replayPack_eq ha p
      refine ⟨fun hk => ?_, fun hk => ?_, fun hk => ?_, fun hk => ?_, fun h₁ h₂ h₃ h₄ => ?_⟩
      · rw [hu, replayHeld_stage t p hk, htag, hq]
      · rw [hu, replayHeld_quarantine t p hk, htag, hq]
      · rw [hu, replayHeld_fed t p hk, htag, hq]
        rfl
      · rw [hu, replayHeld_removed t p hk, htag, hq]
        rfl
      · rw [hu, replayHeld_other t p h₁ h₂ h₃ h₄, htag, hq]

end Sys2Proof.Machine
end

section
/-! Start-up, from the scan to the first notice (R86, R109, R151, R158, R169, R176, O57). -/

namespace Sys2Proof.Machine

/-! ### The state that the scan gives, its zones formed (R86, R169) -/

/-- Start-up with the zones formed. -/
def zonesFormed (s : State) : State := { scanned s with zones := startZones (scanned s) }

theorem bay_scanned (s : State) (b : BayId) : (scanned s).bay b = { Bay.initial with settings := (loadedBays s.cutNv)[b] } :=
  Vector.getElem_ofFn b.isLt

theorem zone_scanned (s : State) (z : ZoneId) : (scanned s).zone z = { Zone.initial with settings := (loadedZones s.cutNv)[z] } :=
  Vector.getElem_ofFn z.isLt

theorem loop_scanned (s : State) (l : LoopId) : (scanned s).loop l = startLoop s.cutNv l := by cases l <;> rfl

theorem head_scanned (s : State) (l : LoopId) (a : HeadAddr) :
    (scanned s).head l a = ((loadedHeads s.cutNv l)[a]).map (fun e => freshHead e.kind e.zone false) := by
  unfold State.head
  rw [loop_scanned]
  exact Vector.getElem_ofFn a.isLt

/-- Every head is enrolled at NORMAL, none isolated, and no loop is SHORT. -/
theorem zoneFault_scanned (s : State) (z : ZoneId) : (scanned s).zoneFault z = false := by
  have fresh {l : LoopId} {a : HeadAddr} {h : Head} (e : (scanned s).head l a = some h) : h.level = .normal ∧ h.isolated = false := by
    rw [head_scanned] at e
    obtain ⟨k, -, rfl⟩ := Option.map_eq_some_iff.1 e
    exact ⟨rfl, rfl⟩
  refine eq_false_of_ne_true fun hf => ?_
  obtain ⟨l, a, h, ⟨hh, -, -⟩, hlevel⟩ | ⟨l, a, h, -, hshort⟩ | ⟨⟨l, a, h, hh, hz⟩, hall⟩ := (zoneFault_iff _ z).1 hf
  · rw [(fresh hh).1] at hlevel
    obtain hlevel | hlevel := hlevel <;> cases hlevel
  · rw [loop_scanned] at hshort
    cases hshort
  · exact Bool.false_ne_true ((fresh hh).2.symm.trans (hall l a h hh hz))

theorem zone_zonesFormed (s : State) (z : ZoneId) : (zonesFormed s).zone z = { Zone.initial with
    settings := (loadedZones s.cutNv)[z], counts := (scanned s).headCounts z } := by
  have h : (zonesFormed s).zone z = { (scanned s).zone z with
      counts := (scanned s).headCounts z, fault := (scanned s).zoneFault z } := Vector.getElem_ofFn z.isLt
  rw [h, zone_scanned, zoneFault_scanned]
  rfl

theorem activeCells_zonesFormed (s : State) (z : ZoneId) : (zonesFormed s).activeCells z = [] := by
  unfold State.activeCells
  rw [zone_zonesFormed]
  rfl

/-- No cell is active, so that the initial effect set is the clear one. -/
theorem formEffects_zonesFormed (s : State) : formEffects (zonesFormed s) = zonesFormed s := by
  have hcells : (zonesFormed s).activeCells = fun _ => [] := funext (activeCells_zonesFormed s)
  have he : effectOf (zonesFormed s) = EffectSet.clear := by
    unfold effectOf
    rw [hcells]
    rfl
  unfold formEffects
  rw [he]
  exact if_pos rfl

/-! ### The erase-ahead taken up (R158, R161) -/

/-- The erase-ahead that start-up calls for. -/
def startAheads (s : State) : List EraseTarget :=
  if decide (0 < (zonesFormed s).writer.used) && (zonesFormed s).reusable (zonesFormed s).writer.next
      && !(segErased s.cutNv.journal (zonesFormed s).writer.next)
  then [.journal (zonesFormed s).writer.next] else []

theorem eraseAhead_zonesFormed (s : State) : eraseAhead (zonesFormed s) = { zonesFormed s with
    writer := { (zonesFormed s).writer with aheads := startAheads s } } := by
  unfold eraseAhead startAheads
  dsimp only
  have hnv : (zonesFormed s).nv = s.cutNv := rfl
  rw [hnv]
  split
  · rfl
  · rfl

/-- The free array takes up what start-up has queued. -/
def startRunning (s : State) : Option NvOp := (startAheads s).head?.map (fun t => .erase t false false)

end Sys2Proof.Machine
end

section
/-! The first comparison of the supply, and the step of start-up ended (R151, R152, R161, R167, R176, logs 67, 71, O57). -/

namespace Sys2Proof.Machine

/-! ### Parts that have nothing to take -/

theorem setHolds_same {s : State} {b : BayId} : setHolds s b (s.bay b).holds = s := by
  unfold setHolds
  exact if_pos rfl

theorem syncHolds_same {s : State} (h : ∀ b, holdsFrom s b = (s.bay b).holds) : syncHolds s = s := by
  unfold syncHolds
  generalize allBays = l
  induction l with
  | nil => rfl
  | cons b l ih =>
    rw [List.foldl_cons, h b, setHolds_same]
    exact ih

theorem putInterlock_same (s : State) : putInterlock s s.interlock = s := by
  unfold putInterlock
  simp only [decide_true, Bool.and_self, Bool.not_true]
  rfl

theorem putFeeder_same (s : State) : putFeeder s s.feeder = s := by
  unfold putFeeder
  simp only [decide_true, Bool.and_self, Bool.not_true]
  rfl

theorem updatePermission_same {s : State} (hx : s.interlock.permission = false) (hm : modeRuns s.line.mode = false) :
    updatePermission s = s := by
  have hmet : s.runConditions.met = false := by
    simp only [RunConditions.met, State.runConditions, hm, Bool.and_false, Bool.false_and]
  have hy : ({ s.interlock with permission := false } : Interlock) = s.interlock := by rw [← hx]
  unfold updatePermission
  dsimp only
  rw [hmet, hy, hx]
  exact putInterlock_same s

theorem updateFeeder_same {s : State} (hb : s.feeder.state = .blocked) (hr : s.blockReasons = s.feeder.reasons)
    (hn : s.feeder.reasons.isEmpty = false) : updateFeeder s = s := by
  unfold updateFeeder
  dsimp only
  split
  · rw [hr, if_neg (ne_true_of_eq_false hn)]
    exact putFeeder_same s
  · next h => cases hb.symm.trans h
  · next h => cases hb.symm.trans h
  · next h => cases hb.symm.trans h

/-! ### The first comparison (R151) -/

/-- The zones formed and the erase-ahead queued. -/
def aheadQueued (s : State) : State := { zonesFormed s with writer := { (zonesFormed s).writer with aheads := startAheads s } }

/-- The part that starts in WARNING: SAFE_HOLD, the flush-done mark set, LINE pending beside JOURNAL (logs 67, 71). -/
def startWarned (s : State) : State := { aheadQueued s with
  line := { (aheadQueued s).line with monitor := .warning, mode := .safeHold, cause := some .supply, flushDone := true }
  link := { Link.initial with noticePending := noticeBit .line ||| noticeBit .journal } }

/-- What SAFE_HOLD finds at start-up it leaves: bays held, the interlock stopped, the feeder BLOCKED for every reason that stands. -/
theorem setLineMode_start (s : State) {x : State} (hx : x = { aheadQueued s with line := x.line, link := x.link })
    (hmode : x.line.mode = .standby) (hin : x.line.inputs = restartInputs s.line.inputs) :
    setLineMode x .safeHold (some .supply) = { x with
      line := { x.line with mode := .safeHold, cause := some .supply }, link := x.link.mark .line } := by
  let y : State := { x with line := { x.line with mode := .safeHold, cause := some .supply }, link := x.link.mark .line }
  have hy : setLineMode x .safeHold (some .supply) = updateFeeder (updatePermission (syncHolds y)) := by
    unfold setLineMode
    dsimp only
    rw [hmode]
    rfl
  have hbay (b : BayId) : y.bay b = { Bay.initial with settings := (loadedBays s.cutNv)[b] } := by
    have e : y.bay b = (scanned s).bay b := bay_of_bays (by rw [show y.bays = x.bays from rfl, hx]; rfl) b
    rw [e, bay_scanned]
  have hcooling : y.coolingOk = false := by
    unfold State.coolingOk State.level
    rw [show y.line.inputs = x.line.inputs from rfl, hin]
    rfl
  have hmarks (z : ZoneId) : y.effect.marks[z] = false := by
    have e : y.effect = EffectSet.clear := by rw [show y.effect = x.effect from rfl, hx]; rfl
    rw [e]
    exact Vector.getElem_replicate z.isLt
  have hholds (b : BayId) : holdsFrom y b = (y.bay b).holds := by
    unfold holdsFrom
    rw [hcooling, hbay]
    dsimp only
    simp only [hmarks]
    split <;> rfl
  have hfeeder : y.feeder = (scanned s).feeder := by rw [show y.feeder = x.feeder from rfl, hx]; rfl
  have hinterlock : y.interlock = Interlock.initial := by rw [show y.interlock = x.interlock from rfl, hx]; rfl
  have hreasons : y.blockReasons = y.feeder.reasons := by
    have hatm : y.atm = (scanned s).atm := by rw [show y.atm = x.atm from rfl, hx]; rfl
    have heffect : y.effect = EffectSet.clear := by rw [show y.effect = x.effect from rfl, hx]; rfl
    unfold State.blockReasons
    rw [hatm, hfeeder, hinterlock, heffect]
    rfl
  rw [hy, syncHolds_same hholds, updatePermission_same (by rw [hinterlock]; rfl) rfl, updateFeeder_same (by rw [hfeeder]; rfl) hreasons]
  rw [hfeeder]
  rfl

theorem compareSupply_normal {s : State} (h : warningLevel s.feeder.settings.step ≤ s.line.supply) (hm : s.line.monitor = .normal) :
    compareSupply s = s := by
  have hafter : monitorAfter s.feeder.settings.step s.line.supply s.line.monitor = .normal := by
    unfold monitorAfter
    rw [if_neg (Nat.not_lt.2 h), hm]
    split <;> rfl
  unfold compareSupply
  rw [hafter, hm]
  exact if_pos rfl

theorem compareSupply_falls_of {x : State} (h : x.line.supply < warningLevel x.feeder.settings.step) (hm : x.line.monitor = .normal) :
    compareSupply x = supplyFalls x := by
  have hafter : monitorAfter x.feeder.settings.step x.line.supply x.line.monitor = .warning := if_pos h
  unfold compareSupply
  dsimp only
  rw [hafter, hm, if_neg (by decide), if_pos rfl]

theorem reportFlushed_now {x : State} (hm : x.line.monitor = .warning) (hb : x.writer.buffer = []) (hf : x.line.flushDone = false) :
    reportFlushed x = { x with line := { x.line with flushDone := true }, link := x.link.mark .line } := by
  unfold reportFlushed
  rw [if_pos]
  · rfl
  · simp only [hm, hb, hf, decide_true, List.isEmpty_nil, Bool.not_false, Bool.and_self]

/-- LINE marked by the warning, the mode and the flush-done mark. -/
theorem mark_line_start : (((Link.initial.mark .journal).mark .line).mark .line).mark .line
    = { Link.initial with noticePending := noticeBit .line ||| noticeBit .journal } := by decide

theorem compareSupply_start {s : State} (h : s.line.supply < warningLevel (aheadQueued s).feeder.settings.step) :
    compareSupply (aheadQueued s) = startWarned s := by
  have hmode : ({ aheadQueued s with line := { (aheadQueued s).line with monitor := .warning } }.mark .line).line.mode ≠ .safeHold := nofun
  rw [compareSupply_falls_of h rfl, supplyFalls, enterSafeHold, if_neg hmode, setLineMode_start s rfl rfl rfl,
    reportFlushed_now rfl rfl rfl]
  exact congrArg (fun l : Link => ({ startWarned s with link := l } : State)) mark_line_start

/-! ### The end of the step (R161, R176) -/

/-- With the array free and nothing buffered or read, the queued erase-ahead starts. -/
theorem arbPump_start {s x : State} (hw : x.writer = (aheadQueued s).writer) (hr : x.link.restart = .none) :
    arbPump x = { x with writer := { (zonesFormed s).writer with aheads := [], running := startRunning s } } := by
  have hf : x.commandFlush = false := by simp only [State.commandFlush, hr]; rfl
  rw [arbPump_free (by rw [hw]; rfl), arbFree_low (by rw [hw]; rfl) (by rw [hw]; rfl)]
  have hdue : x.writer.settingsDue = none := (settingsDue_eq_none_iff _).2 (by rw [hw]; rfl)
  unfold startRunning
  cases ha : startAheads s with
  | nil =>
    rw [arbLow_idle hf (by rw [hw]; rfl) (by rw [hw]; rfl) hdue (by rw [hw]; exact ha)]
    conv_lhs => rw [show x = { x with writer := (aheadQueued s).writer } by rw [← hw]]
    unfold aheadQueued
    rw [ha]
    rfl
  | cons t l =>
    have hl : l = [] := by
      unfold startAheads at ha
      split at ha
      · exact (List.cons.inj ha).2.symm
      · cases ha
    subst hl
    rw [arbLow_ahead hf (by rw [hw]; rfl) (by rw [hw]; rfl) hdue (by rw [hw]; exact ha), startErase, hw]
    unfold aheadQueued
    rw [ha, List.erase_cons_head]
    rfl

end Sys2Proof.Machine
end

section
/-! What start-up comes to (R151, R161, R169, R176, O57). -/

namespace Sys2Proof.Machine

/-- The Journal Writer once the free array has taken up the erase-ahead. -/
def startWriter (s : State) : Writer := { (zonesFormed s).writer with aheads := [], running := startRunning s }

theorem signNotice_pending {t x : State} (h : x.link.mark .journal = x.link) : signNotice t x = x := by
  unfold signNotice State.markIf
  split
  · unfold State.mark
    rw [h]
  · rfl

/-- A step that ends with the transmitter free, no request queued and JOURNAL pending already: the lowest pending notice is sent. -/
theorem finish_notice {t v x : State} {l : Link} {c : NoticeClass} (hpump : arbPump v = x) (hl : x.link = l)
    (hmark : l.mark .journal = l) (htx : l.tx = none) (hrestart : l.restart = .none) (hqueue : l.queue = []) (hdue : l.due = some c) :
    finish t v = { x with link := { l.sent c with tx := some (.notice (noticeContent x c)) } } := by
  subst hl
  have hfree : x.link.restart ≠ .flushing := by rw [hrestart]; nofun
  have hunformed : ∀ e, x.link.queue.head? = some e → ∀ r, e.stage ≠ .formed r := fun e he => by
    rw [hqueue] at he
    cases he
  rw [finish, hpump, signNotice_pending hmark, linkPump_notice htx hfree hunformed, sendNotice_some hdue]

theorem startUp_eq (s : State) : startUp s = finish (zonesFormed s) (compareSupply (aheadQueued s)) := by
  have h : startUp s = finish (formEffects (zonesFormed s)) (compareSupply (eraseAhead (formEffects (zonesFormed s)))) := rfl
  rw [h, formEffects_zonesFormed, eraseAhead_zonesFormed]
  rfl

/-- A part that starts at the warning level or above it. -/
def startedNormal (s : State) : State := { zonesFormed s with writer := startWriter s }

theorem startUp_normal {s : State} (h : warningLevel (zonesFormed s).feeder.settings.step ≤ s.line.supply) :
    startUp s = { startedNormal s with
      link := { Link.initial with tx := some (.notice (noticeContent (startedNormal s) .journal)) } } := by
  have hpump : arbPump (aheadQueued s) = startedNormal s := arbPump_start rfl rfl
  have hsent : (Link.initial.mark .journal).sent .journal = Link.initial := by decide
  have hend : finish (zonesFormed s) (aheadQueued s) = _ := finish_notice (l := Link.initial.mark .journal) (c := .journal) hpump rfl
    (by decide) rfl rfl rfl (by decide)
  rw [startUp_eq, compareSupply_normal (s := aheadQueued s) h rfl, hend, hsent]

/-- A part that starts below the warning level. -/
def startedWarned (s : State) : State := { startWarned s with writer := startWriter s }

theorem startUp_warned {s : State} (h : s.line.supply < warningLevel (zonesFormed s).feeder.settings.step) :
    startUp s = { startedWarned s with
      link := { Link.initial with
        tx := some (.notice (noticeContent (startedWarned s) .line)), noticePending := noticeBit .journal } } := by
  let l : Link := { Link.initial with noticePending := noticeBit .line ||| noticeBit .journal }
  have hpump : arbPump (startWarned s) = startedWarned s := arbPump_start rfl rfl
  have hsent : l.sent .line = { Link.initial with noticePending := noticeBit .journal } := by decide
  have hend : finish (zonesFormed s) (startWarned s) = _ := finish_notice (l := l) (c := .line) hpump rfl (by decide) rfl rfl rfl (by decide)
  rw [startUp_eq, compareSupply_start h, hend, hsent]

/-- Whatever the supply, start-up leaves the scan's state with its zones formed and the erase-ahead taken up; the line, the frame being
sent and the pending classes apart. -/
theorem startUp_frame (s : State) : startUp s = { startedNormal s with line := (startUp s).line, link := (startUp s).link }
    ∧ (startUp s).line.supply = s.line.supply ∧ (startUp s).link.queue = [] ∧ (startUp s).link.subscribed = 0x7f#7 := by
  by_cases h : s.line.supply < warningLevel (zonesFormed s).feeder.settings.step
  · rw [startUp_warned h]
    exact ⟨rfl, rfl, rfl, rfl⟩
  · rw [startUp_normal (Nat.le_of_not_lt h)]
    exact ⟨rfl, rfl, rfl, rfl⟩

end Sys2Proof.Machine
end

section
/-! What a reset leaves of the operation in hand (R153, R166, R168, log 9, O57). -/

namespace Sys2Proof.Machine

/-! ### Slots that read as failed (R153, R168) -/

theorem journalAt_fail (ns : List Nat) (j : List (Nat × Slot)) (n : Nat) :
    journalAt (journalFail ns j) n = if n ∈ ns then some .failed else journalAt j n := by
  unfold journalFail
  induction ns generalizing j with
  | nil => rfl
  | cons m ns ih =>
    rw [List.foldl_cons, ih, journalAt_put]
    by_cases h : n = m
    · simp [h]
    · simp [h]

theorem mem_segSlots {n g : Nat} : n ∈ segSlots g ↔ segOf n = g := by
  simp only [segSlots, segOf, List.mem_map, List.mem_range]
  constructor
  · rintro ⟨i, hi, rfl⟩
    omega
  · intro h
    exact ⟨n % 16, Nat.mod_lt _ (by decide), by omega⟩

/-- Journal segment `g` of `m` reads as failed, and nothing else differs from `n`. -/
def SegmentFailed (g : Nat) (n m : Nv) : Prop := m = { n with journal := m.journal }
  ∧ (∀ k, segOf k = g → journalAt m.journal k = some .failed) ∧ (∀ k, segOf k ≠ g → journalAt m.journal k = journalAt n.journal k)

theorem segmentFailed_failTarget (n : Nv) (g : Nat) : SegmentFailed g n (n.failTarget (.journal g)) := by
  have hin (k : Nat) (h : segOf k = g) : journalAt (journalFail (segSlots g) n.journal) k = some .failed :=
    (journalAt_fail _ _ k).trans (if_pos (mem_segSlots.2 h))
  have hout (k : Nat) (h : segOf k ≠ g) : journalAt (journalFail (segSlots g) n.journal) k = journalAt n.journal k :=
    (journalAt_fail _ _ k).trans (if_neg (mt mem_segSlots.1 h))
  unfold Nv.failTarget
  dsimp only
  generalize journalFail (segSlots g) n.journal = j at *
  exact ⟨rfl, hin, hout⟩

/-! ### The operation in hand, and a suspended erase (R168) -/

section
variable {s : State}

theorem cutNv_running (h : s.writer.suspended = none) : s.cutNv = s.writer.cutRunning s.nv := by
  unfold State.cutNv
  rw [h]

theorem cutNv_suspended {t : EraseTarget} (h : s.writer.suspended = some t) : s.cutNv = (s.writer.cutRunning s.nv).failTarget t := by
  unfold State.cutNv
  rw [h]

theorem cutRunning_keeps (h : s.writer.running = none ∨ ∃ o, s.writer.running = some (.read o)) : s.writer.cutRunning s.nv = s.nv := by
  unfold Writer.cutRunning
  obtain h | ⟨o, h⟩ := h
  all_goals rw [h]

theorem cutRunning_erase {t : EraseTarget} {n u : Bool} (h : s.writer.running = some (.erase t n u)) :
    s.writer.cutRunning s.nv = s.nv.failTarget t := by
  unfold Writer.cutRunning
  rw [h]

/-- An erase cut short, suspended or running. -/
theorem cutNv_erase {t : EraseTarget} (h : (s.writer.suspended = some t ∧ s.writer.running = none)
    ∨ (s.writer.suspended = none ∧ ∃ n u, s.writer.running = some (.erase t n u))) : s.cutNv = s.nv.failTarget t := by
  obtain ⟨hu, hr⟩ | ⟨hu, n, u, hr⟩ := h
  · rw [cutNv_suspended hu, cutRunning_keeps (.inl hr)]
  · rw [cutNv_running hu, cutRunning_erase hr]

theorem cutRunning_program {k : Nat} (h : s.writer.running = some (.journalProgram k)) : s.writer.cutRunning s.nv
    = { s.nv with journal := journalFail ((s.writer.buffer.take k).filterMap Buffered.slot) s.nv.journal } := by
  unfold Writer.cutRunning
  rw [h]

theorem cutRunning_incident {p : IncidentPart} {l : List IncidentPart} (h : s.writer.running = some .incidentProgram)
    (hp : s.writer.incidents = p :: l) : s.writer.cutRunning s.nv = { s.nv with
      incidents := vput s.nv.incidents (incidentSlotOf p.number.toNat) (s.nv.incidents[incidentSlotOf p.number.toNat].failPart p) } := by
  unfold Writer.cutRunning
  rw [h]
  dsimp only
  rw [hp]

theorem cutRunning_settings {c : Section} (h : s.writer.running = some (.settingsErase c)
    ∨ ∃ d, s.writer.running = some (.settingsProgram c d)) :
    s.writer.cutRunning s.nv = { s.nv with sections := vput s.nv.sections (sectionIdx c) .failed } := by
  unfold Writer.cutRunning
  obtain h | ⟨d, h⟩ := h
  all_goals rw [h]

theorem cutNv_program (hu : s.writer.suspended = none) {k : Nat} (hr : s.writer.running = some (.journalProgram k)) :
    s.cutNv = { s.nv with journal := s.cutNv.journal }
    ∧ (∀ n, (∃ b ∈ s.writer.buffer.take k, b.slot = some n) → journalAt s.cutNv.journal n = some .failed)
    ∧ (∀ n, (∀ b ∈ s.writer.buffer.take k, b.slot ≠ some n) → journalAt s.cutNv.journal n = journalAt s.nv.journal n) := by
  have hcut := (cutNv_running hu).trans (cutRunning_program hr)
  have hfail := journalAt_fail ((s.writer.buffer.take k).filterMap Buffered.slot) s.nv.journal
  generalize journalFail ((s.writer.buffer.take k).filterMap Buffered.slot) s.nv.journal = j at *
  rw [hcut]
  refine ⟨rfl, fun n hn => (hfail n).trans (if_pos (List.mem_filterMap.2 hn)), fun n hn => (hfail n).trans (if_neg fun h => ?_)⟩
  obtain ⟨b, hb, hs⟩ := List.mem_filterMap.1 h
  exact hn b hb hs

end

end Sys2Proof.Machine
end

section
/-! The stored settings and the exported mark that the scan gives (R166, R169, O57). -/

namespace Sys2Proof.Machine

/-! ### A section as the scan finds it (R166, R169) -/

/-- What a stored setting gives the scan: its data where its check passes, as the model reads each of the nine places. -/
def Stored.data? : Stored SectionData → Option SectionData
  | .good d => some d
  | .blank => none
  | .failed => none

theorem Stored.eq_good_of_data? {x : Stored SectionData} {d : SectionData} (h : x.data? = some d) : x = .good d := by
  cases x with
  | good e => exact congrArg Stored.good (Option.some.inj h)
  | blank => cases h
  | failed => cases h

theorem sectionValid_iff (x : Stored SectionData) : sectionValid x = true ↔ ∃ d, x = .good d := by
  cases x with
  | good d => exact iff_of_true rfl ⟨d, rfl⟩
  | blank => exact iff_of_false nofun nofun
  | failed => exact iff_of_false nofun nofun

section
variable {n : Nv}

theorem loadedClasses_good {v} (h : n.sections[sectionIdx .cls] = .good (.cls v)) : loadedClasses n = v := by
  have hd := congrArg Stored.data? h
  unfold loadedClasses
  split
  · next w e => exact SectionData.cls.inj (Option.some.inj (e.symm.trans hd))
  · next hne => exact absurd hd (hne v)

theorem loadedClasses_default (h : ∀ v, n.sections[sectionIdx .cls] ≠ .good (.cls v)) : loadedClasses n = Vector.replicate 8 none := by
  unfold loadedClasses
  split
  · next v e => exact absurd (Stored.eq_good_of_data? e) (h v)
  · rfl

theorem loadedBays_good {v} (h : n.sections[sectionIdx .bay] = .good (.bay v)) : loadedBays n = v := by
  have hd := congrArg Stored.data? h
  unfold loadedBays
  split
  · next w e => exact SectionData.bay.inj (Option.some.inj (e.symm.trans hd))
  · next hne => exact absurd hd (hne v)

theorem loadedBays_default (h : ∀ v, n.sections[sectionIdx .bay] ≠ .good (.bay v)) : loadedBays n = Vector.replicate 8 none := by
  unfold loadedBays
  split
  · next v e => exact absurd (Stored.eq_good_of_data? e) (h v)
  · rfl

theorem loadedBudget_good {v} (h : n.sections[sectionIdx .budget] = .good (.budget v)) : loadedBudget n = v := by
  have hd := congrArg Stored.data? h
  unfold loadedBudget
  split
  · next w e => exact SectionData.budget.inj (Option.some.inj (e.symm.trans hd))
  · next hne => exact absurd hd (hne v)

theorem loadedBudget_default (h : ∀ v, n.sections[sectionIdx .budget] ≠ .good (.budget v)) : loadedBudget n = Budget.default := by
  unfold loadedBudget
  split
  · next v e => exact absurd (Stored.eq_good_of_data? e) (h v)
  · rfl

theorem loadedZones_good {v} (h : n.sections[sectionIdx .zone] = .good (.zone v)) : loadedZones n = v := by
  have hd := congrArg Stored.data? h
  unfold loadedZones
  split
  · next w e => exact SectionData.zone.inj (Option.some.inj (e.symm.trans hd))
  · next hne => exact absurd hd (hne v)

theorem loadedZones_default (h : ∀ v, n.sections[sectionIdx .zone] ≠ .good (.zone v)) :
    loadedZones n = Vector.replicate 12 ZoneSettings.default := by
  unfold loadedZones
  split
  · next v e => exact absurd (Stored.eq_good_of_data? e) (h v)
  · rfl

theorem loadedCells_good {v} (h : n.sections[sectionIdx .action] = .good (.action v)) : loadedCells n = v := by
  have hd := congrArg Stored.data? h
  unfold loadedCells
  split
  · next w e => exact SectionData.action.inj (Option.some.inj (e.symm.trans hd))
  · next hne => exact absurd hd (hne v)

theorem loadedCells_default (h : ∀ v, n.sections[sectionIdx .action] ≠ .good (.action v)) :
    loadedCells n = Vector.replicate 12 ZoneCells.default := by
  unfold loadedCells
  split
  · next v e => exact absurd (Stored.eq_good_of_data? e) (h v)
  · rfl

theorem loadedHeads_good {p q} (h : n.sections[sectionIdx .head] = .good (.head p q)) : loadedHeads n .a = p ∧ loadedHeads n .b = q := by
  have hd := congrArg Stored.data? h
  have heads (l : LoopId) : loadedHeads n l = match l with | .a => p | .b => q := by
    unfold loadedHeads
    split
    · next p' q' e =>
      obtain ⟨rfl, rfl⟩ := SectionData.head.inj (Option.some.inj (e.symm.trans hd))
      rfl
    · next hne => exact absurd hd (hne p q)
  exact ⟨heads .a, heads .b⟩

theorem loadedHeads_default (h : ∀ p q, n.sections[sectionIdx .head] ≠ .good (.head p q)) (l : LoopId) :
    loadedHeads n l = Vector.replicate 32 none := by
  unfold loadedHeads
  split
  · next p q e => exact absurd (Stored.eq_good_of_data? e) (h p q)
  · rfl

theorem loadedAtm_good {v} (h : n.sections[sectionIdx .atmosphere] = .good (.atmosphere v)) : loadedAtm n = v := by
  have hd := congrArg Stored.data? h
  unfold loadedAtm
  split
  · next w e => exact SectionData.atmosphere.inj (Option.some.inj (e.symm.trans hd))
  · next hne => exact absurd hd (hne v)

theorem loadedAtm_default (h : ∀ v, n.sections[sectionIdx .atmosphere] ≠ .good (.atmosphere v)) : loadedAtm n = AtmSettings.default := by
  unfold loadedAtm
  split
  · next v e => exact absurd (Stored.eq_good_of_data? e) (h v)
  · rfl

theorem loadedFeed_good {v} (h : n.sections[sectionIdx .feed] = .good (.feed v)) : loadedFeed n = v := by
  have hd := congrArg Stored.data? h
  unfold loadedFeed
  split
  · next w e => exact SectionData.feed.inj (Option.some.inj (e.symm.trans hd))
  · next hne => exact absurd hd (hne v)

theorem loadedFeed_default (h : ∀ v, n.sections[sectionIdx .feed] ≠ .good (.feed v)) : loadedFeed n = FeedSettings.default := by
  unfold loadedFeed
  split
  · next v e => exact absurd (Stored.eq_good_of_data? e) (h v)
  · rfl

/-! ### The exported mark (R169) -/

theorem scannedMark_good {m : Nat} (h : n.sections[sectionIdx .exported] = .good (.exported m)) : scannedMark n = m := by
  have hd := congrArg Stored.data? h
  unfold scannedMark
  split
  · next k e => exact SectionData.exported.inj (Option.some.inj (e.symm.trans hd))
  · next hne => exact absurd hd (hne m)

/-- The mark where no EXPORT section is stored, from the sequence numbers of the records. -/
def markBelow : List Nat → Nat
  | [] => 0
  | q :: t => t.foldl min q - 1

theorem scannedMark_default (h : ∀ m, n.sections[sectionIdx .exported] ≠ .good (.exported m)) :
    scannedMark n = markBelow ((journalRecords n.journal).map Record.seq) := by
  unfold scannedMark
  split
  · next m e => exact absurd (Stored.eq_good_of_data? e) (h m)
  · rfl

/-- The mark lies one below the least sequence number. -/
theorem markBelow_least {l : List Nat} {m : Nat} (hm : m ∈ l) (hle : ∀ x ∈ l, m ≤ x) : markBelow l = m - 1 := by
  cases l with
  | nil => exact absurd hm List.not_mem_nil
  | cons q t =>
    have hmin : t.foldl min q = m := by
      exact Nat.le_antisymm (foldl_min_le hm) (hle _ (foldl_min_mem t q))
    rw [markBelow, hmin]

theorem scannedMark_empty (h : ∀ m, n.sections[sectionIdx .exported] ≠ .good (.exported m)) (hr : ∀ k r, (k, Slot.good r) ∉ n.journal) :
    scannedMark n = 0 := by
  have hnone : journalRecords n.journal = [] := List.eq_nil_iff_forall_not_mem.2 fun r hr' => by
    obtain ⟨k, hk⟩ := (mem_journalRecords _ _).1 hr'
    exact hr k r hk
  rw [scannedMark_default h, hnone]
  rfl

theorem scannedMark_oldest (h : ∀ m, n.sections[sectionIdx .exported] ≠ .good (.exported m)) {k : Nat} {r : Record}
    (hr : (k, Slot.good r) ∈ n.journal) (hle : ∀ i q, (i, Slot.good q) ∈ n.journal → r.seq ≤ q.seq) : scannedMark n = r.seq - 1 := by
  rw [scannedMark_default h]
  refine markBelow_least (List.mem_map.2 ⟨r, (mem_journalRecords _ _).2 ⟨k, hr⟩, rfl⟩) fun x hx => ?_
  obtain ⟨q, hq, rfl⟩ := List.mem_map.1 hx
  obtain ⟨i, hi⟩ := (mem_journalRecords _ _).1 hq
  exact hle i q hi

end

end Sys2Proof.Machine
end

section
/-! The journal, its records and the incident slots as the scan finds them (R158, R169, R170, log 28, O57). -/

namespace Sys2Proof.Machine

/-! ### The newest record (R169) -/

/-- One slot looked at by the scan. -/
def newerSlot (o : Option (Nat × Nat)) (e : Nat × Slot) : Option (Nat × Nat) :=
  match e.2 with
  | .failed => o
  | .good r =>
    match o with
    | none => some (r.seq, e.1)
    | some (q, n) => if q < r.seq then some (r.seq, e.1) else some (q, n)

theorem newestSlot_eq (j : List (Nat × Slot)) : newestSlot j = j.foldl newerSlot none := rfl

theorem newerSlot_stays {q k : Nat} {e : Nat × Slot} (h : ∀ r, e.2 = .good r → r.seq ≤ q) :
    newerSlot (some (q, k)) e = some (q, k) := by
  unfold newerSlot
  cases he : e.2 with
  | failed => rfl
  | good r => exact if_neg (Nat.not_lt.2 (h r he))

theorem newestSlot_none {j : List (Nat × Slot)} (h : ∀ k r, (k, Slot.good r) ∉ j) : newestSlot j = none := by
  rw [newestSlot_eq]
  induction j with
  | nil => rfl
  | cons e j ih =>
    obtain ⟨k, c⟩ := e
    cases c with
    | failed => exact ih fun k r hk => h k r (List.mem_cons_of_mem _ hk)
    | good r => exact absurd List.mem_cons_self (h k r)

theorem foldl_newerSlot_mem (l : List (Nat × Slot)) (o : Option (Nat × Nat)) : l.foldl newerSlot o = o
    ∨ ∃ i r, (i, Slot.good r) ∈ l ∧ l.foldl newerSlot o = some (r.seq, i) := by
  induction l generalizing o with
  | nil => exact .inl rfl
  | cons e l ih =>
    rw [List.foldl_cons]
    obtain h | ⟨i, r, hr, h⟩ := ih (newerSlot o e)
    · have step : newerSlot o e = o ∨ ∃ r, e.2 = .good r ∧ newerSlot o e = some (r.seq, e.1) := by
        unfold newerSlot
        cases e.2 with
        | failed => exact .inl rfl
        | good r =>
          cases o with
          | none => exact .inr ⟨r, rfl, rfl⟩
          | some p =>
            dsimp only
            split
            · exact .inr ⟨r, rfl, rfl⟩
            · exact .inl rfl
      obtain hs | ⟨r, he, hs⟩ := step
      · exact .inl (h.trans hs)
      · exact .inr ⟨e.1, r, by rw [← he]; exact List.mem_cons_self, h.trans hs⟩
    · exact .inr ⟨i, r, List.mem_cons_of_mem _ hr, h⟩

theorem newestSlot_newest {j : List (Nat × Slot)} {k : Nat} {r : Record} (hr : (k, Slot.good r) ∈ j)
    (hnew : ∀ i q, (i, Slot.good q) ∈ j → q.seq < r.seq ∨ (i = k ∧ q = r)) : newestSlot j = some (r.seq, k) := by
  have hle (i : Nat) (q : Record) (h : (i, Slot.good q) ∈ j) : q.seq ≤ r.seq := by
    obtain h | ⟨-, h⟩ := hnew i q h
    · exact h.le
    · exact (congrArg Record.seq h).le
  obtain ⟨a, b, rfl⟩ := List.append_of_mem hr
  have hmid : newerSlot (a.foldl newerSlot none) (k, .good r) = some (r.seq, k) := by
    obtain h | ⟨i, q, hq, h⟩ := foldl_newerSlot_mem a none
    · rw [h]
      rfl
    · rw [h]
      obtain hlt | ⟨rfl, rfl⟩ := hnew i q (List.mem_append_left _ hq)
      · exact if_pos hlt
      · exact if_neg (Nat.lt_irrefl _)
  have hrest (l : List (Nat × Slot)) (hl : ∀ i q, (i, Slot.good q) ∈ l → q.seq ≤ r.seq) :
      l.foldl newerSlot (some (r.seq, k)) = some (r.seq, k) := by
    induction l with
    | nil => rfl
    | cons e l ih =>
      rw [List.foldl_cons, newerSlot_stays fun q he => hl e.1 q (by rw [← he]; exact List.mem_cons_self)]
      exact ih fun i q h => hl i q (List.mem_cons_of_mem _ h)
  rw [newestSlot_eq, List.foldl_append, List.foldl_cons, hmid]
  exact hrest b fun i q h => hle i q (List.mem_append_right _ (List.mem_cons_of_mem _ h))

/-! ### The write pointer (R169) -/

/-- The assigned slots of segment `seg` from place `k` on end at `u`. -/
structure UsedUpTo (j : List (Nat × Slot)) (seg k u : Nat) : Prop where
  from_le : k ≤ u
  le : u ≤ 16
  assigned : ∀ i, k ≤ i → i < u → (journalAt j (16 * seg + i)).isSome = true
  erased : u < 16 → journalAt j (16 * seg + u) = none

theorem usedFrom_spec (j : List (Nat × Slot)) (seg : Nat) {k : Nat} (hk : k ≤ 16) : UsedUpTo j seg k (usedFrom j seg k) := by
  let l := (List.range 16).filter (fun i => decide (k ≤ i))
  have hmem {i : Nat} : i ∈ l ↔ i < 16 ∧ k ≤ i := by simp [l]
  have hsorted : l.Pairwise (· < ·) := List.pairwise_lt_range.filter _
  have hdef : usedFrom j seg k = (l.find? (fun i => (journalAt j (16 * seg + i)).isNone)).getD 16 := rfl
  rw [hdef]
  cases hf : l.find? (fun i => (journalAt j (16 * seg + i)).isNone) with
  | none =>
    refine ⟨hk, Nat.le_refl 16, fun i hi hlt => ?_, fun h => absurd h (Nat.lt_irrefl 16)⟩
    have h := List.find?_eq_none.1 hf i (hmem.2 ⟨hlt, hi⟩)
    exact Option.isSome_iff_ne_none.2 fun e => h (by rw [e]; rfl)
  | some u =>
    obtain ⟨hu, hku⟩ := hmem.1 (List.mem_of_find?_eq_some hf)
    have hnone := List.find?_some hf
    refine ⟨hku, hu.le, fun i hi hlt => Option.isSome_iff_ne_none.2 fun hn => ?_, fun _ => Option.isNone_iff_eq_none.1 hnone⟩
    obtain rfl | h := find?_first hsorted hf i (hmem.2 ⟨hlt.trans hu, hi⟩) (by rw [hn]; rfl)
    · exact Nat.lt_irrefl _ hlt
    · exact Nat.lt_asymm h hlt

/-! ### The records in sequence order (R170) -/

theorem insertRecord_perm (r : Record) (l : List Record) : (insertRecord r l).Perm (r :: l) := by
  induction l with
  | nil => exact .refl _
  | cons q l ih =>
    unfold insertRecord
    split
    · exact .refl _
    · exact (ih.cons q).trans (.swap r q l)

theorem insertRecord_sorted (r : Record) {l : List Record} (h : l.Pairwise (fun a b => a.seq ≤ b.seq)) :
    (insertRecord r l).Pairwise (fun a b => a.seq ≤ b.seq) := by
  induction l with
  | nil => exact List.pairwise_singleton _ r
  | cons q l ih =>
    obtain ⟨hq, hl⟩ := List.pairwise_cons.1 h
    unfold insertRecord
    split
    · next hle =>
      refine List.pairwise_cons.2 ⟨fun x hx => ?_, h⟩
      obtain rfl | hx := List.mem_cons.1 hx
      · exact hle
      · exact hle.trans (hq x hx)
    · next hgt =>
      refine List.pairwise_cons.2 ⟨fun x hx => ?_, ih hl⟩
      obtain rfl | hx := List.mem_cons.1 ((insertRecord_perm r l).mem_iff.1 hx)
      · exact (Nat.lt_of_not_le hgt).le
      · exact hq x hx

theorem sortRecords_perm (l : List Record) : (sortRecords l).Perm l := by
  induction l with
  | nil => exact .refl _
  | cons r l ih => exact (insertRecord_perm r (sortRecords l)).trans (ih.cons r)

theorem sortRecords_sorted (l : List Record) : (sortRecords l).Pairwise (fun a b => a.seq ≤ b.seq) := by
  induction l with
  | nil => exact List.Pairwise.nil
  | cons r l ih => exact insertRecord_sorted r ih

/-! ### The most recent incident (R169, log 28) -/

/-- The incident opened by `o` is one whose next slot in the ring does not hold the next number. -/
def Nv.lastOpened (n : Nv) (o : OpenPart) : Prop := ∃ i : Fin 16, n.incidents[i].opened = .good o
  ∧ ∀ p, n.incidents[incidentSlotOf (i.val + 1)].opened = .good p → p.number ≠ o.number + 1#16

theorem incidentSlotOf_val (i : Fin 16) : incidentSlotOf i.val = i := Fin.ext (Nat.mod_eq_of_lt i.isLt)

theorem incidents_slotOf (n : Nv) (i : Fin 16) : n.incidents[incidentSlotOf i.val] = n.incidents[i] :=
  congrArg (fun k : Fin 16 => n.incidents[k]) (incidentSlotOf_val i)

theorem mem_incidentCandidates {n : Nv} {x : BitVec 16} : x ∈ incidentCandidates n ↔ ∃ o, n.lastOpened o ∧ o.number = x := by
  unfold incidentCandidates
  rw [List.mem_filterMap]
  constructor
  · rintro ⟨i, hi, h⟩
    have hslot := incidents_slotOf n ⟨i, List.mem_range.1 hi⟩
    split at h
    · next o ho =>
      have ho := (congrArg IncidentSlot.opened hslot).symm.trans ho
      split at h
      · next p hp =>
        split at h
        · cases h
        · next hne =>
          refine ⟨o, ⟨⟨i, List.mem_range.1 hi⟩, ho, fun q hq => ?_⟩, Option.some.inj h⟩
          obtain rfl := Stored.good.inj (hp.symm.trans hq)
          exact hne
      · next hp =>
        exact ⟨o, ⟨⟨i, List.mem_range.1 hi⟩, ho, fun q hq => nomatch hp.symm.trans hq⟩, Option.some.inj h⟩
      · next hp =>
        exact ⟨o, ⟨⟨i, List.mem_range.1 hi⟩, ho, fun q hq => nomatch hp.symm.trans hq⟩, Option.some.inj h⟩
    · cases h
    · cases h
  · rintro ⟨o, ⟨i, ho, hnext⟩, rfl⟩
    refine ⟨i.val, List.mem_range.2 i.isLt, ?_⟩
    rw [incidents_slotOf, ho]
    dsimp only
    split
    · next p hp => exact if_neg (hnext p hp)
    · rfl
    · rfl

theorem scannedIncident_none {n : Nv} (h : ∀ o, ¬n.lastOpened o) (free : Nat) : scannedIncident n free = none := by
  have hc : incidentCandidates n = [] := List.eq_nil_iff_forall_not_mem.2 fun x hx => by
    obtain ⟨o, ho, -⟩ := mem_incidentCandidates.1 hx
    exact h o ho
  unfold scannedIncident
  rw [hc]

theorem scannedIncident_some {n : Nv} (h : ∃ o, n.lastOpened o) (free : Nat) :
    ∃ o, n.lastOpened o ∧ scannedIncident n free = some o.number := by
  obtain ⟨o, ho⟩ := h
  have hmem := mem_incidentCandidates.2 ⟨o, ho, rfl⟩
  have hpick : ∃ x ∈ incidentCandidates n, scannedIncident n free = some x := by
    unfold scannedIncident
    split
    · next hc =>
      rw [hc] at hmem
      exact absurd hmem List.not_mem_nil
    · next x hc => exact ⟨x, by rw [hc]; exact List.mem_cons_self, rfl⟩
    · next x l hne hc =>
      have hlt : Config.scanPick (l.length + 1) free % (l.length + 1) < (x :: l).length := Nat.mod_lt _ (Nat.succ_pos _)
      exact ⟨(x :: l)[Config.scanPick (l.length + 1) free % (l.length + 1)], by rw [hc]; exact List.getElem_mem hlt,
        List.getElem?_eq_getElem hlt⟩
  obtain ⟨x, hx, he⟩ := hpick
  obtain ⟨q, hq, rfl⟩ := mem_incidentCandidates.1 hx
  exact ⟨q, hq, he⟩

end Sys2Proof.Machine
end

section
/-! The resets, and what start-up gives (R151, R153, R168 to R170, O57). -/

namespace Sys2Proof.Machine

/-! ### The part held in reset, and its release (R168, logs 30, 40) -/

theorem zone_holdReset (s : State) (p : Phase) (z : ZoneId) : (holdReset s p).zone z = Zone.initial := Vector.getElem_replicate z.isLt

theorem supplyEvent_release {s : State} (hp : s.phase = .inPowerReset) {v : Nat} (hv : 1700 ≤ v) :
    supplyEvent s v = startUp { s with line := { s.line with supply := v } } := by
  unfold supplyEvent
  dsimp only
  rw [if_neg (by omega), if_pos hp, powerUp, if_pos hp, if_pos hv]
  rfl

theorem powerUp_release {s : State} (hp : s.phase = .inPowerReset) {v : Nat} (hv : 1700 ≤ v) :
    powerUp s v = startUp { s with line := { s.line with supply := v } } := by
  rw [powerUp, if_pos hp, if_pos hv]
  rfl

/-! ### What start-up leaves, field by field -/

section
variable (s : State)

theorem startUp_state {α : Type} (f : State → α) (h : ∀ t l k, f { t with line := l, link := k } = f t) :
    f (startUp s) = f (startedNormal s) := by
  obtain ⟨hframe, -⟩ := startUp_frame s
  rw [hframe]
  exact h _ _ _

theorem bay_startUp (b : BayId) : (startUp s).bay b = { Bay.initial with settings := (loadedBays s.cutNv)[b] } := by
  have hbays : (startUp s).bays = (scanned s).bays := startUp_state s State.bays fun _ _ _ => rfl
  exact (bay_of_bays hbays b).trans (bay_scanned s b)

theorem zone_startUp (z : ZoneId) : (startUp s).zone z = { Zone.initial with
    settings := (loadedZones s.cutNv)[z], counts := (scanned s).headCounts z } :=
  (startUp_state s (fun t => t.zone z) fun _ _ _ => rfl).trans (zone_zonesFormed s z)

theorem head_startUp (l : LoopId) (a : HeadAddr) :
    (startUp s).head l a = ((loadedHeads s.cutNv l)[a]).map (fun e => freshHead e.kind e.zone false) := by
  have hloop : (startUp s).loop l = (scanned s).loop l := by
    cases l with
    | a => exact startUp_state s State.loopA fun _ _ _ => rfl
    | b => exact startUp_state s State.loopB fun _ _ _ => rfl
  rw [← head_scanned, State.head, hloop]
  rfl

theorem writer_startUp : (startUp s).writer = startWriter s := startUp_state s State.writer fun _ _ _ => rfl

theorem reusable_startUp (g : Nat) : (startUp s).reusable g = (zonesFormed s).reusable g :=
  startUp_state s (fun t => t.reusable g) fun _ _ _ => rfl

/-- The erase-ahead is under way where start-up called for it (R158, R161). -/
theorem startRunning_eq : startRunning s = (let w := (zonesFormed s).writer
    if 0 < w.used ∧ (zonesFormed s).reusable w.next = true ∧ segErased s.cutNv.journal w.next = false
    then some (.erase (.journal w.next) false false) else none) := by
  unfold startRunning startAheads
  dsimp only
  simp only [Bool.and_eq_true, decide_eq_true_eq, Bool.not_eq_true', and_assoc]
  split
  · rfl
  · rfl

theorem valid_startUp (c : Section) : (startUp s).writer.valid[sectionIdx c] = true ↔ ∃ d, s.cutNv.sections[sectionIdx c] = .good d := by
  rw [writer_startUp, ← sectionValid_iff]
  exact iff_of_eq (congrArg (· = true) (Vector.getElem_ofFn (sectionIdx c).isLt))

/-! ### The Journal Writer's pointers (R169) -/

theorem scannedWriter_empty {n : Nv} (i : Option (BitVec 16)) (h : ∀ k r, (k, Slot.good r) ∉ n.journal) :
    (scannedWriter n i).nextSeq = 1 ∧ (scannedWriter n i).current = 0 ∧ (scannedWriter n i).used = usedFrom n.journal 0 0 := by
  unfold scannedWriter
  rw [newestSlot_none h]
  exact ⟨rfl, rfl, rfl⟩

theorem scannedWriter_newest {n : Nv} (i : Option (BitVec 16)) {k : Nat} {r : Record} (hr : (k, Slot.good r) ∈ n.journal)
    (hnew : ∀ i q, (i, Slot.good q) ∈ n.journal → q.seq < r.seq ∨ (i = k ∧ q = r)) :
    (scannedWriter n i).nextSeq = r.seq + 1 ∧ (scannedWriter n i).current = segOf k
      ∧ (scannedWriter n i).used = usedFrom n.journal (segOf k) (k % 16 + 1) := by
  unfold scannedWriter
  rw [newestSlot_newest hr hnew]
  exact ⟨rfl, rfl, rfl⟩

end

end Sys2Proof.Machine
end

section
/-! The resets, start-up and the scan, put together (O57). -/

namespace Sys2Proof.Machine

/-- Part 1 of O57: the part held in reset, its releases, and the state of start-up. -/
theorem reset_and_release (s : State) (v : Nat) (c : Instr) :
    let held (t : State) (p : Phase) : Prop :=
      t.phase = p ∧ t.nv = s.cutNv ∧ t.packs = [] ∧ t.lots = [] ∧ t.queue = [] ∧ t.writer.buffer = [] ∧ t.link.queue = []
      ∧ t.interlock.runOutput = false ∧ t.feeder.gate = false ∧ t.atm.valve = .closed
      ∧ (∀ z, (t.zone z).quench = false ∧ (t.zone z).suppression = false) ∧ t.pending = s.pending ∧ t.gaps = s.gaps
    (∃ t, exec .powerReset s = .next t ∧ held t .inPowerReset)
    ∧ (s.phase ≠ .inPowerReset → ∃ t, exec .pinReset s = .next t ∧ held t .inPinReset)
    ∧ (s.phase = .inPowerReset → exec .pinReset s = .next s)
    ∧ (s.phase = .inPowerReset → v < 1700 →
      exec (.powerResetRelease v) s = .next { s with line := { s.line with supply := v } })
    ∧ (s.phase = .inPowerReset → 1700 ≤ v → (c = .powerResetRelease v ∨ c = .supplyWarning v ∨ c = .supplyNormal v) →
      exec c s = .next (startUp { s with line := { s.line with supply := v } }))
    ∧ (s.phase = .inPinReset → exec .pinResetRelease s = .next (startUp s)) := by
  intro held
  have hheld (p : Phase) : held (holdReset s p) p :=
    ⟨rfl, rfl, rfl, rfl, rfl, rfl, rfl, rfl, rfl, rfl, fun z => by rw [zone_holdReset]; exact ⟨rfl, rfl⟩, rfl, rfl⟩
  refine ⟨⟨_, rfl, hheld _⟩, fun hp => ⟨_, congrArg Host.Outcome.next (if_neg hp), hheld _⟩,
    fun hp => congrArg Host.Outcome.next (if_pos hp), fun hp hv => ?_, fun hp hv hc => ?_,
    fun hp => congrArg Host.Outcome.next (if_pos hp)⟩
  · change Host.Outcome.next (powerUp s v) = _
    rw [powerUp, if_pos hp, if_neg (Nat.not_le.2 hv)]
    rfl
  · obtain rfl | rfl | rfl := hc
    · exact congrArg Host.Outcome.next (powerUp_release hp hv)
    · exact congrArg Host.Outcome.next (supplyEvent_release hp hv)
    · exact congrArg Host.Outcome.next (supplyEvent_release hp hv)

/-- Part 2 of O57: what an operation cut short leaves. -/
theorem operation_cut (s : State) :
    (s.writer.suspended = none → (s.writer.running = none ∨ ∃ o, s.writer.running = some (.read o)) → s.cutNv = s.nv)
    ∧ (s.writer.suspended = none → ∀ k, s.writer.running = some (.journalProgram k) →
        s.cutNv = { s.nv with journal := s.cutNv.journal }
        ∧ (∀ n, (∃ b ∈ s.writer.buffer.take k, b.slot = some n) → journalAt s.cutNv.journal n = some .failed)
        ∧ (∀ n, (∀ b ∈ s.writer.buffer.take k, b.slot ≠ some n) → journalAt s.cutNv.journal n = journalAt s.nv.journal n))
    ∧ (∀ g, (s.writer.suspended = some (.journal g) ∧ s.writer.running = none)
          ∨ (s.writer.suspended = none ∧ ∃ n u, s.writer.running = some (.erase (.journal g) n u)) → SegmentFailed g s.nv s.cutNv)
    ∧ (∀ i, (s.writer.suspended = some (.incident i) ∧ s.writer.running = none)
          ∨ (s.writer.suspended = none ∧ ∃ n u, s.writer.running = some (.erase (.incident i) n u)) →
        s.cutNv = { s.nv with incidents := vput s.nv.incidents (incidentSlotOf i) ⟨.failed, .failed⟩ })
    ∧ (s.writer.suspended = none → ∀ p l, s.writer.running = some .incidentProgram → s.writer.incidents = p :: l →
        s.cutNv = { s.nv with
          incidents := vput s.nv.incidents (incidentSlotOf p.number.toNat) (s.nv.incidents[incidentSlotOf p.number.toNat].failPart p) })
    ∧ (s.writer.suspended = none → ∀ c,
        (s.writer.running = some (.settingsErase c) ∨ ∃ d, s.writer.running = some (.settingsProgram c d)) →
        s.cutNv = { s.nv with sections := vput s.nv.sections (sectionIdx c) .failed })
    ∧ (let c := ({ s with writer := { s.writer with suspended := none } } : State).cutNv
       (∀ g, s.writer.suspended = some (.journal g) → SegmentFailed g c s.cutNv)
       ∧ (∀ i, s.writer.suspended = some (.incident i) →
          s.cutNv = { c with incidents := vput c.incidents (incidentSlotOf i) ⟨.failed, .failed⟩ })) := by
  have hc : ({ s with writer := { s.writer with suspended := none } } : State).cutNv = s.writer.cutRunning s.nv := cutNv_running rfl
  refine ⟨fun hu hr => (cutNv_running hu).trans (cutRunning_keeps hr), fun hu k hr => cutNv_program hu hr, fun g h => ?_,
    fun i h => (cutNv_erase h).trans rfl, fun hu p l hr hp => (cutNv_running hu).trans (cutRunning_incident hr hp),
    fun hu c hc => (cutNv_running hu).trans (cutRunning_settings hc), ?_⟩
  · rw [cutNv_erase h]
    exact segmentFailed_failTarget s.nv g
  · rw [hc]
    refine ⟨fun g hg => ?_, fun i hi => (cutNv_suspended hi).trans rfl⟩
    rw [cutNv_suspended hg]
    exact segmentFailed_failTarget _ g

/-- Part 3 of O57: the first comparison of the supply, and the first notice. -/
theorem first_comparison (s : State) : (startUp s).line.supply = s.line.supply
    ∧ (warningLevel (startUp s).feeder.settings.step ≤ s.line.supply →
        (startUp s).line.monitor = .normal ∧ (startUp s).line.flushDone = false
        ∧ (startUp s).link = { Link.initial with tx := some (.notice (noticeContent (startUp s) .journal)) })
    ∧ (s.line.supply < warningLevel (startUp s).feeder.settings.step →
        (startUp s).line.monitor = .warning ∧ (startUp s).line.mode = .safeHold ∧ (startUp s).line.flushDone = true
        ∧ (startUp s).link = { Link.initial with
          tx := some (.notice (noticeContent (startUp s) .line)), noticePending := noticeBit .journal }) := by
  have hfeeder : (startUp s).feeder = (zonesFormed s).feeder := startUp_state s State.feeder fun _ _ _ => rfl
  obtain ⟨-, hsupply, -⟩ := startUp_frame s
  rw [hfeeder]
  refine ⟨hsupply, fun hw => ?_, fun hw => ?_⟩
  · rw [startUp_normal hw]
    exact ⟨rfl, rfl, rfl⟩
  · rw [startUp_warned hw]
    exact ⟨rfl, rfl, rfl, rfl⟩

section
variable (s : State)

/-! ### The settings, as start-up has loaded them -/

theorem classes_startUp : (startUp s).classes = loadedClasses s.cutNv := startUp_state s State.classes fun _ _ _ => rfl

theorem budget_startUp : (startUp s).budget = loadedBudget s.cutNv := startUp_state s State.budget fun _ _ _ => rfl

theorem cells_startUp : (startUp s).cells = loadedCells s.cutNv := startUp_state s State.cells fun _ _ _ => rfl

theorem atm_startUp : (startUp s).atm = { Atmosphere.initial with settings := loadedAtm s.cutNv } :=
  startUp_state s State.atm fun _ _ _ => rfl

theorem feeder_startUp : (startUp s).feeder = { Feeder.initial with
    settings := loadedFeed s.cutNv, resettle := (loadedAtm s.cutNv).resettle, resettleNow := (loadedAtm s.cutNv).resettle } :=
  startUp_state s State.feeder fun _ _ _ => rfl

theorem settings_bay_startUp (b : BayId) : ((startUp s).bay b).settings = (loadedBays s.cutNv)[b] := by rw [bay_startUp]

theorem settings_zone_startUp (z : ZoneId) : ((startUp s).zone z).settings = (loadedZones s.cutNv)[z] := by rw [zone_startUp]

theorem mark_startUp : (startUp s).writer.mark = scannedMark s.cutNv := congrArg Writer.mark (writer_startUp s)

end

/-! ### Part 4 of O57: what the scan loads, section by section -/

section
variable (s : State)

theorem classes_loaded : (∀ v, s.cutNv.sections[sectionIdx .cls] = .good (.cls v) → (startUp s).classes = v)
    ∧ ((∀ v, ¬s.cutNv.sections[sectionIdx .cls] = .good (.cls v)) → ∀ c : ClassId, (startUp s).classes[c] = none) := by
  rw [classes_startUp]
  refine ⟨fun v h => loadedClasses_good h, fun h c => ?_⟩
  rw [loadedClasses_default h]
  exact Vector.getElem_replicate c.isLt

theorem bays_loaded : (∀ v, s.cutNv.sections[sectionIdx .bay] = .good (.bay v) → ∀ b : BayId, ((startUp s).bay b).settings = v[b])
    ∧ ((∀ v, ¬s.cutNv.sections[sectionIdx .bay] = .good (.bay v)) → ∀ b, ((startUp s).bay b).settings = none) := by
  refine ⟨fun v h b => ?_, fun h b => ?_⟩
  · rw [settings_bay_startUp, loadedBays_good h]
  · rw [settings_bay_startUp, loadedBays_default h]
    exact Vector.getElem_replicate b.isLt

theorem budget_loaded : (∀ v, s.cutNv.sections[sectionIdx .budget] = .good (.budget v) → (startUp s).budget = v)
    ∧ ((∀ v, ¬s.cutNv.sections[sectionIdx .budget] = .good (.budget v)) → (startUp s).budget = Budget.default) := by
  rw [budget_startUp]
  exact ⟨fun v h => loadedBudget_good h,
    fun h => loadedBudget_default h⟩

theorem zones_loaded : (∀ v, s.cutNv.sections[sectionIdx .zone] = .good (.zone v) → ∀ z : ZoneId, ((startUp s).zone z).settings = v[z])
    ∧ ((∀ v, ¬s.cutNv.sections[sectionIdx .zone] = .good (.zone v)) → ∀ z, ((startUp s).zone z).settings = ZoneSettings.default) := by
  refine ⟨fun v h z => ?_, fun h z => ?_⟩
  · rw [settings_zone_startUp, loadedZones_good h]
  · rw [settings_zone_startUp, loadedZones_default h]
    exact Vector.getElem_replicate z.isLt

theorem cells_loaded : (∀ v, s.cutNv.sections[sectionIdx .action] = .good (.action v) → (startUp s).cells = v)
    ∧ ((∀ v, ¬s.cutNv.sections[sectionIdx .action] = .good (.action v)) →
      ∀ z : ZoneId, (startUp s).cells[z] = ZoneCells.default) := by
  rw [cells_startUp]
  refine ⟨fun v h => loadedCells_good h, fun h z => ?_⟩
  rw [loadedCells_default h]
  exact Vector.getElem_replicate z.isLt

theorem heads_loaded : (∀ p q, s.cutNv.sections[sectionIdx .head] = .good (.head p q) → ∀ a : HeadAddr,
      (startUp s).head .a a = (p[a]).map (fun e => freshHead e.kind e.zone false)
      ∧ (startUp s).head .b a = (q[a]).map (fun e => freshHead e.kind e.zone false))
    ∧ ((∀ p q, ¬s.cutNv.sections[sectionIdx .head] = .good (.head p q)) → ∀ l a, (startUp s).head l a = none) := by
  refine ⟨fun p q h a => ?_, fun h l a => ?_⟩
  · obtain ⟨ha, hb⟩ := loadedHeads_good h
    rw [head_startUp, head_startUp, ha, hb]
    exact ⟨rfl, rfl⟩
  · rw [head_startUp, loadedHeads_default h]
    exact congrArg (Option.map _) (Vector.getElem_replicate a.isLt)

theorem settings_atm_startUp : (startUp s).atm.settings = loadedAtm s.cutNv := congrArg Atmosphere.settings (atm_startUp s)

theorem settings_feeder_startUp : (startUp s).feeder.settings = loadedFeed s.cutNv := congrArg Feeder.settings (feeder_startUp s)

theorem resettle_startUp : (startUp s).feeder.resettle = (startUp s).atm.settings.resettle :=
  (congrArg Feeder.resettle (feeder_startUp s)).trans (congrArg AtmSettings.resettle (settings_atm_startUp s)).symm

theorem atm_loaded : (∀ v, s.cutNv.sections[sectionIdx .atmosphere] = .good (.atmosphere v) → (startUp s).atm.settings = v)
    ∧ ((∀ v, ¬s.cutNv.sections[sectionIdx .atmosphere] = .good (.atmosphere v)) →
      (startUp s).atm.settings = AtmSettings.default) := by
  rw [settings_atm_startUp]
  exact ⟨fun v h => loadedAtm_good h, fun h => loadedAtm_default h⟩

theorem feed_loaded : (∀ v, s.cutNv.sections[sectionIdx .feed] = .good (.feed v) → (startUp s).feeder.settings = v)
    ∧ ((∀ v, ¬s.cutNv.sections[sectionIdx .feed] = .good (.feed v)) → (startUp s).feeder.settings = FeedSettings.default) := by
  rw [settings_feeder_startUp]
  exact ⟨fun v h => loadedFeed_good h, fun h => loadedFeed_default h⟩

theorem mark_loaded : (∀ m, s.cutNv.sections[sectionIdx .exported] = .good (.exported m) → (startUp s).writer.mark = m)
    ∧ ((∀ m, ¬s.cutNv.sections[sectionIdx .exported] = .good (.exported m)) →
      ((∀ k r, (k, Slot.good r) ∉ s.cutNv.journal) → (startUp s).writer.mark = 0)
      ∧ (∀ k r, (k, Slot.good r) ∈ s.cutNv.journal → (∀ i q, (i, Slot.good q) ∈ s.cutNv.journal → r.seq ≤ q.seq) →
        (startUp s).writer.mark = r.seq - 1)) := by
  rw [mark_startUp]
  refine ⟨fun m h => scannedMark_good h, fun h => ?_⟩
  exact ⟨fun hn => scannedMark_empty h hn, fun k r hr hle => scannedMark_oldest h hr hle⟩

/-! ### Part 5 of O57: the write pointer, the erase-ahead, the replay and the incident of the scan -/

theorem pointer_startUp : (startUp s).writer.nextSeq = (scannedWriter s.cutNv (scannedIncident s.cutNv s.free)).nextSeq
    ∧ (startUp s).writer.current = (scannedWriter s.cutNv (scannedIncident s.cutNv s.free)).current
    ∧ (startUp s).writer.used = (scannedWriter s.cutNv (scannedIncident s.cutNv s.free)).used := by
  rw [writer_startUp]
  exact ⟨rfl, rfl, rfl⟩

/-- Where the journal holds no good record, the write pointer is at the first erased slot of segment 0 (log 7). -/
theorem pointer_empty (h : ∀ k r, (k, Slot.good r) ∉ s.cutNv.journal) :
    (startUp s).writer.nextSeq = 1 ∧ (startUp s).writer.current = 0 ∧ (startUp s).writer.used ≤ 16
    ∧ (∀ i, i < (startUp s).writer.used → (journalAt s.cutNv.journal i).isSome = true)
    ∧ ((startUp s).writer.used < 16 → journalAt s.cutNv.journal (startUp s).writer.used = none) := by
  obtain ⟨hseq, hcur, hused⟩ := pointer_startUp s
  obtain ⟨h₁, h₂, h₃⟩ := scannedWriter_empty (scannedIncident s.cutNv s.free) h
  have U := usedFrom_spec s.cutNv.journal 0 (k := 0) (Nat.zero_le 16)
  rw [← hused.trans h₃] at U
  refine ⟨hseq.trans h₁, hcur.trans h₂, U.le, fun i hi => ?_, fun h => ?_⟩
  · have h := U.assigned i (Nat.zero_le i) hi
    rwa [Nat.mul_zero, Nat.zero_add] at h
  · have h := U.erased h
    rwa [Nat.mul_zero, Nat.zero_add] at h

theorem pointer_newest {k : Nat} {r : Record} (hr : (k, Slot.good r) ∈ s.cutNv.journal)
    (hnew : ∀ i q, (i, Slot.good q) ∈ s.cutNv.journal → q.seq < r.seq ∨ (i = k ∧ q = r)) :
    (startUp s).writer.nextSeq = r.seq + 1 ∧ (startUp s).writer.current = segOf k ∧ k % 16 < (startUp s).writer.used
    ∧ (startUp s).writer.used ≤ 16
    ∧ (∀ i, k % 16 < i → i < (startUp s).writer.used → (journalAt s.cutNv.journal (16 * segOf k + i)).isSome = true)
    ∧ ((startUp s).writer.used < 16 → journalAt s.cutNv.journal (16 * segOf k + (startUp s).writer.used) = none) := by
  obtain ⟨hseq, hcur, hused⟩ := pointer_startUp s
  obtain ⟨h₁, h₂, h₃⟩ := scannedWriter_newest (scannedIncident s.cutNv s.free) hr hnew
  have U := usedFrom_spec s.cutNv.journal (segOf k) (k := k % 16 + 1) (Nat.mod_lt k (by decide))
  rw [← hused.trans h₃] at U
  exact ⟨hseq.trans h₁, hcur.trans h₂, U.from_le, U.le, fun i hi hlt => U.assigned i hi hlt, U.erased⟩

theorem next_startUp : (startUp s).writer.next = (zonesFormed s).writer.next ∧ (startUp s).writer.used = (zonesFormed s).writer.used
    ∧ (startUp s).writer.running = startRunning s := by
  rw [writer_startUp]
  exact ⟨rfl, rfl, rfl⟩

theorem running_startUp : (startUp s).writer.running =
    if 0 < (startUp s).writer.used ∧ (startUp s).reusable (startUp s).writer.next = true
      ∧ segErased s.cutNv.journal (startUp s).writer.next = false
    then some (.erase (.journal (startUp s).writer.next) false false) else none := by
  obtain ⟨hnext, hused, hrunning⟩ := next_startUp s
  rw [hrunning, hnext, hused, reusable_startUp, startRunning_eq]

theorem rebuilt_startUp : (startUp s).rebuilt = some (replay s.cutNv.journal (scannedMark s.cutNv)) :=
  startUp_state s State.rebuilt fun _ _ _ => rfl

theorem replayed_startUp : ∃ l : List Record,
    l.Perm ((journalRecords s.cutNv.journal).filter (fun r => (startUp s).writer.mark < r.seq))
    ∧ l.Pairwise (fun a b => a.seq ≤ b.seq) ∧ (startUp s).rebuilt = some (l.foldl replayRecord ⟨[], [], []⟩) := by
  rw [mark_startUp, rebuilt_startUp]
  exact ⟨_, sortRecords_perm _, sortRecords_sorted _, rfl⟩

end

/-- Part 5 of O57, the most recent incident. -/
theorem incident_scanned (s : State) :
    ((∀ o, ¬s.cutNv.lastOpened o) → (startUp s).incident = ⟨0#16, none⟩ ∧ (startUp s).writer.lastIncident = none)
    ∧ ((∃ o, s.cutNv.lastOpened o) →
      ∃ o, s.cutNv.lastOpened o ∧ (startUp s).incident = ⟨o.number, none⟩ ∧ (startUp s).writer.lastIncident = some o.number) := by
  have hincident : (startUp s).incident = ⟨(scannedIncident s.cutNv s.free).getD 0#16, none⟩ :=
    startUp_state s State.incident fun _ _ _ => rfl
  have hlast : (startUp s).writer.lastIncident = scannedIncident s.cutNv s.free := congrArg Writer.lastIncident (writer_startUp s)
  rw [hincident, hlast]
  refine ⟨fun h => ?_, fun h => ?_⟩
  · rw [scannedIncident_none h]
    exact ⟨rfl, rfl⟩
  · obtain ⟨o, ho, e⟩ := scannedIncident_some h s.free
    rw [e]
    exact ⟨o, ho, rfl, rfl⟩

/-- Settles O57, part by part; in the fourth the state after start-up and the scanned array are made variables, since only the
facts about the sections speak of them. -/
theorem resetsTaken : Obligations.ResetsTaken := by
  refine ⟨fun s v c => ?_, fun s => ?_, fun s => ?_, fun s => ?_, fun s => ?_⟩
  · intro held
    obtain ⟨h₁, h₂, h₃, h₄, h₅, h₆⟩ := reset_and_release s v c
    obtain ⟨-, -, hqueue, hsub⟩ := startUp_frame s
    refine ⟨h₁, h₂, h₃, h₄, h₅, h₆, startUp_state s State.phase fun _ _ _ => rfl, startUp_state s State.nv fun _ _ _ => rfl,
      startUp_state s State.packs fun _ _ _ => rfl, startUp_state s State.lots fun _ _ _ => rfl,
      startUp_state s State.held fun _ _ _ => rfl, congrArg Writer.buffer (writer_startUp s), hqueue,
      startUp_state s State.gaps fun _ _ _ => rfl, hsub, startUp_state s (fun t => t.interlock.state) fun _ _ _ => rfl,
      startUp_state s (fun t => t.feeder.state) fun _ _ _ => rfl, startUp_state s (fun t => t.feeder.gate) fun _ _ _ => rfl,
      startUp_state s (fun t => t.atm.state) fun _ _ _ => rfl, startUp_state s (fun t => t.incident.progress) fun _ _ _ => rfl,
      fun b => ?_, fun z => ?_⟩
    · rw [bay_startUp]
      exact ⟨rfl, rfl, rfl⟩
    · rw [zone_startUp]
      exact ⟨rfl, rfl⟩
  · exact operation_cut s
  · have h := first_comparison s
    simp only [warningLevel] at h
    exact h
  · have hv := valid_startUp s
    have hr := resettle_startUp s
    obtain ⟨c₁, c₂⟩ := classes_loaded s
    obtain ⟨b₁, b₂⟩ := bays_loaded s
    obtain ⟨g₁, g₂⟩ := budget_loaded s
    obtain ⟨z₁, z₂⟩ := zones_loaded s
    obtain ⟨a₁, a₂⟩ := cells_loaded s
    obtain ⟨d₁, d₂⟩ := heads_loaded s
    obtain ⟨m₁, m₂⟩ := atm_loaded s
    obtain ⟨f₁, f₂⟩ := feed_loaded s
    obtain ⟨e₁, e₂⟩ := mark_loaded s
    generalize startUp s = u at *
    generalize s.cutNv = n at *
    exact ⟨hv, c₁, c₂, b₁, b₂, g₁, g₂, z₁, z₂, a₁, a₂, d₁, d₂, m₁, m₂, hr, f₁, f₂, e₁, e₂⟩
  · exact ⟨pointer_empty s, fun _ _ => pointer_newest s, congrArg Writer.aheads (writer_startUp s),
      congrArg Writer.suspended (writer_startUp s), running_startUp s, replayed_startUp s, fun r => mem_journalRecords _ r,
      incident_scanned s⟩

end Sys2Proof.Machine
end
